-- ==== Sys2Proof/Word.lean ====
section
/-! DEFINITION. The words of the part: bytes of the serial frames, strobe and hide numbers of 16 bits,
feed positions of 32 bits (00_scope.md, Conventions). -/

namespace Sys2Proof

/-- A byte of a serial frame or of the zone link. -/
abbrev Byte := BitVec 8

/-- A strobe number, a hide number or another 16-bit value that a master sees as a word. -/
abbrev Num := BitVec 16

/-- A feed position: 32 bits, wrapping (R1). -/
abbrev Pos := BitVec 32

end Sys2Proof
end

