-- ==== Sys2Proof/Syntax.lean ====
section
/-! DEFINITION. The commands of the part: one constructor of `Instr` for each row of
spec/opcode_table.json, with the operands the spec gives the row. -/

namespace Sys2Proof

/-- The input levels present at the end of a power-on reset: the two straps (R153), the encoder lines
that become the decoder references (R2), HALT and FEED-STILL (R154). -/
structure PinLevels where
  mode0 : Bool
  mode1 : Bool
  botA : Bool
  botB : Bool
  topA : Bool
  topB : Bool
  halt : Bool
  feedStill : Bool
deriving DecidableEq, Repr

/-- The position-keyed events that may fall due at one count of H (R5). The spec leaves the order of
those that fall due together open (R26, R78); `BOTTOM_PULSE` carries it as an operand. -/
inductive RiseEvent where
  /-- the end of settling and the issue of a strobe, or the move of the next strobe position (R10, R12, R13) -/
  | strobe
  /-- the end of a slip window (R15) -/
  | slip
  /-- a lead crossing (R72) -/
  | lead
  /-- a knife crossing (R76) -/
  | knife
  /-- the maximum hide length (R54) -/
  | length
deriving DecidableEq, Repr

/-- One point (Tk, Ak) of a compression curve, in h (R92). -/
structure CurvePoint where
  t : Int
  a : Int
deriving DecidableEq, Repr

/-- An article: split goal, minimum residual and six curve points (R156). -/
structure Article where
  s : Int
  rmin : Int
  p0 : CurvePoint
  p1 : CurvePoint
  p2 : CurvePoint
  p3 : CurvePoint
  p4 : CurvePoint
  p5 : CurvePoint
deriving DecidableEq, Repr

/-- The six curve points in order. -/
def Article.points (a : Article) : List CurvePoint := [a.p0, a.p1, a.p2, a.p3, a.p4, a.p5]

/-- The fifteen geometry values, in the order of the table of R162. -/
structure Geometry where
  /-- strobe pitch P -/
  pitch : Nat
  /-- scan-to-knife distance D -/
  distance : Nat
  /-- lead L -/
  lead : Nat
  /-- infeed-to-scan distance E -/
  infeed : Nat
  zoneWidth : Nat
  parkGap : Nat
  entryGap : Nat
  slew : Nat
  settle : Nat
  tolerance : Nat
  /-- slip window length W -/
  window : Nat
  slipLimit : Nat
  maxLength : Nat
  edgeTolerance : Nat
  moveTimeout : Nat
deriving DecidableEq, Repr

/-- The fifteen values as a list, item 1 first (R162). -/
def Geometry.items (g : Geometry) : List Nat :=
  [g.pitch, g.distance, g.lead, g.infeed, g.zoneWidth, g.parkGap, g.entryGap, g.slew, g.settle,
   g.tolerance, g.window, g.slipLimit, g.maxLength, g.edgeTolerance, g.moveTimeout]

/-- How the bytes of a transfer fall about the changes of the transmit buffer under it: `before` bytes passed
before a response came into it (log 6), and `shown` more before a RESET emptied that response out again
(log 36). Both are 0 where the buffer did not change under the transfer. -/
structure Lead where
  before : Nat
  shown : Nat
deriving DecidableEq, Repr

/-- The bytes that passed before the transmit buffer was as it is at the transfer's end. -/
def Lead.total (l : Lead) : Nat := l.before + l.shown

/-- The commands: one constructor per row of spec/opcode_table.json. -/
inductive Instr where
  /-- POWER_ON_RESET: the levels present when the reset ends. -/
  | powerOnReset (pins : PinLevels)
  /-- BOTTOM_PULSE: the new levels of BOT A and BOT B, and the order of events due at one count. -/
  | bottomPulse (a b : Bool) (order : List RiseEvent)
  /-- TOP_PULSE: the new levels of TOP A and TOP B. -/
  | topPulse (a b : Bool)
  | infeedEdge
  | haltAsserted
  | haltReleased
  | feedStillAsserted
  | feedStillReleased
  | dwellTimerExpiry
  | feedRefPeriodStart
  | feedRefHighEnd
  /-- ACCEPT: the zone byte and the flags byte of a complete and correct frame of kind 81 (R196). -/
  | accept (zone flags : Byte)
  /-- STATUS_REPLY: zone, position and flags of a complete and correct frame of kind 82 (R196). -/
  | statusReply (zone : Byte) (position : BitVec 16) (flags : Byte)
  | miss
  /-- ZONE_LINK_FRAME_IGNORED: the bytes on ZRX, `none` for a byte whose stop bit is missing (R197). -/
  | zoneLinkFrameIgnored (bytes : List (Option Byte))
  | moveTimeout (zone : Nat)
  /-- GAUGE_TRANSFER_END: the bytes clocked in on SDI, and how they fall about the changes of the transmit
  buffer under the transfer. -/
  | gaugeTransferEnd (sdi : List Byte) (lead : Lead)
  | gaugeResponsePlaced
  /-- SLICE: strobe number and the readings as sent, zone 0 first; n is their number (R37, R194). -/
  | slice (strobe : Num) (readings : List (BitVec 16))
  | announce (first tag : Num)
  /-- END: the named last strobe. -/
  | endHide (last : Num)
  | wakeRequest
  | gaugeStatus
  | gaugeSetup
  | gaugeReset
  | clearGaugeNotices (named : Byte) (mask : Option Byte)
  /-- LINE_TRANSFER_END: as GAUGE_TRANSFER_END, on the line port. -/
  | lineTransferEnd (sdi : List Byte) (lead : Lead)
  | lineResponsePlaced
  | start
  /-- REST: the rest target as sent, 1 DWELL or 2 PARK (R193). -/
  | rest (target : Byte)
  | wake
  | clear
  | clearWake (flags : Byte)
  | wakeEnable (enables : Byte)
  | bind (hide : Num) (row : Nat)
  | abandon (hide : Num)
  | release (hide : Num)
  | readHide (hide : Num)
  | readReport
  | readTrack (place count : Nat)
  | zoneMove (zone : Nat) (target : Int)
  /-- ZONE_MODE: the mode as sent, 1 TRACK or 2 MANUAL (R193). -/
  | zoneMode (zone : Nat) (mode : Byte)
  | zoneReset (zone : Nat)
  | readZones
  | writeArticle (row : Nat) (article : Article)
  | selectArticle (row : Nat)
  | readArticle (row : Nat)
  | writeKnife (offsets : List Int)
  | setGeometry (values : Geometry)
  | setScale (scale : Nat)
  | lockGeometry
  | setSpeed (period duty : Nat)
  | setTrim (trim : Nat)
  | setDwell (time : Nat)
  | readSettings
  | readStatus
  | readCounters
  | clearNotices (named : BitVec 24) (mask : Option (BitVec 24))
  | reset
  | abandonedReplyWindowClose
deriving DecidableEq, Repr

end Sys2Proof
end

