-- ==== Sys2Proof/Config.lean ====
section
/-! DEFINITION. What the spec fixes for every FS16 (sizes, windows, factory values), and the free
values: two response fields the spec leaves unstated. -/

namespace Sys2Proof.Config

/-- Zone channels of the part (06). -/
def zones : Nat := 16
/-- Capacity of the outstanding strobe list (R31). -/
def listCapacity : Nat := 16
/-- Hide records of the part (03). -/
def hideRecords : Nat := 8
/-- Rows of the article table (R156). -/
def articleRows : Nat := 32
/-- The reply window of a zone link transaction, in microseconds (R112). -/
def replyWindow : Nat := 400
/-- Least and greatest gap that reaches a drive, in h (R97, R127). -/
def gapFloor : Int := 20
def gapCeiling : Int := 900
/-- Where 16-bit and 32-bit counters stop (R44, R85). -/
def counter16 : Nat := 65535
def counter32 : Nat := 4294967295
/-- One unit of the dwell timer, in microseconds (07). -/
def dwellUnit : Nat := 100000

/-- The factory article of every row (R156). -/
def factoryArticle : Article :=
  { s := 180, rmin := 60, p0 := ⟨200, 10⟩, p1 := ⟨300, 14⟩, p2 := ⟨400, 20⟩, p3 := ⟨500, 24⟩,
    p4 := ⟨600, 26⟩, p5 := ⟨800, 30⟩ }

/-- The geometry defaults (R162). -/
def defaultGeometry : Geometry :=
  { pitch := 100, distance := 10000, lead := 300, infeed := 3000, zoneWidth := 187, parkGap := 800,
    entryGap := 200, slew := 10, settle := 500, tolerance := 30, window := 1000, slipLimit := 20,
    maxLength := 45000, edgeTolerance := 150, moveTimeout := 150 }

/-- FREE VALUE (log 14): byte `i` of the article fields in the response of a READ_ARTICLE refused for
row `row`; no rule of the spec states it. -/
opaque noRowByte (row i : Nat) : Byte

/-- FREE VALUE (log 14): the mode held in the response of a ZONE_MODE refused for a zone above 15; no
rule of the spec states it. -/
opaque noZoneMode (zone : Nat) : Byte

end Sys2Proof.Config
end

