-- ==== Sys2Proof/WellFormed.lean ====
section
/-! DEFINITION. Which commands a frame or a field event can spell: every number fits the field that
carries it (chapter 10), and an order operand names each event once. -/

namespace Sys2Proof

/-- A number that an unsigned field of `bits` bits can carry. -/
def fitsUnsigned (bits n : Nat) : Bool := decide (n < 2 ^ bits)

/-- A number that a signed 16-bit field can carry (08, Requests that carry a setting). -/
def fitsSigned (i : Int) : Bool := decide (-32768 ≤ i ∧ i ≤ 32767)

/-- Every field of the article fits the frame of WRITE_ARTICLE. -/
def Article.fits (a : Article) : Bool :=
  fitsSigned a.s && fitsSigned a.rmin && a.points.all (fun p => fitsSigned p.t && fitsSigned p.a)

/-- Every value fits the frame of SET_GEOMETRY. -/
def Geometry.fits (g : Geometry) : Bool := g.items.all (fitsUnsigned 16)

/-- The command can come about: its operands fit the fields that carry them. -/
def Instr.wellFormed : Instr → Bool
  | .powerOnReset _ => true
  | .bottomPulse _ _ order => decide order.Nodup
  | .topPulse _ _ => true
  | .infeedEdge => true
  | .haltAsserted => true
  | .haltReleased => true
  | .feedStillAsserted => true
  | .feedStillReleased => true
  | .dwellTimerExpiry => true
  | .feedRefPeriodStart => true
  | .feedRefHighEnd => true
  | .accept _ _ => true
  | .statusReply _ _ _ => true
  | .miss => true
  | .zoneLinkFrameIgnored _ => true
  | .moveTimeout zone => decide (zone < Config.zones)
  | .gaugeTransferEnd sdi lead => decide (lead.total ≤ sdi.length)
  | .gaugeResponsePlaced => true
  | .slice _ readings => decide (readings.length ≤ 255)
  | .announce _ _ => true
  | .endHide _ => true
  | .wakeRequest => true
  | .gaugeStatus => true
  | .gaugeSetup => true
  | .gaugeReset => true
  | .clearGaugeNotices _ _ => true
  | .lineTransferEnd sdi lead => decide (lead.total ≤ sdi.length)
  | .lineResponsePlaced => true
  | .start => true
  | .rest _ => true
  | .wake => true
  | .clear => true
  | .clearWake _ => true
  | .wakeEnable _ => true
  | .bind _ row => fitsUnsigned 8 row
  | .abandon _ => true
  | .release _ => true
  | .readHide _ => true
  | .readReport => true
  | .readTrack place count => fitsUnsigned 16 place && fitsUnsigned 8 count
  | .zoneMove zone target => fitsUnsigned 8 zone && fitsSigned target
  | .zoneMode zone _ => fitsUnsigned 8 zone
  | .zoneReset zone => fitsUnsigned 8 zone
  | .readZones => true
  | .writeArticle row article => fitsUnsigned 8 row && article.fits
  | .selectArticle row => fitsUnsigned 8 row
  | .readArticle row => fitsUnsigned 8 row
  | .writeKnife offsets => decide (offsets.length = Config.zones) && offsets.all fitsSigned
  | .setGeometry values => values.fits
  | .setScale scale => fitsUnsigned 16 scale
  | .lockGeometry => true
  | .setSpeed period duty => fitsUnsigned 16 period && fitsUnsigned 16 duty
  | .setTrim trim => fitsUnsigned 8 trim
  | .setDwell time => fitsUnsigned 16 time
  | .readSettings => true
  | .readStatus => true
  | .readCounters => true
  | .clearNotices _ _ => true
  | .reset => true
  | .abandonedReplyWindowClose => true

end Sys2Proof
end

