-- ==== Sys2Proof/Decode.lean ====
section
/-! DEFINITION. The request frames of the two serial ports: the CRC, the envelope, the payload of every
request in both directions (R190 to R195), and `decodeTableWord`, which spells no command because
spec/opcode_table.json gives no row any bits. -/

namespace Sys2Proof

/-! ## Words and bytes: multi-byte integers cross the wire high byte first (R190) -/

def be16 (w : BitVec 16) : List Byte := [w.extractLsb' 8 8, w.extractLsb' 0 8]

def be24 (w : BitVec 24) : List Byte := [w.extractLsb' 16 8, w.extractLsb' 8 8, w.extractLsb' 0 8]

def be32 (w : BitVec 32) : List Byte :=
  [w.extractLsb' 24 8, w.extractLsb' 16 8, w.extractLsb' 8 8, w.extractLsb' 0 8]

def w16 (hi lo : Byte) : BitVec 16 := hi ++ lo

def w24 (hi mid lo : Byte) : BitVec 24 := hi ++ mid ++ lo

/-- An unsigned number as one, two or four bytes. -/
def nat8 (n : Nat) : List Byte := [BitVec.ofNat 8 n]
def nat16 (n : Nat) : List Byte := be16 (BitVec.ofNat 16 n)
def nat32 (n : Nat) : List Byte := be32 (BitVec.ofNat 32 n)

/-- A signed number as two bytes. -/
def int16 (i : Int) : List Byte := be16 (BitVec.ofInt 16 i)

/-- The two-byte words of a byte list; none where a byte is left over. -/
def words16 : List Byte → Option (List (BitVec 16))
  | [] => some []
  | [_] => none
  | hi :: lo :: rest => (words16 rest).map (w16 hi lo :: ·)

/-! ## The CRC (R190) -/

/-- One bit into the CRC register. -/
def crcBit (crc : BitVec 16) (bit : Bool) : BitVec 16 :=
  if crc.msb != bit then (crc <<< 1) ^^^ 0x1021#16 else crc <<< 1

/-- One byte, most significant bit first. -/
def crcByte (crc : BitVec 16) (byte : Byte) : BitVec 16 :=
  (List.range 8).foldl (fun c i => crcBit c (byte.getMsbD i)) crc

/-- The CRC over a list of bytes, the register starting at FFFF hex. -/
def crc16 (bytes : List Byte) : BitVec 16 := bytes.foldl crcByte 0xFFFF#16

/-! ## The envelope (R190, R191) -/

/-- The start byte of a request frame. -/
def requestStart : Byte := 0xA5

/-- The start byte of a response frame. -/
def responseStart : Byte := 0x5A

/-- A whole frame: start byte, kind, payload length, payload, CRC (R190). -/
def frameBytes (start kind : Byte) (payload : List Byte) : List Byte :=
  let body := kind :: (nat16 payload.length ++ payload)
  start :: (body ++ be16 (crc16 body))

/-- The bytes after the first byte of value A5 hex; none where there is no such byte (R191). -/
def afterStart : List Byte → Option (List Byte)
  | [] => none
  | b :: rest => if b = requestStart then some rest else afterStart rest

/-! ## Kind codes (R192) -/

/-- The kind code of a request; none for a command that is no request. -/
def Instr.kindCode : Instr → Option Byte
  | .slice _ _ => some 0x01
  | .announce _ _ => some 0x02
  | .endHide _ => some 0x03
  | .wakeRequest => some 0x04
  | .gaugeStatus => some 0x05
  | .gaugeSetup => some 0x06
  | .gaugeReset => some 0x07
  | .clearGaugeNotices _ _ => some 0x08
  | .start => some 0x20
  | .rest _ => some 0x21
  | .wake => some 0x22
  | .clear => some 0x23
  | .clearWake _ => some 0x24
  | .wakeEnable _ => some 0x25
  | .bind _ _ => some 0x26
  | .abandon _ => some 0x27
  | .release _ => some 0x28
  | .readHide _ => some 0x29
  | .readReport => some 0x2A
  | .readTrack _ _ => some 0x2B
  | .zoneMove _ _ => some 0x2C
  | .zoneMode _ _ => some 0x2D
  | .zoneReset _ => some 0x2E
  | .readZones => some 0x2F
  | .writeArticle _ _ => some 0x30
  | .selectArticle _ => some 0x31
  | .readArticle _ => some 0x32
  | .writeKnife _ => some 0x33
  | .setGeometry _ => some 0x34
  | .setScale _ => some 0x35
  | .lockGeometry => some 0x36
  | .setSpeed _ _ => some 0x37
  | .setTrim _ => some 0x38
  | .setDwell _ => some 0x39
  | .readSettings => some 0x3A
  | .readStatus => some 0x3B
  | .readCounters => some 0x3C
  | .clearNotices _ _ => some 0x3D
  | .reset => some 0x3E
  | .powerOnReset _ => none
  | .bottomPulse _ _ _ => none
  | .topPulse _ _ => none
  | .infeedEdge => none
  | .haltAsserted => none
  | .haltReleased => none
  | .feedStillAsserted => none
  | .feedStillReleased => none
  | .dwellTimerExpiry => none
  | .feedRefPeriodStart => none
  | .feedRefHighEnd => none
  | .accept _ _ => none
  | .statusReply _ _ _ => none
  | .miss => none
  | .zoneLinkFrameIgnored _ => none
  | .moveTimeout _ => none
  | .gaugeTransferEnd _ _ => none
  | .gaugeResponsePlaced => none
  | .lineTransferEnd _ _ => none
  | .lineResponsePlaced => none
  | .abandonedReplyWindowClose => none

/-- The two serial ports. -/
inductive PortName where
  | gauge
  | line
deriving DecidableEq, Repr

/-- The kinds a port takes: 01 to 08 at the gauge port, 20 to 3E at the line port (R192). -/
def PortName.takes : PortName → Byte → Bool
  | .gauge, k => decide (1 ≤ k.toNat ∧ k.toNat ≤ 8)
  | .line, k => decide (0x20 ≤ k.toNat ∧ k.toNat ≤ 0x3E)

/-! ## Payloads (the table 'Request and response fields' and R194) -/

def CurvePoint.thicknessBytes (p : CurvePoint) : List Byte := int16 p.t
def CurvePoint.allowanceBytes (p : CurvePoint) : List Byte := int16 p.a

/-- S, Rmin, T0 to T5, A0 to A5: 28 bytes. -/
def Article.bytes (a : Article) : List Byte :=
  int16 a.s ++ int16 a.rmin ++ a.points.flatMap CurvePoint.thicknessBytes
    ++ a.points.flatMap CurvePoint.allowanceBytes

/-- The payload of a request; empty for a command that carries none. -/
def Instr.payload : Instr → List Byte
  | .slice strobe readings => be16 strobe ++ nat8 readings.length ++ readings.flatMap be16
  | .announce first tag => be16 first ++ be16 tag
  | .endHide last => be16 last
  | .clearGaugeNotices named none => [named]
  | .clearGaugeNotices named (some mask) => [named, mask]
  | .rest target => [target]
  | .clearWake flags => [flags]
  | .wakeEnable enables => [enables]
  | .bind hide row => be16 hide ++ nat8 row
  | .abandon hide => be16 hide
  | .release hide => be16 hide
  | .readHide hide => be16 hide
  | .readTrack place count => nat16 place ++ nat8 count
  | .zoneMove zone target => nat8 zone ++ int16 target
  | .zoneMode zone mode => nat8 zone ++ [mode]
  | .zoneReset zone => nat8 zone
  | .writeArticle row article => nat8 row ++ article.bytes
  | .selectArticle row => nat8 row
  | .readArticle row => nat8 row
  | .writeKnife offsets => offsets.flatMap int16
  | .setGeometry values => values.items.flatMap nat16
  | .setScale scale => nat16 scale
  | .setSpeed period duty => nat16 period ++ nat16 duty
  | .setTrim trim => nat8 trim
  | .setDwell time => nat16 time
  | .clearNotices named none => be24 named
  | .clearNotices named (some mask) => be24 named ++ be24 mask
  | .wakeRequest => []
  | .gaugeStatus => []
  | .gaugeSetup => []
  | .gaugeReset => []
  | .start => []
  | .wake => []
  | .clear => []
  | .readReport => []
  | .readZones => []
  | .lockGeometry => []
  | .readSettings => []
  | .readStatus => []
  | .readCounters => []
  | .reset => []
  | .infeedEdge => []
  | .haltAsserted => []
  | .haltReleased => []
  | .feedStillAsserted => []
  | .feedStillReleased => []
  | .dwellTimerExpiry => []
  | .feedRefPeriodStart => []
  | .feedRefHighEnd => []
  | .miss => []
  | .gaugeResponsePlaced => []
  | .lineResponsePlaced => []
  | .abandonedReplyWindowClose => []
  | .powerOnReset _ => []
  | .bottomPulse _ _ _ => []
  | .topPulse _ _ => []
  | .accept _ _ => []
  | .statusReply _ _ _ => []
  | .zoneLinkFrameIgnored _ => []
  | .moveTimeout _ => []
  | .gaugeTransferEnd _ _ => []
  | .lineTransferEnd _ _ => []

/-- The frame of a request; none for a command that is no request. -/
def Instr.frame (i : Instr) : Option (List Byte) :=
  i.kindCode.map (fun kind => frameBytes requestStart kind i.payload)

/-- SLICE: strobe, n, and 2n bytes of readings; n above 16 has no length (R194). -/
def parseSlice : List Byte → Option Instr
  | s1 :: s0 :: n :: rest =>
    if 16 < n.toNat then none
    else match words16 rest with
      | some readings => if readings.length = n.toNat then some (.slice (w16 s1 s0) readings) else none
      | none => none
  | _ => none

def articleOfWords : List (BitVec 16) → Option Article
  | [s, r, t0, t1, t2, t3, t4, t5, a0, a1, a2, a3, a4, a5] =>
    some { s := s.toInt, rmin := r.toInt, p0 := ⟨t0.toInt, a0.toInt⟩, p1 := ⟨t1.toInt, a1.toInt⟩,
           p2 := ⟨t2.toInt, a2.toInt⟩, p3 := ⟨t3.toInt, a3.toInt⟩, p4 := ⟨t4.toInt, a4.toInt⟩,
           p5 := ⟨t5.toInt, a5.toInt⟩ }
  | _ => none

def geometryOfWords : List (BitVec 16) → Option Geometry
  | [a, b, c, d, e, f, g, h, i, j, k, l, m, n, o] =>
    some { pitch := a.toNat, distance := b.toNat, lead := c.toNat, infeed := d.toNat,
           zoneWidth := e.toNat, parkGap := f.toNat, entryGap := g.toNat, slew := h.toNat,
           settle := i.toNat, tolerance := j.toNat, window := k.toNat, slipLimit := l.toNat,
           maxLength := m.toNat, edgeTolerance := n.toNat, moveTimeout := o.toNat }
  | _ => none

/-- A request that carries no payload. -/
def parseEmpty (i : Instr) : List Byte → Option Instr
  | [] => some i
  | _ => none

/-- A request of one byte. -/
def parseByte (f : Byte → Instr) : List Byte → Option Instr
  | [a] => some (f a)
  | _ => none

/-- A request of one 16-bit word. -/
def parseWord (f : BitVec 16 → Instr) : List Byte → Option Instr
  | [a, b] => some (f (w16 a b))
  | _ => none

/-- The gauge port's requests: `none` where the payload has not the length the kind requires. -/
def parseGauge (kind : Byte) (p : List Byte) : Option Instr :=
  if kind = 0x01 then parseSlice p
  else if kind = 0x02 then match p with
    | [a, b, c, d] => some (.announce (w16 a b) (w16 c d))
    | _ => none
  else if kind = 0x03 then parseWord .endHide p
  else if kind = 0x04 then parseEmpty .wakeRequest p
  else if kind = 0x05 then parseEmpty .gaugeStatus p
  else if kind = 0x06 then parseEmpty .gaugeSetup p
  else if kind = 0x07 then parseEmpty .gaugeReset p
  else if kind = 0x08 then match p with
    | [c] => some (.clearGaugeNotices c none)
    | [c, m] => some (.clearGaugeNotices c (some m))
    | _ => none
  else none

/-- The line port's requests up to READ_ZONES (kinds 20 to 2F). -/
def parseLineLow (kind : Byte) (p : List Byte) : Option Instr :=
  if kind = 0x20 then parseEmpty .start p
  else if kind = 0x21 then parseByte .rest p
  else if kind = 0x22 then parseEmpty .wake p
  else if kind = 0x23 then parseEmpty .clear p
  else if kind = 0x24 then parseByte .clearWake p
  else if kind = 0x25 then parseByte .wakeEnable p
  else if kind = 0x26 then match p with
    | [a, b, r] => some (.bind (w16 a b) r.toNat)
    | _ => none
  else if kind = 0x27 then parseWord .abandon p
  else if kind = 0x28 then parseWord .release p
  else if kind = 0x29 then parseWord .readHide p
  else if kind = 0x2A then parseEmpty .readReport p
  else if kind = 0x2B then match p with
    | [a, b, c] => some (.readTrack (w16 a b).toNat c.toNat)
    | _ => none
  else if kind = 0x2C then match p with
    | [z, a, b] => some (.zoneMove z.toNat (w16 a b).toInt)
    | _ => none
  else if kind = 0x2D then match p with
    | [z, m] => some (.zoneMode z.toNat m)
    | _ => none
  else if kind = 0x2E then parseByte (fun z => .zoneReset z.toNat) p
  else if kind = 0x2F then parseEmpty .readZones p
  else none

/-- The line port's requests from WRITE_ARTICLE on (kinds 30 to 3E). -/
def parseLineHigh (kind : Byte) (p : List Byte) : Option Instr :=
  if kind = 0x30 then match p with
    | r :: rest => (words16 rest).bind fun ws => (articleOfWords ws).map (.writeArticle r.toNat)
    | [] => none
  else if kind = 0x31 then parseByte (fun r => .selectArticle r.toNat) p
  else if kind = 0x32 then parseByte (fun r => .readArticle r.toNat) p
  else if kind = 0x33 then (words16 p).bind fun ws =>
    if ws.length = 16 then some (.writeKnife (ws.map BitVec.toInt)) else none
  else if kind = 0x34 then (words16 p).bind fun ws => (geometryOfWords ws).map .setGeometry
  else if kind = 0x35 then parseWord (fun v => .setScale v.toNat) p
  else if kind = 0x36 then parseEmpty .lockGeometry p
  else if kind = 0x37 then match p with
    | [a, b, c, d] => some (.setSpeed (w16 a b).toNat (w16 c d).toNat)
    | _ => none
  else if kind = 0x38 then parseByte (fun t => .setTrim t.toNat) p
  else if kind = 0x39 then parseWord (fun v => .setDwell v.toNat) p
  else if kind = 0x3A then parseEmpty .readSettings p
  else if kind = 0x3B then parseEmpty .readStatus p
  else if kind = 0x3C then parseEmpty .readCounters p
  else if kind = 0x3D then match p with
    | [a, b, c] => some (.clearNotices (w24 a b c) none)
    | [a, b, c, d, e, f] => some (.clearNotices (w24 a b c) (some (w24 d e f)))
    | _ => none
  else if kind = 0x3E then parseEmpty .reset p
  else none

/-- The request that a payload spells at a port. -/
def PortName.parse : PortName → Byte → List Byte → Option Instr
  | .gauge, kind, p => parseGauge kind p
  | .line, kind, p => if kind.toNat < 0x30 then parseLineLow kind p else parseLineHigh kind p

/-! ## Examining the bytes of a transfer (R24, R25, R172, R173, R191) -/

/-- What the bytes of a transfer turn out to be. -/
inductive Verdict where
  /-- no byte of value A5 hex: no frame -/
  | noFrame
  /-- the frame ends before its kind can be read -/
  | noKind
  /-- the length or the CRC is wrong: BAD_FRAME -/
  | badFrame (kind : Byte)
  /-- a well-formed frame of a kind the port does not take: UNKNOWN_KIND -/
  | unknownKind (kind : Byte)
  /-- a request that goes on to its own checks -/
  | request (i : Instr)
deriving DecidableEq, Repr

/-- The checks of length, CRC and kind on the bytes that follow the start byte, the kind first. -/
def PortName.check (port : PortName) (kind : Byte) : List Byte → Verdict
  | l1 :: l0 :: rest =>
    let len := (w16 l1 l0).toNat
    let payload := rest.take len
    let crcOk := decide (be16 (crc16 (kind :: l1 :: l0 :: payload)) = (rest.drop len).take 2)
    if rest.length < len + 2 then .badFrame kind
    else if port.takes kind then
      match port.parse kind payload with
      | none => .badFrame kind
      | some i => if crcOk then .request i else .badFrame kind
    else if crcOk then .unknownKind kind else .badFrame kind
  | _ => .badFrame kind

/-- The examination of a transfer's bytes. -/
def PortName.examine (port : PortName) (sdi : List Byte) : Verdict :=
  match afterStart sdi with
  | none => .noFrame
  | some [] => .noKind
  | some (kind :: rest) => port.check kind rest

/-- A byte of value A5 hex stands in the transfer (R27). -/
def carriesStart (sdi : List Byte) : Bool := sdi.contains requestStart

/-! ## The opcode table -/

/-- spec/opcode_table.json gives no row any bits, so no word spells a command. -/
def decodeTableWord (_nbits _w : Nat) : Option Instr := none

end Sys2Proof
end

