-- ==== Sys2Proof/Machine/State.lean ====
section
/-! DEFINITION. The state of the part, block by block (00_scope.md, Blocks), as plain data, with the
value of every field after a power-on reset. -/

namespace Sys2Proof.Machine

/-! ## Outcomes -/

/-- Why the part stops: never. The spec refuses a request by the status of its response and drops or
counts a transfer it cannot take; nothing stops the part, so there is no fault to raise. -/
inductive Fault : Type
deriving DecidableEq, Repr

/-- Why the model has no answer. -/
inductive Refusal where
  /-- Raised by `exec`'s arm of a command that has no meaning yet; safe. No arm raises it. -/
  | notModelled (mnemonic : String)
deriving DecidableEq, Repr

/-! ## Named values -/

inductive Sync where
  | locked
  | settling
deriving DecidableEq, Repr

/-- The strap mode, from MODE1 (R153). -/
inductive StrapMode where
  | profile
  | fixed
deriving DecidableEq, Repr

/-- The machine states (07). -/
inductive Phase where
  | standby
  | resuming
  | run
  | clearing
  | braking
  | dwell
  | park
  | halt
deriving DecidableEq, Repr

inductive RestTarget where
  | dwell
  | park
deriving DecidableEq, Repr

/-- The states of a record in use; a FREE record is not in the table's list. -/
inductive HideState where
  | scanning
  | scanSplit
  | scanned
  | splitting
  | done
  | abandoned
deriving DecidableEq, Repr

inductive AbandonCause where
  | line
  | reverse
  | scale
  | halt
  | park
deriving DecidableEq, Repr

inductive ZoneMode where
  | track
  | manual
  | fault
  | off
deriving DecidableEq, Repr

/-- Who gave a target (06). -/
inductive Cause where
  | track
  | manual
  | park
  | entry
deriving DecidableEq, Repr

/-- One zone's value in a reply (R37, R194). -/
inductive Reading where
  | thickness (h : Nat)
  | absent
  | doubtful
deriving DecidableEq, Repr

/-- A zone result's progress before the knife crossing (04). -/
inductive Progress where
  | waiting
  | sent
  | complete
  | timedOut
  | ended
  | skipped
  | held
  | notTrack
deriving DecidableEq, Repr

/-- A zone result's outcome from the knife crossing on (R76). -/
inductive ZoneOutcome where
  | onTime
  | late
  | skipped
  | held
  | notTrack
deriving DecidableEq, Repr

inductive Stage where
  | entered
  | converted
deriving DecidableEq, Repr

/-- The kinds of transaction on the zone link (R112). -/
inductive TxnKind where
  | send
  | poll
  | clearPoll
deriving DecidableEq, Repr

/-- The status of a response (R193). -/
inductive Status where
  | ok
  | badFrame
  | unknownKind
  | badValue
  | wrongState
  | locked
  | late
  | noSuchHide
  | tableFull
  | wakePending
  | halted
  | duplicate
  | empty
deriving DecidableEq, Repr

/-- The line notices, in the order of the table of R178. -/
inductive LineNotice where
  | hideDone
  | hideAbandoned
  | reportLost
  | forcedEnd
  | gaugeLost
  | edge
  | slip
  | trimChanged
  | syncLost
  | syncLocked
  | zoneLagging
  | zoneFault
  | restEntered
  | restAborted
  | wake
  | halt
  | knifeApplied
  | overrun
deriving DecidableEq, Repr

/-- The gauge notices, in the order of R193. -/
inductive GaugeNotice where
  | syncRestart
  | hideRefused
  | sliceRefused
  | orphan
  | overrun
deriving DecidableEq, Repr

/-- The wake flags, in the order of R193. -/
inductive WakeFlag where
  | infeed
  | gauge
  | timer
  | line
deriving DecidableEq, Repr

/-! ## Feed unit (01) -/

/-- The levels of an encoder's A and B lines: the decoder's reference (R2). -/
structure Quad where
  a : Bool
  b : Bool
deriving DecidableEq, Repr

/-- A strobe's number and position (R12). -/
structure StrobeId where
  num : Num
  pos : Pos
deriving DecidableEq, Repr

/-- The slip window (R15): start H, top advance T, consecutive slip count. -/
structure SlipWindow where
  start : Pos
  advance : Int
  count : Nat
deriving DecidableEq, Repr

/-- FEED REF: the period in progress with the values it began with, the level, the gate (R19, R20). -/
structure FeedRef where
  period : Nat
  count : Nat
  start : Nat
  high : Bool
  gated : Bool
deriving DecidableEq, Repr

structure Feed where
  botRef : Quad
  topRef : Quad
  botAcc : Nat
  topAcc : Nat
  f : Pos
  h : Pos
  sync : Sync
  settleStart : Pos
  nextNum : Num
  nextPos : Pos
  newest : Option StrobeId
  slip : SlipWindow
  trim : Nat
  /-- the period setting N (R18) -/
  period : Nat
  duty : Nat
  ref : FeedRef
  capture : Option Pos
  overwrite : Bool
  /-- SYNC is held low from the taking of a RESET to the placing of its response (R8, R23) -/
  syncHeld : Bool
  /-- pulses given on SCAN STROBE (the model's record of that output, log 18) -/
  strobePulses : Nat
deriving DecidableEq, Repr

/-! ## Ports (02, 09) -/

/-- A response frame before its envelope: the kind answered, the status and the fields (R190). -/
structure Response where
  kind : Byte
  status : Status
  fields : List Byte
deriving DecidableEq, Repr

/-- The request frame in a receive buffer: its bytes from the start byte on, and whether its request
has had its event or been answered by a port check. -/
structure RxFrame where
  bytes : List Byte
  acted : Bool
deriving DecidableEq, Repr

/-- What both ports have: RDY, the receive buffer, the response composed and not yet placed, the
transmit buffer, the response that a RESET has emptied out of it since the last transfer ended (log 36),
and the bytes SDO carried in the last transfer (log 18). -/
structure Port where
  rdy : Bool
  rx : Option RxFrame
  answer : Option Response
  tx : Option Response
  cut : Option Response
  sdo : List Byte
deriving DecidableEq, Repr

/-- An outstanding strobe (R31). -/
structure Entry where
  num : Num
  pos : Pos
  reply : Option (List Reading)
deriving DecidableEq, Repr

/-- The intake: gauge port, outstanding strobe list, gauge notices, counters (02). -/
structure Intake where
  port : Port
  list : List Entry
  notices : BitVec 5
  mask : BitVec 5
  overrun : Nat
  badFrame : Nat
  unread : Nat
  late : Nat
  duplicate : Nat
  orphan : Nat
  refusedAnnounce : Nat
deriving DecidableEq, Repr

structure LinePort where
  port : Port
  /-- a RESET was taken while RDY was low and is not yet answered (R177) -/
  hold : Bool
  notices : BitVec 18
  mask : BitVec 18
  overrun : Nat
  badFrame : Nat
  unread : Nat
deriving DecidableEq, Repr

/-! ## Hide table (03) -/

/-- One zone's ten counts in a record. -/
structure ZoneCounts where
  residual : Nat
  floor : Nat
  ceiling : Nat
  slewed : Nat
  extended : Nat
  onTime : Nat
  late : Nat
  skipped : Nat
  held : Nat
  notTrack : Nat
deriving DecidableEq, Repr

structure HideFlags where
  edgeMismatch : Bool
  noEdge : Bool
  gaugeLost : Bool
  forcedEnd : Bool
  manualInfluence : Bool
  slip : Bool
deriving DecidableEq, Repr

/-- A record in use. -/
structure HideRecord where
  number : Num
  tag : Num
  state : HideState
  cause : Option AbandonCause
  row : Nat
  article : Article
  edge : Option Pos
  first : StrobeId
  last : Option Num
  rangeOpen : Bool
  newestEntered : Option Num
  inTrack : Nat
  sliceCount : Nat
  gapCount : Nat
  gapRun : Nat
  area : Nat
  tMin : Option Nat
  tMax : Option Nat
  counts : List ZoneCounts
  deviation : Nat
  flags : HideFlags
deriving DecidableEq, Repr

/-- The hide table: the records in use in the order of their ANNOUNCEs (at most 8; the rest are FREE,
log 20), the completion order list as hide numbers, the report cursor, the next hide number, the
reclaimed-report counter. -/
structure HideTable where
  records : List HideRecord
  completion : List Num
  cursor : Nat
  nextNumber : Num
  reclaimed : Nat
deriving DecidableEq, Repr

/-! ## Track (04) -/

structure ZoneFlags where
  residual : Bool
  floor : Bool
  ceiling : Bool
  slewed : Bool
  extended : Bool
deriving DecidableEq, Repr

structure ZoneResult where
  target : Option Int
  flags : ZoneFlags
  progress : Progress
deriving DecidableEq, Repr

/-- A slice; `readings` is absent for a GAP slice, `results` is empty in stage ENTERED. -/
structure Slice where
  strobe : Num
  pos : Pos
  hide : Num
  readings : Option (List Reading)
  stage : Stage
  results : List ZoneResult
deriving DecidableEq, Repr

structure Track where
  slices : List Slice
  pendingKnife : Option (List Int)
  readCount : Nat
  gapCount : Nat
  flushedCount : Nat
deriving DecidableEq, Repr

/-! ## Zone channels and zone link (06) -/

/-- Which slice a target was computed for. -/
structure SliceRef where
  strobe : Num
  hide : Num
deriving DecidableEq, Repr

/-- A target record. -/
structure Target where
  gap : Int
  cause : Cause
  ref : Option SliceRef
deriving DecidableEq, Repr

/-- The in-flight move: its target record, accept time and deadline in microseconds. -/
structure Move where
  target : Target
  accepted : Nat
  deadline : Nat
deriving DecidableEq, Repr

/-- The rate-limit base with the hide it was given for (R120). -/
structure Base where
  gap : Int
  hide : Num
deriving DecidableEq, Repr

structure Channel where
  mode : ZoneMode
  position : Option (BitVec 16)
  slot : Option Target
  flight : Option Move
  misses : Nat
  timeouts : Nat
  lagging : Bool
  entryMark : Bool
  clearPoll : Bool
  base : Option Base
deriving DecidableEq, Repr

/-- The transaction on the link. `sent` is the record copied at the grant of a SEND; `slotHolds` says
that the next slot still holds that record (R114), `overHalt` that the machine entered HALT while the
transaction was on the link (R124). -/
structure Txn where
  zone : Nat
  kind : TxnKind
  start : Nat
  sent : Option Target
  slotHolds : Bool
  overHalt : Bool
deriving DecidableEq, Repr

/-- The zone link: last granted zone, transaction, and the start of a transaction abandoned at a RESET
whose reply window is still open (R131). -/
structure Link where
  last : Nat
  txn : Option Txn
  abandoned : Option Nat
deriving DecidableEq, Repr

/-! ## Machine state controller (07) -/

/-- The dwell timer: while it runs, `remaining` is its value at `start` (R149). -/
structure DwellTimer where
  running : Bool
  remaining : Nat
  start : Nat
deriving DecidableEq, Repr

structure Controller where
  phase : Phase
  restTarget : RestTarget
  flags : BitVec 4
  enables : BitVec 4
  dwell : DwellTimer
  feedStop : Bool
  activeZones : Nat
  strap : StrapMode
deriving DecidableEq, Repr

/-! ## Setting store (08) -/

structure Settings where
  articles : List Article
  current : Nat
  knife : List Int
  geometry : Geometry
  scale : Nat
  dwellTime : Nat
  locked : Bool
deriving DecidableEq, Repr

/-- The levels of the HALT and FEED-STILL inputs (R155). -/
structure Pins where
  halt : Bool
  feedStill : Bool
deriving DecidableEq, Repr

/-! ## The state -/

/-- The whole part, with the queue of waiting commands (first in, first out) and the time in
microseconds since power-on. -/
structure State where
  pending : List Instr
  now : Nat
  pins : Pins
  feed : Feed
  intake : Intake
  hides : HideTable
  track : Track
  zones : List Channel
  link : Link
  ctl : Controller
  settings : Settings
  line : LinePort
deriving DecidableEq, Repr

/-! ## Reset values -/

/-- The feed unit after a reset (R23), for the P kept and the decoder references found. -/
def Feed.initial (pitch : Nat) (bot top : Quad) : Feed :=
  { botRef := bot, topRef := top, botAcc := 0, topAcc := 0, f := 0, h := 0, sync := .locked,
    settleStart := 0, nextNum := 0, nextPos := BitVec.ofNat 32 pitch, newest := none,
    slip := { start := 0, advance := 0, count := 0 }, trim := 0, period := 999, duty := 0,
    ref := { period := 999, count := 0, start := 0, high := false, gated := true },
    capture := none, overwrite := false, syncHeld := false, strobePulses := 0 }

def Port.initial : Port :=
  { rdy := true, rx := none, answer := none, tx := none, cut := none, sdo := [] }

/-- The intake after a reset (R45). -/
def Intake.initial : Intake :=
  { port := Port.initial, list := [], notices := 0, mask := 0, overrun := 0, badFrame := 0,
    unread := 0, late := 0, duplicate := 0, orphan := 0, refusedAnnounce := 0 }

/-- The line port after a power-on reset (R188). -/
def LinePort.initial : LinePort :=
  { port := Port.initial, hold := false, notices := 0, mask := 0, overrun := 0, badFrame := 0,
    unread := 0 }

/-- The hide table after a reset (R68). -/
def HideTable.initial : HideTable :=
  { records := [], completion := [], cursor := 0, nextNumber := 1, reclaimed := 0 }

/-- The track after a reset (R88). -/
def Track.initial : Track :=
  { slices := [], pendingKnife := none, readCount := 0, gapCount := 0, flushedCount := 0 }

/-- A channel with nothing in it. -/
def Channel.initial (mode : ZoneMode) : Channel :=
  { mode := mode, position := none, slot := none, flight := none, misses := 0, timeouts := 0,
    lagging := false, entryMark := false, clearPoll := false, base := none }

/-- The mode a reset gives a zone (R131). -/
def ZoneMode.initial (active : Nat) (strap : StrapMode) (z : Nat) : ZoneMode :=
  if z < active then (match strap with | .profile => .track | .fixed => .manual) else .off

/-- The sixteen channels after a reset (R131). -/
def initialZones (active : Nat) (strap : StrapMode) : List Channel :=
  (List.range Config.zones).map fun z => Channel.initial (ZoneMode.initial active strap z)

/-- The link after a reset (R131). -/
def Link.initial : Link := { last := 15, txn := none, abandoned := none }

/-- The controller after a reset, for the straps sampled (R154): LINE alone is enabled. The dwell timer's
remaining time is 0, as the table of R154 has it, where R149 speaks of a remaining time kept through a
reset out of DWELL or PARK (DESIGN CHOICE, log 35). -/
def Controller.initial (active : Nat) (strap : StrapMode) : Controller :=
  { phase := .standby, restTarget := .dwell, flags := 0, enables := 0b1000,
    dwell := { running := false, remaining := 0, start := 0 }, feedStop := true,
    activeZones := active, strap := strap }

/-- The setting store after a power-on reset (R171). -/
def Settings.initial : Settings :=
  { articles := List.replicate Config.articleRows Config.factoryArticle, current := 0,
    knife := List.replicate Config.zones 0, geometry := Config.defaultGeometry, scale := 200,
    dwellTime := 600, locked := false }

/-- The state that a power-on reset leaves before the HALT input is looked at (R23, R45, R68, R88,
R131, R153, R154, R171, R188), for the levels present at its end. -/
def State.powerOn (pins : PinLevels) : State :=
  let active := if pins.mode0 then 16 else 12
  let strap := if pins.mode1 then StrapMode.fixed else StrapMode.profile
  { pending := [], now := 0, pins := { halt := pins.halt, feedStill := pins.feedStill },
    feed := Feed.initial Config.defaultGeometry.pitch ⟨pins.botA, pins.botB⟩ ⟨pins.topA, pins.topB⟩,
    intake := Intake.initial, hides := HideTable.initial, track := Track.initial,
    zones := initialZones active strap, link := Link.initial,
    ctl := Controller.initial active strap, settings := Settings.initial,
    line := LinePort.initial }

/-- DESIGN CHOICE (log 7): every input is low at the reset that `State.reset` stands for. -/
def lowPins : PinLevels :=
  { mode0 := false, mode1 := false, botA := false, botB := false, topA := false, topB := false,
    halt := false, feedStill := false }

/-- The machine right after a power-on reset. -/
def State.reset : State := State.powerOn lowPins

end Sys2Proof.Machine
end

