-- ==== Sys2Proof/Machine/Basics.lean ====
section
/-! DEFINITION. Comparisons of feed positions and strobe numbers (R1), saturating counts, and the one
list update by place. -/

namespace Sys2Proof.Machine

/-- The signed difference b − a of two feed positions (R1). -/
def posDiff (a b : Pos) : Int := (b - a).toInt

/-- H reaches x: the signed difference x − H is zero or negative (R1). -/
def reaches (h x : Pos) : Bool := decide (posDiff h x ≤ 0)

/-- A feed position plus a distance, modulo 2^32 (R1). -/
def posPlus (p : Pos) (d : Nat) : Pos := p + BitVec.ofNat 32 d

/-- Strobe a is older than b: the signed difference b − a is positive (00, Strobe numbers). -/
def older (a b : Num) : Bool := decide (0 < (b - a).toInt)

/-- Strobe a is at or newer than b. -/
def atOrNewer (a b : Num) : Bool := !older a b

/-- Strobe a is at or older than b: b is at or newer than a. -/
def atOrOlder (a b : Num) : Bool := !older b a

/-- The later of two strobes. -/
def laterOf (a b : Num) : Num := if older a b then b else a

/-- A count that stays where it is once it has reached its limit (R44, R85, R100). -/
def addTo (limit n by' : Nat) : Nat := min limit (n + by')

/-- A 16-bit counter rises by one. -/
def bump (n : Nat) : Nat := addTo Config.counter16 n 1

/-- `l` with `f` applied at place `i`. -/
def updAt {α : Type} (f : α → α) : Nat → List α → List α
  | _, [] => []
  | 0, x :: xs => f x :: xs
  | i + 1, x :: xs => x :: updAt f i xs

end Sys2Proof.Machine
end

