-- ==== Sys2Proof/Machine/Flags.lean ====
section
/-! DEFINITION. Flags and notices: raising and clearing the notices of the two ports (R29, R178), the
wake condition (R134), and the outputs that follow from flags. -/

namespace Sys2Proof.Machine

/-! ## Bit places (R193) -/

/-- The bit of a line notice: HIDE_DONE at bit 0, OVERRUN at bit 17, in the order of R178. -/
def LineNotice.index : LineNotice → Nat
  | .hideDone => 0
  | .hideAbandoned => 1
  | .reportLost => 2
  | .forcedEnd => 3
  | .gaugeLost => 4
  | .edge => 5
  | .slip => 6
  | .trimChanged => 7
  | .syncLost => 8
  | .syncLocked => 9
  | .zoneLagging => 10
  | .zoneFault => 11
  | .restEntered => 12
  | .restAborted => 13
  | .wake => 14
  | .halt => 15
  | .knifeApplied => 16
  | .overrun => 17

def GaugeNotice.index : GaugeNotice → Nat
  | .syncRestart => 0
  | .hideRefused => 1
  | .sliceRefused => 2
  | .orphan => 3
  | .overrun => 4

def WakeFlag.index : WakeFlag → Nat
  | .infeed => 0
  | .gauge => 1
  | .timer => 2
  | .line => 3

def LineNotice.bit (n : LineNotice) : BitVec 18 := 1#18 <<< n.index
def GaugeNotice.bit (n : GaugeNotice) : BitVec 5 := 1#5 <<< n.index
def WakeFlag.bit (w : WakeFlag) : BitVec 4 := 1#4 <<< w.index

/-! ## Raising -/

/-- Raising a line notice sets it; one already set stays set (R178). -/
def raiseLine (n : LineNotice) (s : State) : State :=
  { s with line := { s.line with notices := s.line.notices ||| n.bit } }

/-- Raise a line notice where a condition holds. -/
def raiseLineIf (c : Bool) (n : LineNotice) (s : State) : State := if c then raiseLine n s else s

/-- Raising a gauge notice sets it (R29); in FIXED the set is held clear (R43). -/
def raiseGauge (n : GaugeNotice) (s : State) : State :=
  match s.ctl.strap with
  | .profile => { s with intake := { s.intake with notices := s.intake.notices ||| n.bit } }
  | .fixed => s

/-! ## Outputs that follow from flags -/

/-- ATN of the line port (R178). -/
def lineAtn (s : State) : Bool := decide (s.line.notices &&& ~~~s.line.mask ≠ 0)

/-- ATN of the gauge port (R29). -/
def gaugeAtn (s : State) : Bool := decide (s.intake.notices &&& ~~~s.intake.mask ≠ 0)

/-- SYNC: high in LOCKED, but held low while a RESET is answered (R8, R23). -/
def syncOutput (s : State) : Bool := decide (s.feed.sync = .locked) && !s.feed.syncHeld

/-! ## Wake -/

/-- The wake condition: a wake flag is both set and enabled (R134). -/
def Controller.wakeHolds (c : Controller) : Bool := decide (c.flags &&& c.enables ≠ 0)

/-! ## Permissions by machine state (the table of 07) -/

/-- Strobes are issued and ANNOUNCE is taken (R12, R47). -/
def Phase.permitsStrobes : Phase → Bool
  | .run => true
  | .clearing => true
  | .braking => true
  | .dwell => true
  | .standby => false
  | .resuming => false
  | .park => false
  | .halt => false

/-- The feed is driven: FEED-STOP is released and the state does not gate FEED REF (R20, R132). -/
def Phase.drives : Phase → Bool
  | .run => true
  | .clearing => true
  | .standby => false
  | .resuming => false
  | .braking => false
  | .dwell => false
  | .park => false
  | .halt => false

/-! ## Hide states -/

/-- SCANNING, SCAN_SPLIT, SCANNED or SPLITTING. -/
def HideState.unfinished : HideState → Bool
  | .scanning => true
  | .scanSplit => true
  | .scanned => true
  | .splitting => true
  | .done => false
  | .abandoned => false

/-- The hide is open: SCANNING or SCAN_SPLIT. -/
def HideState.isOpen : HideState → Bool
  | .scanning => true
  | .scanSplit => true
  | .scanned => false
  | .splitting => false
  | .done => false
  | .abandoned => false

/-- The hide has had a conversion and is not finished: SCAN_SPLIT or SPLITTING. -/
def HideState.converting : HideState → Bool
  | .scanSplit => true
  | .splitting => true
  | .scanning => false
  | .scanned => false
  | .done => false
  | .abandoned => false

/-- A TRACK or MANUAL channel counts misses and may enter FAULT (R117, R119). -/
def ZoneMode.inService : ZoneMode → Bool
  | .track => true
  | .manual => true
  | .fault => false
  | .off => false

end Sys2Proof.Machine
end

