-- ==== Sys2Proof/Machine/Operands.lean ====
section
/-! DEFINITION. How the operands of commands are read: encoder levels (R2), readings (R194), codes
(R193), and the item checks of the setting requests (R157, R161, R163). -/

namespace Sys2Proof.Machine

/-! ## Encoder levels (R2) -/

inductive Step where
  | forward
  | backward
  | still
deriving DecidableEq, Repr

/-- The pair that follows (A, B) on the forward sequence 00, 10, 11, 01, 00. -/
def Quad.next (q : Quad) : Quad := ⟨!q.b, q.a⟩

/-- A change of the pair: one forward pulse, one reverse pulse, or none (both lines, or neither). -/
def Quad.step (ref new : Quad) : Step :=
  if new = ref.next then .forward else if ref = new.next then .backward else .still

/-! ## Readings (R37, R194) -/

/-- One reading as sent: 0 to 3000 a thickness, 8000 hex absent, every other value doubtful. -/
def readingOf (r : BitVec 16) : Reading :=
  if r.toNat ≤ 3000 then .thickness r.toNat else if r = 0x8000#16 then .absent else .doubtful

/-- The reply of sixteen readings: a zone at or above n or the active zone count is absent (R37). -/
def replyOf (active : Nat) (raw : List (BitVec 16)) : List Reading :=
  (List.range Config.zones).map fun z =>
    if z < active then (match raw[z]? with | some r => readingOf r | none => .absent) else .absent

/-! ## Codes (R193) -/

def restTargetOf (code : Byte) : Option RestTarget :=
  if code = 1 then some .dwell else if code = 2 then some .park else none

def zoneModeOf (code : Byte) : Option ZoneMode :=
  if code = 1 then some .track else if code = 2 then some .manual else none

/-! ## Item checks -/

/-- The number of the first item that fails; 0 where none does. -/
def firstFailing (checks : List (Nat × Bool)) : Nat :=
  match checks with
  | [] => 0
  | (item, passes) :: rest => if passes then firstFailing rest else item

/-- `lo ≤ v ≤ hi`. -/
def inRange (lo hi v : Int) : Bool := decide (lo ≤ v ∧ v ≤ hi)

/-- The items of WRITE_ARTICLE (R157). -/
def articleChecks (row : Nat) (a : Article) : List (Nat × Bool) :=
  [(1, decide (row ≤ 31)), (2, inRange 50 600 a.s), (3, inRange 0 300 a.rmin),
   (4, inRange 0 3000 a.p0.t), (5, inRange 0 3000 a.p1.t), (6, inRange 0 3000 a.p2.t),
   (7, inRange 0 3000 a.p3.t), (8, inRange 0 3000 a.p4.t), (9, inRange 0 3000 a.p5.t),
   (10, decide (a.p0.t < a.p1.t)), (11, decide (a.p1.t < a.p2.t)), (12, decide (a.p2.t < a.p3.t)),
   (13, decide (a.p3.t < a.p4.t)), (14, decide (a.p4.t < a.p5.t)),
   (15, inRange (-50) 150 a.p0.a), (16, inRange (-50) 150 a.p1.a), (17, inRange (-50) 150 a.p2.a),
   (18, inRange (-50) 150 a.p3.a), (19, inRange (-50) 150 a.p4.a), (20, inRange (-50) 150 a.p5.a)]

/-- The first failing item of WRITE_ARTICLE, or 0. -/
def articleItem (row : Nat) (a : Article) : Nat := firstFailing (articleChecks row a)

/-- The eighteen items of SET_GEOMETRY (R162, R163). -/
def geometryChecks (g : Geometry) : List (Nat × Bool) :=
  [(1, inRange 10 500 g.pitch), (2, inRange 1000 20000 g.distance), (3, inRange 10 20000 g.lead),
   (4, inRange 0 20000 g.infeed), (5, inRange 50 400 g.zoneWidth), (6, inRange 20 900 g.parkGap),
   (7, inRange 20 900 g.entryGap), (8, inRange 1 200 g.slew), (9, inRange 100 5000 g.settle),
   (10, inRange 0 200 g.tolerance), (11, inRange 200 5000 g.window), (12, inRange 1 500 g.slipLimit),
   (13, inRange 5000 60000 g.maxLength), (14, inRange 0 2000 g.edgeTolerance),
   (15, inRange 5 2000 g.moveTimeout), (16, decide (g.pitch ≤ g.lead)),
   (17, decide (g.lead + g.pitch ≤ g.distance)), (18, decide (g.distance ≤ 480 * g.pitch))]

/-- The first failing item of SET_GEOMETRY, or 0. -/
def geometryItem (g : Geometry) : Nat := firstFailing (geometryChecks g)

/-- The first zone whose knife offset is out of range (R161). -/
def knifeFailing (offsets : List Int) : Option Nat :=
  (List.range Config.zones).find? fun z => !inRange (-100) 100 (offsets.getD z 0)

/-- Sixteen offsets, one a zone (log 23). -/
def sixteen (offsets : List Int) : List Int :=
  (List.range Config.zones).map fun z => offsets.getD z 0

/-- Clamp to the range of gaps (R97, R127). -/
def clampGap (v : Int) : Int :=
  if v < Config.gapFloor then Config.gapFloor
  else if Config.gapCeiling < v then Config.gapCeiling else v

end Sys2Proof.Machine
end

