-- ==== Sys2Proof/Machine/Split.lean ====
section
/-! DEFINITION. The split target computation (05): six stages, zone by zone, from a slice's readings to
one result per zone, with the area and thickness extremes of the slice. It holds no state. -/

namespace Sys2Proof.Machine

/-- What the computation reads at a conversion (the input table of 05). -/
structure SplitInput where
  readings : Option (List Reading)
  hide : Num
  article : Article
  knife : List Int
  zones : List Channel
  slew : Nat
  pitch : Nat
  active : Nat

/-- One zone's result and, for a delivered target, its deviation (R98, R100). -/
structure ZoneSplit where
  result : ZoneResult
  deviation : Nat
deriving DecidableEq, Repr

def ZoneFlags.none : ZoneFlags :=
  { residual := false, floor := false, ceiling := false, slewed := false, extended := false }

/-- The slew step: floor(slew × P / 100), and 1 where that gives 0 (R90). -/
def slewStep (slew pitch : Nat) : Nat :=
  if slew * pitch / 100 = 0 then 1 else slew * pitch / 100

/-- round(n / d) for d positive, halves away from zero (R92). -/
def roundDiv (n d : Int) : Int :=
  if 0 ≤ n then (2 * n + d) / (2 * d) else -((-2 * n + d) / (2 * d))

/-- Stage 2: the allowance for a thickness on a compression curve (R92). -/
def allowance : List CurvePoint → Int → Int
  | [], _ => 0
  | [p], _ => p.a
  | p :: q :: rest, t =>
    if t ≤ p.t then p.a
    else if t < q.t then p.a + roundDiv ((q.a - p.a) * (t - p.t)) (q.t - p.t)
    else allowance (q :: rest) t

/-- Stage 3: the residual rule lowers the goal where T − S is below Rmin (R93). -/
def residual (a : Article) (t : Int) : Bool := decide (t - a.s < a.rmin)

def grainGoal (a : Article) (t : Int) : Int := if residual a t then t - a.rmin else a.s

/-- Stage 4: the raw target g + A + Kz (R94). -/
def rawTarget (a : Article) (k : Int) (t : Int) : Int := grainGoal a t + allowance a.points t + k

/-- The reading of a zone in a slice; absent where the slice holds none. -/
def SplitInput.reading (i : SplitInput) (z : Nat) : Reading :=
  match i.readings with
  | some rs => rs.getD z .absent
  | none => .absent

/-- The thickness of a present zone: a reading that is a thickness, below the active count (R89). -/
def SplitInput.present (i : SplitInput) (z : Nat) : Option Nat :=
  if z < i.active then
    match i.reading z with
    | .thickness t => some t
    | .absent => none
    | .doubtful => none
  else none

/-- The present zones in rising order. -/
def SplitInput.presentZones (i : SplitInput) : List Nat :=
  (List.range i.active).filter fun z => (i.present z).isSome

/-- The distance between two zones. -/
def zoneDistance (a b : Nat) : Nat := if a ≤ b then b - a else a - b

/-- The nearest of the zones to z; of two at one distance the earlier in the list, which rises (R91). -/
def nearest (z : Nat) : List Nat → Option Nat
  | [] => none
  | d :: rest =>
    match nearest z rest with
    | none => some d
    | some e => if zoneDistance z d ≤ zoneDistance z e then some d else some e

/-- Stage 4 for a present zone, with its own knife offset. -/
def SplitInput.raw (i : SplitInput) (z : Nat) : Int :=
  match i.present z with
  | some t => rawTarget i.article (i.knife.getD z 0) t
  | none => 0

/-- The channel of a zone. -/
def SplitInput.channel (i : SplitInput) (z : Nat) : Channel :=
  i.zones.getD z (Channel.initial .off)

/-- The base a zone has for this slice's hide (R95). -/
def SplitInput.baseFor (i : SplitInput) (z : Nat) : Option Int :=
  match (i.channel z).base with
  | some b => if b.hide = i.hide then some b.gap else none
  | none => none

/-- Stage 5: the rate limit (R96). -/
def rateLimit (step : Int) (base : Option Int) (g : Int) : Int :=
  match base with
  | none => g
  | some b => if g < b - step then b - step else if b + step < g then b + step else g

/-- Stages 5 and 6 on a raw target, with the flags of stages 1 to 3 (R96 to R100). -/
def SplitInput.deliver (i : SplitInput) (z : Nat) (g : Int) (extended res : Bool) : ZoneSplit :=
  let limited := rateLimit (slewStep i.slew i.pitch) (i.baseFor z) g
  let out := clampGap limited
  { result :=
      { target := some out,
        flags := { residual := res, floor := decide (limited < Config.gapFloor),
                   ceiling := decide (Config.gapCeiling < limited),
                   slewed := decide (limited ≠ g), extended := extended },
        progress := .waiting },
    deviation := (out - g).natAbs }

/-- A result without a target. -/
def ZoneSplit.without (p : Progress) : ZoneSplit :=
  { result := { target := none, flags := ZoneFlags.none, progress := p }, deviation := 0 }

/-- Stage 1 and the rest for one zone (R89, R91). -/
def SplitInput.zone (i : SplitInput) (z : Nat) : ZoneSplit :=
  match (i.channel z).mode with
  | .manual => .without .notTrack
  | .fault => .without .notTrack
  | .off => .without .notTrack
  | .track =>
    match i.presentZones with
    | [] => .without .held
    | _ :: _ =>
      match i.reading z with
      | .doubtful => .without .held
      | .thickness t => i.deliver z (i.raw z) false (residual i.article t)
      | .absent =>
        match nearest z i.presentZones with
        | some d => i.deliver z (i.raw d) true false
        | none => .without .held

/-- The results of a conversion, one for each zone below the active zone count (R73). -/
def SplitInput.run (i : SplitInput) : List ZoneSplit := (List.range i.active).map i.zone

/-- The present thicknesses of the slice (R102). -/
def SplitInput.thicknesses (i : SplitInput) : List Nat :=
  (List.range i.active).filterMap i.present

/-- floor(n × w × P / 10) mm², n the number of present zones (R101). -/
def sliceArea (n width pitch : Nat) : Nat := n * width * pitch / 10

end Sys2Proof.Machine
end

