-- ==== Sys2Proof/Machine/Ops.lean ====
section
/-! DEFINITION. The shared operations of the zone channels, the zone link, the feed reference and the
machine state controller's elementary changes, each written once from the rule it follows. -/

namespace Sys2Proof.Machine

/-! ## Channels -/

/-- The channel of zone z. -/
def channel (s : State) (z : Nat) : Channel := s.zones.getD z (Channel.initial .off)

/-- Change the channel of zone z. -/
def updChannel (f : Channel → Channel) (z : Nat) (s : State) : State :=
  { s with zones := updAt f z s.zones }

/-- The zones in order. -/
def zoneList : List Nat := List.range Config.zones

/-- Do `f` for each zone in order. -/
def forZones (f : Nat → State → State) (s : State) : State := zoneList.foldl (fun t z => f z t) s

/-! ## Reports to the slices of the track (R75) -/

/-- WAITING and SENT give way to a report; every other progress stays (R75). -/
def Progress.report (p q : Progress) : Progress :=
  match q with
  | .waiting => p
  | .sent => p
  | .complete => q
  | .timedOut => q
  | .ended => q
  | .skipped => q
  | .held => q
  | .notTrack => q

def ZoneResult.report (p : Progress) (r : ZoneResult) : ZoneResult :=
  { r with progress := p.report r.progress }

/-- The slice that a reference names. -/
def Slice.isFor (r : SliceRef) (sl : Slice) : Bool :=
  decide (sl.strobe = r.strobe) && decide (sl.hide = r.hide)

/-- A report for zone z of the slice named: a slice that has left the queue is not found (R75). -/
def reportSlice (r : SliceRef) (z : Nat) (p : Progress) (s : State) : State :=
  { s with track := { s.track with
      slices := s.track.slices.map fun sl =>
        if sl.isFor r then { sl with results := updAt (ZoneResult.report p) z sl.results } else sl } }

/-- A report for a target record, where it carries a slice reference. -/
def report (t : Option Target) (z : Nat) (p : Progress) (s : State) : State :=
  match t.bind Target.ref with
  | some r => reportSlice r z p s
  | none => s

/-! ## The next slot and the move in flight (R109) -/

/-- Zone z's slot no longer holds the record that a SEND on the link took its copy from (R114). -/
def Link.slotChanged (z : Nat) (l : Link) : Link :=
  { l with txn := l.txn.map fun t => if t.zone = z then { t with slotHolds := false } else t }

/-- Put a record in zone z's slot, or empty it. -/
def setSlot (t : Option Target) (z : Nat) (s : State) : State :=
  { updChannel (fun c => { c with slot := t }) z s with link := s.link.slotChanged z }

/-- A placement: a record replaced is reported SKIPPED (R109). -/
def place (t : Target) (z : Nat) (s : State) : State :=
  setSlot (some t) z (report (channel s z).slot z .skipped s)

/-- The slot is emptied: a record there is reported SKIPPED (R119, R123, R128). -/
def discardSlot (z : Nat) (s : State) : State :=
  setSlot none z (report (channel s z).slot z .skipped s)

/-- The in-flight move is ended with a report. -/
def endFlight (p : Progress) (z : Nat) (s : State) : State :=
  updChannel (fun c => { c with flight := none }) z
    (report ((channel s z).flight.map Move.target) z p s)

/-- Whether a target record belongs to a slice that `leaving` picks out; then it loses its reference. -/
def Target.detach (leaving : SliceRef → Bool) (t : Target) : Target :=
  match t.ref with
  | some r => if leaving r then { t with ref := none } else t
  | none => t

/-- The targets a channel holds for slices that leave the queue are detached (R77). -/
def Channel.detach (leaving : SliceRef → Bool) (c : Channel) : Channel :=
  { c with slot := c.slot.map (Target.detach leaving),
           flight := c.flight.map fun m => { m with target := m.target.detach leaving } }

/-- The record that a SEND on the link has copied is detached with the slot's (log 10). -/
def Link.detach (leaving : SliceRef → Bool) (l : Link) : Link :=
  { l with txn := l.txn.map fun t => { t with sent := t.sent.map (Target.detach leaving) } }

/-- Detach every target of the slices that `leaving` picks out (R77). -/
def detach (leaving : SliceRef → Bool) (s : State) : State :=
  { s with zones := s.zones.map (Channel.detach leaving), link := s.link.detach leaving }

/-- FAULT entry (R119). -/
def enterFault (z : Nat) (s : State) : State :=
  raiseLine .zoneFault
    (updChannel (fun c => { c with mode := .fault, entryMark := false }) z
      (endFlight .ended z (discardSlot z s)))

/-- A miss at a TRACK or MANUAL channel counts, and the third enters FAULT (R117). -/
def countMiss (z : Nat) (s : State) : State :=
  if (channel s z).mode.inService then
    let counted := updChannel (fun c => { c with misses := c.misses + 1 }) z s
    if 3 ≤ (channel counted z).misses then enterFault z counted else counted
  else s

/-- A reply taken with the fault bit clear returns a TRACK or MANUAL channel's misses to 0 (R117). -/
def clearMisses (z : Nat) (s : State) : State :=
  if (channel s z).mode.inService then updChannel (fun c => { c with misses := 0 }) z s else s

/-- A reply with its fault bit set puts a TRACK or MANUAL channel into FAULT (R119). -/
def faultReply (z : Nat) (s : State) : State :=
  if (channel s z).mode.inService then enterFault z s else s

/-- A move completes (R116). -/
def completeMove (z : Nat) (s : State) : State :=
  match (channel s z).flight with
  | none => s
  | some m =>
    updChannel (fun c => { c with lagging := false, timeouts := 0,
                                  entryMark := c.entryMark && decide (m.target.cause ≠ .entry) }) z
      (endFlight .complete z s)

/-! ## The link arbiter (R110, R111) -/

/-- A channel's request, the machine not being in HALT (R110). -/
def Channel.request (c : Channel) : Option TxnKind :=
  if c.clearPoll then some .clearPoll
  else match c.mode with
    | .fault => none
    | .off => none
    | .track => if c.flight.isSome then some .poll else if c.slot.isSome then some .send else none
    | .manual => if c.flight.isSome then some .poll else if c.slot.isSome then some .send else none

/-- The zones from the one after the last granted, wrapping from 15 to 0 (R111). -/
def grantOrder (last : Nat) : List Nat :=
  (List.range Config.zones).map fun i => (last + 1 + i) % Config.zones

/-- The first zone with a request. -/
def firstRequest (s : State) : List Nat → Option (Nat × TxnKind)
  | [] => none
  | z :: rest =>
    match (channel s z).request with
    | some k => some (z, k)
    | none => firstRequest s rest

/-- The link is free for a grant: no transaction, and no window of an abandoned one (R111, R131). -/
def Link.free (l : Link) : Bool := l.txn.isNone && l.abandoned.isNone

/-- The transaction that a grant starts; a SEND takes a copy of the slot's record (R112, R114). -/
def startTxn (s : State) (z : Nat) (k : TxnKind) : Txn :=
  { zone := z, kind := k, start := s.now,
    sent := match k with | .send => (channel s z).slot | .poll => none | .clearPoll => none,
    slotHolds := decide (k = .send), overHalt := false }

/-- The link after the arbiter has looked at it. -/
def granted (s : State) : Link :=
  if s.ctl.phase = .halt then s.link
  else if s.link.free then
    match firstRequest s (grantOrder s.link.last) with
    | some (z, k) => { s.link with last := z, txn := some (startTxn s z k) }
    | none => s.link
  else s.link

/-- The arbiter's grant at the end of an event (R111). -/
def arbitrate (s : State) : State := { s with link := granted s }

/-! ## Feed reference (R18 to R20) -/

/-- The effective count c before gating (R18). -/
def effectiveCount (period duty trim : Nat) : Nat := min duty (period + 1) / 2 ^ trim

/-- The count that the settings and the trim now give. -/
def Feed.effective (f : Feed) : Nat := effectiveCount f.period f.duty f.trim

/-- FEED REF is gated: HALT asserted, or a machine state other than RUN and CLEARING (R20). -/
def gateClosed (s : State) : Bool := s.pins.halt || !s.ctl.phase.drives

/-- A new period with the values now in force; c is taken as 0 while gated (R18, R19). -/
def startPeriod (s : State) : State :=
  let c := if gateClosed s then 0 else s.feed.effective
  { s with feed := { s.feed with ref :=
      { period := s.feed.period, count := c, start := s.now, high := decide (0 < c),
        gated := gateClosed s } } }

/-- The gate after a change: closing takes FEED REF low at once, lifting begins a new period (R19). -/
def applyGate (s : State) : State :=
  if gateClosed s then
    { s with feed := { s.feed with ref := { s.feed.ref with high := false, gated := true } } }
  else if s.feed.ref.gated then startPeriod s
  else s

/-! ## Machine state (07) -/

/-- A transition: the machine state, FEED-STOP (R132) and the feed reference's gate (R20) together. -/
def enterPhase (p : Phase) (s : State) : State :=
  applyGate { s with ctl := { s.ctl with phase := p, feedStop := !p.drives } }

/-- The dwell timer's remaining time now, in units of 100 ms (R149). -/
def dwellRemaining (s : State) : Nat :=
  if s.ctl.dwell.running then
    s.ctl.dwell.remaining - (s.now - s.ctl.dwell.start) / Config.dwellUnit
  else s.ctl.dwell.remaining

/-- The dwell timer starts from the dwell time held now (R149). -/
def startDwell (s : State) : State :=
  { s with ctl := { s.ctl with dwell :=
      { running := true, remaining := s.settings.dwellTime, start := s.now } } }

/-- The dwell timer stops, its remaining time kept (R149). -/
def stopDwell (s : State) : State :=
  { s with ctl := { s.ctl with dwell :=
      { running := false, remaining := dwellRemaining s, start := s.ctl.dwell.start } } }

/-- Entry to RUN (R140). -/
def enterRun (s : State) : State := stopDwell (enterPhase .run s)

/-- A channel holds an entry mark. -/
def anyEntryMark (s : State) : Bool := s.zones.any Channel.entryMark

/-- RESUMING is left for RUN at the event after which no channel holds an entry mark (R139). -/
def passResuming (s : State) : State :=
  if s.ctl.phase = .resuming && !anyEntryMark s then enterRun s else s

/-- The entry gap into zone z where it is in TRACK, with its entry mark (R121). -/
def placeEntry (z : Nat) (s : State) : State :=
  if (channel s z).mode = .track then
    updChannel (fun c => { c with entryMark := true }) z
      (place { gap := s.settings.geometry.entryGap, cause := .entry, ref := none } z s)
  else s

/-- The park gap into zone z where it is in TRACK (R122). -/
def placePark (z : Nat) (s : State) : State :=
  if (channel s z).mode = .track then
    place { gap := s.settings.geometry.parkGap, cause := .park, ref := none } z s
  else s

/-- Entry to RESUMING, passing on to RUN where no channel is in TRACK (R139). -/
def enterResuming (s : State) : State := passResuming (forZones placeEntry (enterPhase .resuming s))

/-- Time reaches at least t (log 4). -/
def advanceTo (t : Nat) (s : State) : State := { s with now := max s.now t }

end Sys2Proof.Machine
end

