-- ==== Sys2Proof/Machine/HideOps.lean ====
section
/-! DEFINITION. The shared operations of the hide table and the knife profile: finding and changing
records, the completion order list and its cursor, ending, finishing and abandoning hides (03), and the
application of a pending profile (04, R84). -/

namespace Sys2Proof.Machine

/-! ## Records -/

/-- The record in use that holds a number (R46). -/
def findHide (s : State) (n : Num) : Option HideRecord := s.hides.records.find? fun r => r.number = n

/-- The open hide (03). -/
def openHide (s : State) : Option HideRecord := s.hides.records.find? fun r => r.state.isOpen

def updRecords (f : HideRecord → HideRecord) (s : State) : State :=
  { s with hides := { s.hides with records := s.hides.records.map f } }

/-- Change the record that holds a number. -/
def updHide (f : HideRecord → HideRecord) (n : Num) (s : State) : State :=
  updRecords (fun r => if r.number = n then f r else r) s

/-- A hide is in SCAN_SPLIT or SPLITTING. -/
def anyConverting (s : State) : Bool := s.hides.records.any fun r => r.state.converting

/-- A hide is in SCANNING, SCAN_SPLIT, SCANNED or SPLITTING. -/
def anyUnfinished (s : State) : Bool := s.hides.records.any fun r => r.state.unfinished

/-! ## The completion order list and the report cursor (R62) -/

/-- A record joins the list at its tail; the cursor does not move. -/
def joinCompletion (n : Num) (s : State) : State :=
  { s with hides := { s.hides with completion := s.hides.completion ++ [n] } }

/-- A record leaves the list; the cursor falls by one where the record stood before it. -/
def HideTable.leave (n : Num) (t : HideTable) : HideTable :=
  { t with completion := t.completion.filter (· ≠ n),
           cursor := if (t.completion.take t.cursor).contains n then t.cursor - 1 else t.cursor }

/-- The record becomes FREE. -/
def HideTable.free (n : Num) (t : HideTable) : HideTable :=
  { t with records := t.records.filter (·.number ≠ n) }

/-! ## The knife profile (R84) -/

/-- The profile becomes the applied one (R83, R84). -/
def applyKnife (k : List Int) (s : State) : State :=
  raiseLine .knifeApplied
    { s with settings := { s.settings with knife := k },
             track := { s.track with pendingKnife := none } }

/-- A pending profile is applied when no hide is left in SCAN_SPLIT or SPLITTING (R84). -/
def applyPending (s : State) : State :=
  match s.track.pendingKnife with
  | none => s
  | some k => if anyConverting s then s else applyKnife k s

/-! ## Finishing (R59) -/

def becomeDone (n : Num) (s : State) : State :=
  applyPending
    (raiseLine .hideDone
      (joinCompletion n (updHide (fun r => { r with state := .done, rangeOpen := false }) n s)))

/-- The condition of R59. -/
def HideRecord.finished (r : HideRecord) : Bool :=
  decide (r.state = .splitting) && r.last.isSome && decide (r.newestEntered = r.last)
    && decide (r.inTrack = 0)

def tryDone (n : Num) (s : State) : State :=
  match findHide s n with
  | some r => if r.finished then becomeDone n s else s
  | none => s

/-! ## Ending (R53) -/

/-- SCANNING goes to SCANNED and SCAN_SPLIT to SPLITTING. -/
def HideState.ended : HideState → HideState
  | .scanning => .scanned
  | .scanSplit => .splitting
  | .scanned => .scanned
  | .splitting => .splitting
  | .done => .done
  | .abandoned => .abandoned

/-- End hide n at strobe e; a forced end flags the hide and raises FORCED_END (R53). -/
def endAt (n e : Num) (forced : Bool) (s : State) : State :=
  tryDone n
    (raiseLineIf forced .forcedEnd
      (updHide (fun r => { r with state := r.state.ended, last := some e,
                                  flags := { r.flags with forcedEnd := r.flags.forcedEnd || forced } })
        n s))

/-! ## Strobe ranges (R60, R67) -/

/-- A strobe number within a record's first and last strobe (R33). -/
def HideRecord.holds (r : HideRecord) (n : Num) : Bool :=
  atOrOlder r.first.num n && (match r.last with | some l => atOrNewer l n | none => true)

/-- The range of an ABANDONED record closes when none of its strobes is outstanding (R60). -/
def closeRanges (s : State) : State :=
  updRecords (fun r =>
    if r.state = .abandoned && r.rangeOpen && !(s.intake.list.any fun e => r.holds e.num)
    then { r with rangeOpen := false } else r) s

/-! ## Abandoning (R60, R61, R198) -/

/-- Insert a record behind those whose first strobe is older (R61). -/
def insertByFirst (r : HideRecord) : List HideRecord → List HideRecord
  | [] => [r]
  | q :: rest => if older r.first.num q.first.num then r :: q :: rest else q :: insertByFirst r rest

/-- Records in the order of their first strobes, oldest first. -/
def sortByFirst : List HideRecord → List HideRecord
  | [] => []
  | r :: rest => insertByFirst r (sortByFirst rest)

/-- An unfinished hide becomes ABANDONED by a flush or a PARK entry; every range closes (R61, R198). -/
def HideRecord.emptied (cause : AbandonCause) (r : HideRecord) : HideRecord :=
  if r.state.unfinished then
    { r with state := .abandoned, cause := some cause, rangeOpen := false, inTrack := 0,
             last := if r.state.isOpen then r.newestEntered else r.last }
  else { r with rangeOpen := false }

/-- Every unfinished hide is abandoned with a cause, in the order of the first strobes (R61). -/
def abandonAll (cause : AbandonCause) (s : State) : State :=
  let leaving := sortByFirst (s.hides.records.filter fun r => r.state.unfinished)
  raiseLineIf (!leaving.isEmpty) .hideAbandoned
    { s with hides := { s.hides with
        records := s.hides.records.map (HideRecord.emptied cause),
        completion := s.hides.completion ++ leaving.map HideRecord.number } }

/-- What a flush and a PARK entry share: every slice is discarded and counted, its targets detached, the
outstanding strobe list emptied, the unfinished hides abandoned, a pending profile applied (R80, R81). -/
def emptyTrack (cause : AbandonCause) (s : State) : State :=
  applyPending
    (abandonAll cause
      (detach (fun _ => true)
        { s with
          track := { s.track with
            slices := []
            flushedCount := addTo Config.counter32 s.track.flushedCount s.track.slices.length }
          intake := { s.intake with list := [] } }))

/-- A flush, which also empties the infeed capture slot (R80). -/
def flush (cause : AbandonCause) (s : State) : State :=
  let t := emptyTrack cause s
  { t with feed := { t.feed with capture := none, overwrite := false } }

/-! ## Rest and HALT (07) -/

/-- Entry to DWELL (R144). -/
def enterDwell (s : State) : State := raiseLine .restEntered (startDwell (enterPhase .dwell s))

/-- Entry to PARK (R145). -/
def enterPark (s : State) : State :=
  raiseLine .restEntered
    (startDwell (forZones placePark (emptyTrack .park (enterPhase .park s))))

/-- The rest named by the rest target (R143). -/
def enterRest (s : State) : State :=
  match s.ctl.restTarget with
  | .dwell => enterDwell s
  | .park => enterPark s

/-- Entry to BRAKING; where FEED-STILL is asserted the rest is entered at once (R143). -/
def enterBraking (s : State) : State :=
  let t := enterPhase .braking s
  if t.pins.feedStill then enterRest t else t

/-- The knife is clear (R142). -/
def knifeClear (s : State) : Bool := !anyUnfinished s && s.track.slices.isEmpty

/-- In CLEARING the machine enters BRAKING once the knife is clear (R142). -/
def passClearing (s : State) : State :=
  if s.ctl.phase = .clearing && knifeClear s then enterBraking s else s

/-- What ends every event that may clear the knife: the test of R142, then the arbiter's grant. -/
def settle (s : State) : State := arbitrate (passClearing s)

/-- HALT stills one channel (R123). -/
def stillZone (z : Nat) (s : State) : State :=
  updChannel (fun c => { c with entryMark := false, clearPoll := false, position := none }) z
    (discardSlot z (endFlight .ended z s))

/-- HALT stills the channels; a transaction on the link is marked for R124. -/
def stillZones (s : State) : State :=
  let t := forZones stillZone s
  { t with link := { t.link with txn := t.link.txn.map fun x => { x with overHalt := true } } }

/-- Entry to HALT (R150). -/
def enterHalt (s : State) : State :=
  raiseLine .halt (stillZones (flush .halt (stopDwell (enterPhase .halt s))))

/-! ## Wake (R133, R134) -/

/-- What a wake event does in each machine state (R134, R146 to R148). -/
def wakeEvent (s : State) : State :=
  match s.ctl.phase with
  | .clearing => raiseLine .restAborted (enterRun s)
  | .braking => raiseLine .restAborted (enterRun s)
  | .dwell => raiseLine .wake (enterRun s)
  | .park => raiseLine .wake (arbitrate (enterResuming (stopDwell s)))
  | .standby => s
  | .resuming => s
  | .run => s
  | .halt => s

/-- A change of the wake flags or enables is a wake event where it makes the wake condition hold. -/
def changeWake (f : Controller → Controller) (s : State) : State :=
  let t := { s with ctl := f s.ctl }
  if t.ctl.wakeHolds && !s.ctl.wakeHolds then wakeEvent t else t

/-- A wake flag is set by its source (R133). -/
def setWakeFlag (w : WakeFlag) (s : State) : State :=
  changeWake (fun c => { c with flags := c.flags ||| w.bit }) s

end Sys2Proof.Machine
end

