-- ==== Sys2Proof/Machine/TrackOps.lean ====
section
/-! DEFINITION. The path of a strobe: its issue, its departure from the outstanding strobe list, its
entry into the track, its conversion at the lead crossing and its retirement at the knife crossing
(01, 02, 04), and the rises and falls of F that drive them. -/

namespace Sys2Proof.Machine

/-! ## Membership and departure (R33, R34) -/

/-- The record a strobe belongs to: of those whose open range holds it, the one with the newest first
strobe; of two with the same first strobe the one announced later (R33, R47, R67, log 13). -/
def memberOf (n : Num) : List HideRecord → Option HideRecord
  | [] => none
  | r :: rest =>
    match memberOf n rest with
    | some q => if r.rangeOpen && r.holds n && older q.first.num r.first.num then some r else some q
    | none => if r.rangeOpen && r.holds n then some r else none

/-- GAUGE_LOST is due: the eighth GAP slice in a row of an open hide not yet flagged (R55). -/
def HideRecord.losesGauge (gap : Bool) (r : HideRecord) : Bool :=
  gap && r.state.isOpen && decide (7 ≤ r.gapRun) && !r.flags.gaugeLost

/-- The gap run after a slice has entered (R55). -/
def HideRecord.nextGapRun (gap : Bool) (r : HideRecord) : Nat :=
  if r.state.isOpen then (if gap then min 8 (r.gapRun + 1) else 0) else r.gapRun

/-- A slice enters the track for a record (R55). -/
def HideRecord.enter (n : Num) (gap : Bool) (r : HideRecord) : HideRecord :=
  { r with sliceCount := bump r.sliceCount,
           gapCount := if gap then bump r.gapCount else r.gapCount,
           inTrack := r.inTrack + 1, newestEntered := some n, gapRun := r.nextGapRun gap,
           flags := { r.flags with gaugeLost := r.flags.gaugeLost || r.losesGauge gap } }

/-- A departing entry enters the track at its tail as a slice of a hide (R69, R71). -/
def enterTrack (e : Entry) (r : HideRecord) (s : State) : State :=
  let gap := e.reply.isNone
  raiseLineIf (r.losesGauge gap) .gaugeLost
    (updHide (HideRecord.enter e.num gap) r.number
      { s with track := { s.track with
          slices := s.track.slices ++ [{ strobe := e.num, pos := e.pos, hide := r.number,
                                         readings := e.reply, stage := .entered, results := [] }],
          readCount := if gap then s.track.readCount else addTo Config.counter32 s.track.readCount 1,
          gapCount := if gap then addTo Config.counter32 s.track.gapCount 1 else s.track.gapCount } })

/-- A reply that finds no hide is dropped and counted (R34). -/
def dropOrphan (e : Entry) (s : State) : State :=
  if e.reply.isSome then
    raiseGauge .orphan { s with intake := { s.intake with orphan := bump s.intake.orphan } }
  else s

/-- An entry that has left the list is handed on by the hide found for it (R34). -/
def handOn (e : Entry) (s : State) : State :=
  match memberOf e.num s.hides.records with
  | some r => if r.state.unfinished then enterTrack e r s else s
  | none => dropOrphan e s

/-- The head of the list departs (R33, R34), and ranges that this ends close (R60). -/
def departHead (s : State) : State :=
  match s.intake.list with
  | [] => s
  | e :: rest => closeRanges (handOn e { s with intake := { s.intake with list := rest } })

/-- While the head holds a reply it departs (R32); `fuel` bounds the departures by the list's length. -/
def departReplied : Nat → State → State
  | 0, s => s
  | fuel + 1, s =>
    match s.intake.list with
    | [] => s
    | e :: _ => if e.reply.isSome then departReplied fuel (departHead s) else s

/-- The departures that R32 makes due. -/
def departDue (s : State) : State := departReplied s.intake.list.length s

/-- Every entry departs, from the head to the tail (R42). -/
def departAll : Nat → State → State
  | 0, s => s
  | fuel + 1, s => departAll fuel (departHead s)

/-! ## Strobe issue (R12, R31) -/

/-- A strobe joins the list; a full list first gives up its head, and what R32 then makes due. -/
def joinList (num : Num) (pos : Pos) (s : State) : State :=
  let t := if Config.listCapacity ≤ s.intake.list.length then departDue (departHead s) else s
  { t with intake := { t.intake with list := t.intake.list ++ [{ num := num, pos := pos, reply := none }] } }

/-- A strobe is issued at the next strobe position (R12). -/
def issueStrobe (s : State) : State :=
  let num := s.feed.nextNum
  let pos := s.feed.nextPos
  let t := joinList num pos s
  { t with feed := { t.feed with
      newest := some { num := num, pos := pos }, nextNum := num + 1,
      nextPos := posPlus pos s.settings.geometry.pitch, strobePulses := t.feed.strobePulses + 1 } }

/-- SETTLING ends when H reaches the settle start plus the settle distance (R10). -/
def lockSync (s : State) : State :=
  if s.feed.sync = .settling
      && reaches s.feed.h (posPlus s.feed.settleStart s.settings.geometry.settle) then
    raiseGauge .syncRestart
      (raiseLine .syncLocked
        { s with feed := { s.feed with sync := .locked, nextNum := 0, nextPos := s.feed.h } })
  else s

/-- Issue is permitted (R12). -/
def mayIssue (s : State) : Bool := decide (s.feed.sync = .locked) && s.ctl.phase.permitsStrobes

/-- The feed unit's part of a rise of H: the end of settling, then a strobe or the move of the next
strobe position (R10, R12, R13). -/
def riseStrobe (s : State) : State :=
  let t := lockSync s
  if mayIssue t then
    if reaches t.feed.h t.feed.nextPos then issueStrobe t else t
  else { t with feed := { t.feed with nextPos := posPlus t.feed.h t.settings.geometry.pitch } }

/-! ## Slip window (R15 to R17) -/

/-- The window opens anew at the present H with T at 0. -/
def openWindow (count : Nat) (s : State) : State :=
  { s with feed := { s.feed with slip := { start := s.feed.h, advance := 0, count := count } } }

/-- The restart of R16. -/
def restartWindow (s : State) : State := openWindow 0 s

/-- A slip window: SLIP on converting hides, and at the third in a row the trim step (R17). -/
def slipFound (s : State) : State :=
  let t := updRecords (fun r =>
    if r.state.converting then { r with flags := { r.flags with slip := true } } else r) s
  if 2 ≤ s.feed.slip.count then
    openWindow 0
      (raiseLine .slip
        (raiseLineIf (decide (t.feed.trim < 4)) .trimChanged
          { t with feed := { t.feed with trim := if t.feed.trim < 4 then t.feed.trim + 1 else t.feed.trim } }))
  else openWindow (s.feed.slip.count + 1) t

/-- The end of the slip window when H reaches it (R15). -/
def riseSlip (s : State) : State :=
  if reaches s.feed.h (posPlus s.feed.slip.start s.settings.geometry.window) then
    if s.settings.geometry.slipLimit < ((s.settings.geometry.window : Int) - s.feed.slip.advance).natAbs then
      slipFound s
    else openWindow 0 s
  else s

/-! ## Conversion (R56, R73, R74) -/

/-- The inputs of the split computation for a slice of a record (05). -/
def splitInput (sl : Slice) (r : HideRecord) (s : State) : SplitInput :=
  { readings := sl.readings, hide := sl.hide, article := r.article, knife := s.settings.knife,
    zones := s.zones, slew := s.settings.geometry.slew, pitch := s.settings.geometry.pitch,
    active := s.ctl.activeZones }

def ZoneCounts.addFlags (f : ZoneFlags) (c : ZoneCounts) : ZoneCounts :=
  { c with residual := if f.residual then bump c.residual else c.residual,
           floor := if f.floor then bump c.floor else c.floor,
           ceiling := if f.ceiling then bump c.ceiling else c.ceiling,
           slewed := if f.slewed then bump c.slewed else c.slewed,
           extended := if f.extended then bump c.extended else c.extended }

/-- Add each zone's result to that zone's counts. -/
def addCounts (add : ZoneResult → ZoneCounts → ZoneCounts) :
    List ZoneResult → List ZoneCounts → List ZoneCounts
  | [], cs => cs
  | _ :: _, [] => []
  | r :: rs, c :: cs => add r c :: addCounts add rs cs

/-- SCANNING to SCAN_SPLIT and SCANNED to SPLITTING (R56). -/
def HideState.afterConversion : HideState → HideState
  | .scanning => .scanSplit
  | .scanned => .splitting
  | .scanSplit => .scanSplit
  | .splitting => .splitting
  | .done => .done
  | .abandoned => .abandoned

def lowest (old : Option Nat) (t : Nat) : Option Nat :=
  match old with | some m => some (min m t) | none => some t

def highest (old : Option Nat) (t : Nat) : Option Nat :=
  match old with | some m => some (max m t) | none => some t

/-- The record takes a conversion's results (R56). -/
def HideRecord.convert (outs : List ZoneSplit) (present : List Nat) (area : Nat) (r : HideRecord) :
    HideRecord :=
  { r with state := r.state.afterConversion,
           counts := addCounts (fun x c => c.addFlags x.flags) (outs.map ZoneSplit.result) r.counts,
           deviation := addTo Config.counter32 r.deviation ((outs.map ZoneSplit.deviation).sum),
           area := addTo Config.counter32 r.area area,
           tMin := present.foldl lowest r.tMin, tMax := present.foldl highest r.tMax }

/-- The target of a zone becomes its base and goes into its next slot (R74, R98). -/
def deliverTarget (sl : Slice) (z : Nat) (gap : Int) (s : State) : State :=
  updChannel (fun c => { c with base := some { gap := gap, hide := sl.hide } }) z
    (place { gap := gap, cause := .track, ref := some { strobe := sl.strobe, hide := sl.hide } } z s)

/-- The targets of a conversion, zone by zone from zone z on. -/
def deliverTargets (sl : Slice) : Nat → List ZoneResult → State → State
  | _, [], s => s
  | z, r :: rest, s =>
    deliverTargets sl (z + 1) rest (match r.target with | some g => deliverTarget sl z g s | none => s)

/-- The conversion of a slice, whole (R73, R74). -/
def convertSlice (sl : Slice) (s : State) : State :=
  match findHide s sl.hide with
  | none => s
  | some r =>
    let i := splitInput sl r s
    let outs := i.run
    let present := i.thicknesses
    let results := outs.map ZoneSplit.result
    let t := { s with track := { s.track with
      slices := s.track.slices.map fun x =>
        if x.strobe = sl.strobe && x.hide = sl.hide then
          { x with stage := .converted, results := results } else x } }
    let area := sliceArea present.length s.settings.geometry.zoneWidth s.settings.geometry.pitch
    deliverTargets sl 0 results (updHide (HideRecord.convert outs present area) sl.hide t)

/-- The oldest slice in ENTERED. -/
def oldestEntered (s : State) : Option Slice := s.track.slices.find? fun sl => sl.stage = .entered

/-- H has reached the lead point p + D − L (R72). -/
def leadReached (p : Pos) (s : State) : Bool :=
  reaches s.feed.h
    (posPlus p s.settings.geometry.distance - BitVec.ofNat 32 s.settings.geometry.lead)

/-- The slice that a forced departure has brought in is converted at once (R72). -/
def convertEntered (s : State) : State :=
  match oldestEntered s with
  | some sl => convertSlice sl s
  | none => s

/-- The lead crossing at a rise of H (R35, R72). -/
def riseLead (s : State) : State :=
  match oldestEntered s with
  | some sl => if leadReached sl.pos s then convertSlice sl s else s
  | none =>
    match s.intake.list with
    | [] => s
    | e :: _ => if leadReached e.pos s then departDue (convertEntered (departHead s)) else s

/-! ## Knife crossing (R58, R76) -/

/-- Progress settled into an outcome (R76). -/
def Progress.outcome : Progress → ZoneOutcome
  | .complete => .onTime
  | .waiting => .late
  | .sent => .late
  | .timedOut => .late
  | .ended => .late
  | .skipped => .skipped
  | .held => .held
  | .notTrack => .notTrack

def ZoneCounts.addOutcome (o : ZoneOutcome) (c : ZoneCounts) : ZoneCounts :=
  match o with
  | .onTime => { c with onTime := bump c.onTime }
  | .late => { c with late := bump c.late }
  | .skipped => { c with skipped := bump c.skipped }
  | .held => { c with held := bump c.held }
  | .notTrack => { c with notTrack := bump c.notTrack }

/-- The record takes a slice's outcomes (R58). -/
def HideRecord.pass (sl : Slice) (r : HideRecord) : HideRecord :=
  { r with counts := addCounts (fun x c => c.addOutcome x.progress.outcome) sl.results r.counts,
           inTrack := r.inTrack - 1 }

/-- H has reached the knife point p + D (R76). -/
def knifeReached (p : Pos) (s : State) : Bool :=
  reaches s.feed.h (posPlus p s.settings.geometry.distance)

/-- The head slice retires (R76). -/
def retire (sl : Slice) (rest : List Slice) (s : State) : State :=
  tryDone sl.hide
    (detach (fun r => sl.isFor r)
      (updHide (HideRecord.pass sl) sl.hide { s with track := { s.track with slices := rest } }))

/-- The knife crossing at a rise of H (R76). -/
def riseKnife (s : State) : State :=
  match s.track.slices with
  | [] => s
  | sl :: rest => if knifeReached sl.pos s then retire sl rest s else s

/-! ## Maximum hide length (R54) -/

def riseLength (s : State) : State :=
  match openHide s, s.feed.newest with
  | some r, some newest =>
    if (s.settings.geometry.maxLength : Int) < posDiff r.first.pos s.feed.h then
      endAt r.number newest.num true s
    else s
  | some _, none => s
  | none, _ => s

/-! ## Rises and falls (R3, R5 to R7) -/

/-- One position-keyed event, if due, with what ends every event: the knife-clear test and the grant. -/
def riseEvent : RiseEvent → State → State
  | .strobe, s => settle (riseStrobe s)
  | .slip, s => settle (riseSlip s)
  | .lead, s => settle (riseLead s)
  | .knife, s => settle (riseKnife s)
  | .length, s => settle (riseLength s)

/-- The order of the events due at one count: as named, then those not named (log 2). -/
def riseOrder (order : List RiseEvent) : List RiseEvent :=
  order.eraseDups ++
    [RiseEvent.strobe, .slip, .lead, .knife, .length].filter fun e => !order.contains e

/-- One rise of H: H takes the value of F, and the events due are taken. -/
def riseH (order : List RiseEvent) (s : State) : State :=
  (riseOrder order).foldl (fun t e => riseEvent e t) { s with feed := { s.feed with h := s.feed.f } }

/-- F rises by one count (R5). -/
def riseF (order : List RiseEvent) (s : State) : State :=
  let t := { s with feed := { s.feed with f := s.feed.f + 1 } }
  if 0 < posDiff t.feed.h t.feed.f then riseH order t else t

/-- Sync goes into SETTLING at the present H; from LOCKED it is a loss of lock (R9). -/
def enterSettling (s : State) : State :=
  raiseLineIf (decide (s.feed.sync = .locked)) .syncLost
    { s with feed := { s.feed with sync := .settling, settleStart := s.feed.h, newest := none } }

/-- A discontinuity (R7). -/
def discontinuity (s : State) : State :=
  settle
    (restartWindow
      (flush .reverse
        (enterSettling { s with feed := { s.feed with h := s.feed.f } })))

/-- F falls by one count (R6). -/
def fallF (s : State) : State :=
  let t := { s with feed := { s.feed with f := s.feed.f - 1 } }
  if (t.settings.geometry.tolerance : Int) < posDiff t.feed.f t.feed.h then discontinuity t else t

/-- `n` times. -/
def times (f : State → State) : Nat → State → State
  | 0, s => s
  | n + 1, s => times f n (f s)

/-- Counts that a forward pulse makes, and the accumulator after it (R3). -/
def forwardCounts (scale acc : Nat) : Nat := (acc + 100) / scale
def forwardAcc (scale acc : Nat) : Nat := (acc + 100) % scale

/-- Counts that a reverse pulse takes back, and the accumulator after it (R3). -/
def reverseCounts (scale acc : Nat) : Nat := (100 - acc + (scale - 1)) / scale
def reverseAcc (scale acc : Nat) : Nat := acc + reverseCounts scale acc * scale - 100

end Sys2Proof.Machine
end

