-- ==== Sys2Proof/Machine/Layout.lean ====
section
/-! DEFINITION. The fields of the responses, byte by byte (chapter 10, R193 to R195), and the messages of
the zone link (R196). -/

namespace Sys2Proof.Machine

/-! ## Codes (R193) -/

def Status.code : Status → Byte
  | .ok => 0
  | .badFrame => 1
  | .unknownKind => 2
  | .badValue => 3
  | .wrongState => 4
  | .locked => 5
  | .late => 6
  | .noSuchHide => 7
  | .tableFull => 8
  | .wakePending => 9
  | .halted => 10
  | .duplicate => 11
  | .empty => 12

def Phase.code : Phase → Byte
  | .standby => 0
  | .resuming => 1
  | .run => 2
  | .clearing => 3
  | .braking => 4
  | .dwell => 5
  | .park => 6
  | .halt => 7

def RestTarget.code : RestTarget → Byte
  | .dwell => 1
  | .park => 2

def Sync.code : Sync → Byte
  | .locked => 1
  | .settling => 2

def StrapMode.code : StrapMode → Byte
  | .profile => 0
  | .fixed => 1

def HideState.code : HideState → Byte
  | .scanning => 1
  | .scanSplit => 2
  | .scanned => 3
  | .splitting => 4
  | .done => 5
  | .abandoned => 6

def AbandonCause.code : AbandonCause → Byte
  | .line => 1
  | .reverse => 2
  | .scale => 3
  | .halt => 4
  | .park => 5

def ZoneMode.code : ZoneMode → Byte
  | .track => 1
  | .manual => 2
  | .fault => 3
  | .off => 4

def Cause.code : Cause → Byte
  | .track => 1
  | .manual => 2
  | .park => 3
  | .entry => 4

def Stage.code : Stage → Byte
  | .entered => 1
  | .converted => 2

def Progress.code : Progress → Byte
  | .waiting => 1
  | .sent => 2
  | .complete => 3
  | .timedOut => 4
  | .ended => 5
  | .skipped => 6
  | .held => 7
  | .notTrack => 8

def TxnKind.code : TxnKind → Byte
  | .send => 1
  | .poll => 2
  | .clearPoll => 3

/-- One byte, 0 or 1. -/
def flagByte (b : Bool) : Byte := if b then 1 else 0

/-- A byte of bits, the first at bit 0. -/
def bitsByte : List Bool → Byte
  | [] => 0
  | b :: rest => flagByte b ||| (bitsByte rest <<< 1)

/-! ## Optional fields (R193) -/

/-- An optional gap or thickness: FFFF hex when absent. -/
def optGap : Option Int → List Byte
  | some g => int16 g
  | none => be16 0xFFFF#16

def optThickness : Option Nat → List Byte
  | some t => nat16 t
  | none => be16 0xFFFF#16

/-- Any other optional field: a presence byte, and zero value bytes when absent. -/
def optWord : Option (BitVec 16) → List Byte
  | some w => 1 :: be16 w
  | none => 0 :: be16 0

def optPos : Option Pos → List Byte
  | some p => 1 :: be32 p
  | none => 0 :: be32 0

def optStrobe : Option StrobeId → List Byte
  | some n => 1 :: (be16 n.num ++ be32 n.pos)
  | none => 0 :: (be16 0 ++ be32 0)

/-! ## Gauge port records -/

/-- The flags of a wake set and other 4, 5 and 18-bit sets in their bytes (R193). -/
def wakeByte (w : BitVec 4) : Byte := w.setWidth 8
def gaugeByte (w : BitVec 5) : Byte := w.setWidth 8
def lineBytes (w : BitVec 18) : List Byte := be24 (w.setWidth 24)

/-- The number of the open hide, or 0. -/
def openNumber (s : State) : Num :=
  match openHide s with | some r => r.number | none => 0

/-- The gauge status record, 13 bytes (R40). -/
def gaugeStatusRecord (s : State) : List Byte :=
  [s.feed.sync.code] ++ optStrobe s.feed.newest ++ nat8 s.intake.list.length ++ be16 (openNumber s)
    ++ [gaugeByte s.intake.notices, gaugeByte s.intake.mask]

/-- The fields of GAUGE_SETUP (R41). -/
def gaugeSetupRecord (s : State) : List Byte :=
  nat8 s.ctl.activeZones ++ nat16 s.settings.geometry.pitch ++ nat16 s.settings.geometry.zoneWidth
    ++ [s.ctl.strap.code]

/-! ## The hide report, 388 bytes -/

def HideFlags.byte (f : HideFlags) : Byte :=
  bitsByte [f.edgeMismatch, f.noEdge, f.gaugeLost, f.forcedEnd, f.manualInfluence, f.slip]

def ZoneCounts.zero : ZoneCounts :=
  { residual := 0, floor := 0, ceiling := 0, slewed := 0, extended := 0, onTime := 0, late := 0,
    skipped := 0, held := 0, notTrack := 0 }

def ZoneCounts.bytes (c : ZoneCounts) : List Byte :=
  [c.residual, c.floor, c.ceiling, c.slewed, c.extended, c.onTime, c.late, c.skipped, c.held,
   c.notTrack].flatMap nat16

/-- The counts of a zone; those at or above the active zone count are sent as zero. -/
def HideRecord.zoneBytes (active : Nat) (r : HideRecord) (z : Nat) : List Byte :=
  if z < active then (r.counts.getD z ZoneCounts.zero).bytes else ZoneCounts.zero.bytes

def causeByte : Option AbandonCause → Byte
  | some c => c.code
  | none => 0

/-- The hide report (chapter 10). -/
def hideReport (active : Nat) (r : HideRecord) : List Byte :=
  be16 r.number ++ be16 r.tag ++ [r.state.code, causeByte r.cause] ++ nat8 r.row ++ r.article.bytes
    ++ optPos r.edge ++ be16 r.first.num ++ be32 r.first.pos ++ optWord r.last
    ++ nat16 r.sliceCount ++ nat16 r.gapCount ++ nat16 r.inTrack ++ nat32 (r.area / 100)
    ++ optThickness r.tMin ++ optThickness r.tMax ++ nat32 r.deviation ++ [r.flags.byte]
    ++ zoneList.flatMap (r.zoneBytes active)

/-- The report of a refused READ_HIDE or an EMPTY READ_REPORT (R195). -/
def emptyReport : List Byte := List.replicate 388 0

/-! ## The track header and slice summaries -/

/-- KNIFE_PENDING (R82). -/
def knifePending (s : State) : Bool := s.track.pendingKnife.isSome

def trackHeader (summaries : Nat) (s : State) : List Byte :=
  nat16 s.track.slices.length ++ nat32 s.track.readCount ++ nat32 s.track.gapCount
    ++ nat32 s.track.flushedCount ++ [flagByte (knifePending s)] ++ nat8 summaries

/-- One zone of a summary: FFFF hex and outcome 0 where the slice has no result. -/
def resultBytes : Option ZoneResult → List Byte
  | some r => optGap r.target ++ [r.progress.code]
  | none => optGap none ++ [0]

/-- A slice summary, 58 bytes. -/
def Slice.summary (sl : Slice) : List Byte :=
  be16 sl.strobe ++ be32 sl.pos ++ be16 sl.hide ++ [if sl.readings.isSome then 1 else 2, sl.stage.code]
    ++ zoneList.flatMap fun z => resultBytes sl.results[z]?

/-- The summaries asked for (R86). -/
def summaries (place count : Nat) (s : State) : List Slice := (s.track.slices.drop place).take count

/-! ## The zone record and link record -/

def refBytes : Option SliceRef → List Byte
  | some r => 1 :: (be16 r.strobe ++ be16 r.hide)
  | none => 0 :: (be16 0 ++ be16 0)

/-- A target record, optional: 9 bytes. -/
def targetBytes : Option Target → List Byte
  | some t => 1 :: (int16 t.gap ++ [t.cause.code] ++ refBytes t.ref)
  | none => List.replicate 9 0

/-- Time since accept in whole ms, a fraction dropped (DESIGN CHOICE, log 33), held at 65535 (R195). -/
def elapsedMs (now : Nat) (m : Move) : Nat := min 65535 ((now - m.accepted) / 1000)

def flightBytes (now : Nat) : Option Move → List Byte
  | some m => targetBytes (some m.target) ++ nat16 (elapsedMs now m)
  | none => List.replicate 11 0

/-- The rate-limit base: presence, base (FFFF hex when absent), hide tag (log 15). -/
def baseBytes : Option Base → List Byte
  | some b => 1 :: (int16 b.gap ++ be16 b.hide)
  | none => 0 :: (be16 0xFFFF#16 ++ be16 0)

/-- A zone record, 32 bytes (R130). An absent last reported position is sent as zeros behind its presence
byte (DESIGN CHOICE, log 34). -/
def Channel.record (now : Nat) (c : Channel) : List Byte :=
  [c.mode.code] ++ optWord c.position ++ targetBytes c.slot ++ flightBytes now c.flight
    ++ nat8 c.misses ++ nat8 c.timeouts ++ [bitsByte [c.lagging, c.entryMark, c.clearPoll]]
    ++ baseBytes c.base

/-- The link condition: 1 IDLE, 2 BUSY, 3 HALTED (R130). -/
def linkCondition (s : State) : Byte :=
  if s.ctl.phase = .halt then 3 else if s.link.txn.isSome then 2 else 1

def linkRecord (s : State) : List Byte :=
  nat8 s.link.last ++ [linkCondition s] ++
    match s.link.txn with
    | some t => [1] ++ nat8 t.zone ++ [t.kind.code]
    | none => [0, 0, 0]

/-- The fields of READ_ZONES, 517 bytes (R130). -/
def zonesRecord (s : State) : List Byte :=
  (zoneList.flatMap fun z => (channel s z).record s.now) ++ linkRecord s

/-! ## The status, settings and counter records -/

/-- A set of zones as two bytes (R193). -/
def zoneSet (p : Channel → Bool) (s : State) : List Byte :=
  be16 (zoneList.foldl (fun w z => if p (channel s z) then w ||| (1#16 <<< z) else w) 0)

/-- The feed unit's group of READ_STATUS, 41 bytes; what carries no meaning is sent as zero. -/
def feedGroup (s : State) : List Byte :=
  let locked := decide (s.feed.sync = .locked)
  be32 s.feed.f ++ be32 s.feed.h ++ [s.feed.sync.code]
    ++ be32 (if locked then 0 else s.feed.settleStart)
    ++ be16 (if locked then s.feed.nextNum else 0) ++ be32 (if locked then s.feed.nextPos else 0)
    ++ optStrobe s.feed.newest ++ nat8 s.feed.slip.count ++ nat8 s.feed.trim ++ nat16 s.feed.period
    ++ nat16 s.feed.duty ++ nat16 s.feed.effective ++ [bitsByte [!s.ctl.phase.drives, s.pins.halt]]
    ++ optPos s.feed.capture ++ [flagByte s.feed.overwrite]

/-- The records from the report cursor to the tail (R182). -/
def reportsWaiting (s : State) : Nat := s.hides.completion.length - s.hides.cursor

def hideGroup (s : State) : List Byte :=
  be16 (openNumber s) ++ be16 s.hides.nextNumber ++ nat8 s.hides.completion.length
    ++ nat8 (reportsWaiting s)

def controllerGroup (s : State) : List Byte :=
  [s.ctl.phase.code, s.ctl.restTarget.code, wakeByte s.ctl.flags, wakeByte s.ctl.enables,
   flagByte s.ctl.dwell.running] ++ nat16 (dwellRemaining s)
    ++ [bitsByte [s.ctl.feedStop, s.pins.halt, s.pins.feedStill]] ++ nat8 s.ctl.activeZones
    ++ [s.ctl.strap.code]

/-- The status record, 71 bytes (R182). -/
def statusRecord (s : State) : List Byte :=
  feedGroup s ++ nat8 s.intake.list.length ++ hideGroup s
    ++ nat16 s.track.slices.length ++ [flagByte (knifePending s)] ++ controllerGroup s
    ++ zoneSet (fun c => c.mode = .fault) s ++ zoneSet Channel.lagging s
    ++ lineBytes s.line.notices ++ lineBytes s.line.mask

/-- Sixteen offsets. -/
def knifeBytes (k : List Int) : List Byte := zoneList.flatMap fun z => int16 (k.getD z 0)

/-- The settings record, 101 bytes (R170). -/
def settingsRecord (s : State) : List Byte :=
  s.settings.geometry.items.flatMap nat16 ++ nat16 s.settings.scale ++ nat16 s.settings.dwellTime
    ++ [flagByte s.settings.locked] ++ nat8 s.settings.current ++ knifeBytes s.settings.knife
    ++ match s.track.pendingKnife with
       | some k => 1 :: knifeBytes k
       | none => List.replicate 33 0

/-- The eleven counters of READ_COUNTERS (R184). -/
def counterRecord (s : State) : List Byte :=
  [s.intake.overrun, s.intake.badFrame, s.intake.unread, s.intake.late, s.intake.duplicate,
   s.intake.orphan, s.intake.refusedAnnounce, s.line.overrun, s.line.badFrame, s.line.unread,
   s.hides.reclaimed].flatMap nat16

/-! ## The response frame and SDO (R190, R191) -/

/-- A response's payload: the status, then the fields. -/
def Response.payload (r : Response) : List Byte := r.status.code :: r.fields

def Response.frame (r : Response) : List Byte := frameBytes responseStart r.kind r.payload

/-- What SDO carries in n bytes from a transmit buffer: an unread response from its start byte, then FF
hex (R191). -/
def shifted (tx : Option Response) (n : Nat) : List Byte :=
  ((match tx with | some r => r.frame | none => []) ++ List.replicate n 0xFF).take n

/-- The bytes SDO carries in a transfer of n bytes: those before a response came into the transmit buffer
(log 6), then those in which it held `cut`, the response that a RESET has emptied out of it (log 36), then
those from the buffer as it is. -/
def sdoBytes (cut tx : Option Response) (n : Nat) (lead : Lead) : List Byte :=
  (shifted none lead.before ++ shifted cut lead.shown ++ shifted tx n).take n

/-- The whole of the waiting response was shifted out, `before` bytes of the transfer having passed without
it. -/
def Response.shiftedOut (n before : Nat) (r : Response) : Bool := decide (before + r.frame.length ≤ n)

/-! ## Zone link messages (R112, R196) -/

/-- The part's message: MOVE for a SEND, STATUS for the polls. -/
def Txn.message (t : Txn) : List Byte :=
  let body := BitVec.ofNat 8 t.zone :: match t.kind with
    | .send => 0x01 :: (match t.sent with | some r => int16 r.gap | none => [])
    | .poll => [0x02]
    | .clearPoll => [0x02]
  0xC3 :: (body ++ be16 (crc16 body))

/-- ZDIR is high while the part sends: ten microseconds a byte from the grant (R112, R196). -/
def zdirOutput (s : State) : Bool :=
  match s.link.txn with
  | some t => decide (s.now < t.start + 10 * t.message.length)
  | none => false

end Sys2Proof.Machine
end

