-- ==== Sys2Proof/Machine/PortOps.lean ====
section
/-! DEFINITION. The shared operations of the two serial ports: the response to a request, the taking of a
frame, the transmit buffer (02, 09). -/

namespace Sys2Proof.Machine

/-- Every meaning answers a next state. -/
abbrev Out := Host.Outcome State Fault Refusal

/-! ## Composing a response (R26, R174) -/

/-- The request in the receive buffer has had its event. -/
def Port.acted (p : Port) : Port := { p with rx := p.rx.map fun f => { f with acted := true } }

/-- The response composed for a request, to be placed later. -/
def Port.answerWith (r : Response) (p : Port) : Port := { p.acted with answer := some r }

/-- A gauge request's response. -/
def answerGauge (kind : Byte) (status : Status) (fields : List Byte) (s : State) : State :=
  { s with intake := { s.intake with
      port := s.intake.port.answerWith { kind := kind, status := status, fields := fields } } }

/-- A line request's response; that of a request interrupted by a RESET is discarded (R177). -/
def answerLine (kind : Byte) (status : Status) (fields : List Byte) (s : State) : State :=
  { s with line := { s.line with
      port := if s.line.hold then s.line.port.acted
              else s.line.port.answerWith { kind := kind, status := status, fields := fields } } }

/-! ## Taking a frame (R24, R28, R172, R176) -/

/-- A waiting response of which the whole was shifted out is read. -/
def Port.readOut (n : Nat) (lead : Lead) (p : Port) : Port :=
  { p with tx := p.tx.filter fun r => !r.shiftedOut n lead.total }

/-- The bytes that SDO carried in the transfer, which ends here. -/
def Port.recordSdo (n : Nat) (lead : Lead) (p : Port) : Port :=
  { p with sdo := sdoBytes p.cut p.tx n lead, cut := none }

/-- A RESET empties the transmit buffer; a response that was in it may be partly shifted out by then
(R191, log 36). -/
def Port.emptyTx (p : Port) : Port := { p with tx := none, cut := p.tx.or p.cut }

/-- The frame of a transfer: the bytes from its start byte to the end of its extent, 6 + L (R191). -/
def frameExtent (sdi : List Byte) : List Byte :=
  match afterStart sdi with
  | none => []
  | some rest =>
    match rest with
    | _ :: l1 :: l0 :: _ => requestStart :: rest.take (5 + (w16 l1 l0).toNat)
    | [] => [requestStart]
    | [k] => [requestStart, k]
    | [k, l] => [requestStart, k, l]

/-- A frame is taken: RDY falls, an unread response is discarded. -/
def Port.take (sdi : List Byte) (p : Port) : Port :=
  { p with rdy := false, rx := some { bytes := frameExtent sdi, acted := false }, tx := none }

/-- Placing a response raises RDY and empties the receive buffer (R24, R172). -/
def Port.place (r : Response) (p : Port) : Port :=
  { p with rdy := true, rx := none, answer := none, tx := some r }

end Sys2Proof.Machine
end

