-- ==== Sys2Proof/Machine/FieldEvents.lean ====
section
/-! DEFINITION. The commands of the field lines and of the part's clock: resets at supply, encoder
pulses, INFEED, HALT, FEED-STILL, the dwell timer and the feed reference (01, 07). -/

namespace Sys2Proof.Machine

/-- Where the HALT input is asserted the machine enters HALT (R150, R154). -/
def haltIfAsserted (s : State) : State :=
  if s.pins.halt && decide (s.ctl.phase ≠ .halt) then enterHalt s else s

/-- POWER_ON_RESET: every block at its power-on values, the straps sampled (R153), then HALT where its
input is asserted (R154). The queue of waiting commands is outside the part and stays. -/
def execPowerOnReset (pins : PinLevels) (s : State) : Out :=
  .next (haltIfAsserted { State.powerOn pins with pending := s.pending })

/-- The counts of a bottom pulse, each a step of its own (R3). -/
def bottomPulse (order : List RiseEvent) (step : Step) (s : State) : State :=
  match step with
  | .still => s
  | .forward =>
    times (riseF order) (forwardCounts s.settings.scale s.feed.botAcc)
      { s with feed := { s.feed with botAcc := forwardAcc s.settings.scale s.feed.botAcc } }
  | .backward =>
    times fallF (reverseCounts s.settings.scale s.feed.botAcc)
      { s with feed := { s.feed with botAcc := reverseAcc s.settings.scale s.feed.botAcc } }

/-- BOTTOM_PULSE: the new pair becomes the reference, and its change is decoded (R2, R3). -/
def execBottomPulse (a b : Bool) (order : List RiseEvent) (s : State) : Out :=
  .next (bottomPulse order (s.feed.botRef.step ⟨a, b⟩)
    { s with feed := { s.feed with botRef := ⟨a, b⟩ } })

/-- Top counts add to and subtract from the top advance (R4). -/
def topPulse (step : Step) (s : State) : State :=
  match step with
  | .still => s
  | .forward =>
    { s with feed := { s.feed with
        topAcc := forwardAcc s.settings.scale s.feed.topAcc
        slip := { s.feed.slip with
          advance := s.feed.slip.advance + forwardCounts s.settings.scale s.feed.topAcc } } }
  | .backward =>
    { s with feed := { s.feed with
        topAcc := reverseAcc s.settings.scale s.feed.topAcc
        slip := { s.feed.slip with
          advance := s.feed.slip.advance - reverseCounts s.settings.scale s.feed.topAcc } } }

/-- TOP_PULSE (R2, R4). -/
def execTopPulse (a b : Bool) (s : State) : Out :=
  .next (topPulse (s.feed.topRef.step ⟨a, b⟩) { s with feed := { s.feed with topRef := ⟨a, b⟩ } })

/-- The present H is captured; an unconsumed capture is replaced and marked (R21). -/
def captureInfeed (s : State) : State :=
  { s with feed := { s.feed with
      capture := some s.feed.h
      overwrite := s.feed.overwrite || s.feed.capture.isSome } }

/-- INFEED_EDGE (R21, R133). -/
def execInfeedEdge (s : State) : Out := .next (setWakeFlag .infeed (captureInfeed s))

/-- HALT_ASSERTED (R150): the input gates the feed reference, and the machine enters HALT. -/
def execHaltAsserted (s : State) : Out :=
  .next (haltIfAsserted (applyGate { s with pins := { s.pins with halt := true } }))

/-- HALT_RELEASED (R151): the input's gate lifts; the machine stays in HALT. -/
def execHaltReleased (s : State) : Out :=
  .next (applyGate { s with pins := { s.pins with halt := false } })

/-- FEED_STILL_ASSERTED (R143): in BRAKING the rest is entered, elsewhere the level is recorded. -/
def execFeedStillAsserted (s : State) : Out :=
  let t := { s with pins := { s.pins with feedStill := true } }
  .next (if t.ctl.phase = .braking then arbitrate (enterRest t) else t)

/-- FEED_STILL_RELEASED (R132): recorded for READ_STATUS. -/
def execFeedStillReleased (s : State) : Out :=
  .next { s with pins := { s.pins with feedStill := false } }

/-- When the running dwell timer reaches 0. -/
def DwellTimer.expiresAt (d : DwellTimer) : Nat := d.start + d.remaining * Config.dwellUnit

/-- The dwell timer expires: it stops at 0 and sets the TIMER flag (R149). -/
def expireDwell (s : State) : State :=
  let t := advanceTo s.ctl.dwell.expiresAt s
  setWakeFlag .timer
    { t with ctl := { t.ctl with dwell := { t.ctl.dwell with running := false, remaining := 0 } } }

/-- DWELL_TIMER_EXPIRY; a stopped timer does not expire. -/
def execDwellTimerExpiry (s : State) : Out :=
  .next (if s.ctl.dwell.running then expireDwell s else s)

/-- When the period in progress ends (R19). -/
def FeedRef.periodEnd (r : FeedRef) : Nat := r.start + r.period + 1

/-- FEED_REF_PERIOD_START (R19). -/
def execFeedRefPeriodStart (s : State) : Out :=
  .next (startPeriod (advanceTo s.feed.ref.periodEnd s))

/-- FEED REF goes low after c steps; c = N + 1 holds it high through the period (R19). -/
def endHigh (s : State) : State :=
  if s.feed.ref.high && decide (s.feed.ref.count < s.feed.ref.period + 1) then
    let t := advanceTo (s.feed.ref.start + s.feed.ref.count) s
    { t with feed := { t.feed with ref := { t.feed.ref with high := false } } }
  else s

/-- FEED_REF_HIGH_END (R19). -/
def execFeedRefHighEnd (s : State) : Out := .next (endHigh s)

end Sys2Proof.Machine
end

