-- ==== Sys2Proof/Machine/GaugePort.lean ====
section
/-! DEFINITION. The gauge port's commands: transfers, the placing of a response, and the eight gauge
requests (02, and ANNOUNCE and END of 03). A request's command is the request's own event; its operands
are those of the frame that the port has taken (log 1). -/

namespace Sys2Proof.Machine

/-! ## GAUGE_TRANSFER_END (R24, R25, R27, R28, R191) -/

/-- The intake's counters of the port. -/
def countGaugeOverrun (s : State) : State :=
  raiseGauge .overrun { s with intake := { s.intake with overrun := bump s.intake.overrun } }

def countGaugeBadFrame (s : State) : State :=
  { s with intake := { s.intake with badFrame := bump s.intake.badFrame } }

/-- The gauge port takes a frame; an unread response is discarded and counted (R24, R28). -/
def takeGauge (sdi : List Byte) (s : State) : State :=
  { s with intake := { s.intake with
      unread := if s.intake.port.tx.isSome then bump s.intake.unread else s.intake.unread
      port := s.intake.port.take sdi } }

/-- A BAD_FRAME answer: status alone; for kind SLICE the SLICE_REFUSED notice (R25, R29, R195). -/
def answerGaugeBadFrame (kind : Byte) (s : State) : State :=
  let t := answerGauge kind .badFrame [] (countGaugeBadFrame s)
  if kind = 0x01 then raiseGauge .sliceRefused t else t

/-- A transfer that ends while RDY is high, its effect on the transmit buffer taken. -/
def gaugeExamine (sdi : List Byte) (s : State) : State :=
  match PortName.gauge.examine sdi with
  | .noFrame => s
  | .noKind => countGaugeBadFrame s
  | .badFrame kind => answerGaugeBadFrame kind (takeGauge sdi s)
  | .unknownKind kind => answerGauge kind .unknownKind [] (takeGauge sdi s)
  | .request _ => takeGauge sdi s

/-- GAUGE_TRANSFER_END (R24, R25, R27, R28). The transfer is judged by RDY at its own end, at the rise of SEL.
R42 says of a transfer in progress at the event of GAUGE_RESET that it ends while RDY is low and is an
overrun; it leaves open what such a transfer is that ends only after the response of GAUGE_RESET has been
placed. No transfer in progress is held here, so with RDY high again by then it is taken as a request (DESIGN
CHOICE, log 39). -/
def execGaugeTransferEnd (sdi : List Byte) (lead : Lead) (s : State) : Out :=
  let port := s.intake.port.recordSdo sdi.length lead
  if s.intake.port.rdy then
    .next (gaugeExamine sdi
      { s with intake := { s.intake with port := port.readOut sdi.length lead } })
  else
    let t := { s with intake := { s.intake with port := port } }
    .next (if carriesStart sdi then countGaugeOverrun t else t)

/-! ## GAUGE_RESPONSE_PLACED (R24) -/

def execGaugeResponsePlaced (s : State) : Out :=
  match s.intake.port.answer with
  | none => .next s
  | some r => .next { s with intake := { s.intake with port := s.intake.port.place r } }

/-! ## Refusals of ANNOUNCE and END (R29, R38) -/

/-- A refused ANNOUNCE: HIDE_REFUSED, and in PROFILE the refused-announce counter (R38). -/
def refuseAnnounce (status : Status) (s : State) : State :=
  let t := match s.ctl.strap with
    | .profile =>
      { s with intake := { s.intake with refusedAnnounce := bump s.intake.refusedAnnounce } }
    | .fixed => s
  answerGauge 0x02 status (be16 0) (raiseGauge .hideRefused t)

/-- A refused END (R29, R38). -/
def refuseEnd (status : Status) (s : State) : State :=
  answerGauge 0x03 status (be16 0 ++ be16 0) (raiseGauge .hideRefused s)

/-! ## SLICE (R37) -/

/-- The number of entries in the list, one byte. -/
def listCount (s : State) : List Byte := nat8 s.intake.list.length

/-- A SLICE refused on its own checks: SLICE_REFUSED and the entries in the list. -/
def refuseSlice (status : Status) (s : State) : State :=
  answerGauge 0x01 status (listCount s) (raiseGauge .sliceRefused s)

/-- Store a reply in the entry of strobe n. -/
def storeReply (n : Num) (reply : List Reading) (s : State) : State :=
  { s with intake := { s.intake with
      list := s.intake.list.map fun e => if e.num = n then { e with reply := some reply } else e } }

/-- A SLICE that has passed the port's checks, in PROFILE. -/
def slice (n : Num) (reply : List Reading) (s : State) : State :=
  match s.feed.newest with
  | none => refuseSlice .badValue s
  | some newest =>
    if older newest.num n then refuseSlice .badValue s
    else match s.intake.list.find? fun e => e.num = n with
      | none => refuseSlice .late { s with intake := { s.intake with late := bump s.intake.late } }
      | some e =>
        if e.reply.isSome then
          refuseSlice .duplicate
            { s with intake := { s.intake with duplicate := bump s.intake.duplicate } }
        else
          let t := departDue (storeReply n reply s)
          answerGauge 0x01 .ok (listCount t) t

def execSlice (n : Num) (raw : List (BitVec 16)) (s : State) : Out :=
  if 16 < raw.length then .next (answerGaugeBadFrame 0x01 s)
  else match s.ctl.strap with
    | .fixed => .next (refuseSlice .wrongState s)
    | .profile => .next (slice n (replyOf s.ctl.activeZones raw) s)

/-! ## ANNOUNCE (R46 to R51) -/

/-- The next hide number after n: 1 follows 65535 (R46). -/
def nextNumberAfter (n : Num) : Num := if n = 0xFFFF#16 then 1 else n + 1

/-- Advance over the numbers in use; eight records make at most eight (R46). -/
def advanceNumber (inUse : List Num) : Nat → Num → Num
  | 0, n => n
  | fuel + 1, n => if inUse.contains n then advanceNumber inUse fuel (nextNumberAfter n) else n

/-- The first strobe lies at or before a strobe that an ended hide still awaits (R47, check 4). -/
def claimedByEnded (f : Num) (s : State) : Bool :=
  s.hides.records.any fun r =>
    (r.state = .scanned || r.state = .splitting)
      && (match r.last with | some l => atOrOlder f l | none => false)

/-- The new ANNOUNCE replaces the open hide (R49). -/
def replaces (f : Num) (r : HideRecord) : Bool := atOrOlder f r.first.num

/-- A record can be taken: one is FREE, one is freed by replacement, or one can be reclaimed (R48). -/
def recordAvailable (f : Num) (s : State) : Bool :=
  decide (s.hides.records.length < Config.hideRecords) || !s.hides.completion.isEmpty
    || (match openHide s with | some r => replaces f r | none => false)

/-- With no FREE record the head of the completion order list is reclaimed (R48). -/
def reclaim (s : State) : State :=
  if s.hides.records.length < Config.hideRecords then s
  else match s.hides.completion with
    | [] => s
    | n :: _ =>
      raiseLine .reportLost
        { s with hides := { (s.hides.leave n).free n with reclaimed := bump s.hides.reclaimed } }

/-- The record of a new hide before its edge check (R50). -/
def newRecord (e : Entry) (tag : Num) (edge : Option Pos) (s : State) : HideRecord :=
  { number := s.hides.nextNumber, tag := tag, state := .scanning, cause := none,
    row := s.settings.current,
    article := s.settings.articles.getD s.settings.current Config.factoryArticle, edge := edge,
    first := { num := e.num, pos := e.pos }, last := none, rangeOpen := true, newestEntered := none,
    inTrack := 0, sliceCount := 0, gapCount := 0, gapRun := 0, area := 0, tMin := none, tMax := none,
    counts := List.replicate Config.zones ZoneCounts.zero, deviation := 0,
    flags := { edgeMismatch := false, noEdge := false, gaugeLost := false, forcedEnd := false,
               manualInfluence := false, slip := false } }

/-- The captured edge plus E differs from the first position by more than the tolerance (R51). -/
def edgeMismatch (g : Geometry) (first edge : Pos) : Bool :=
  decide (g.edgeTolerance < (posDiff (posPlus edge g.infeed) first).natAbs)

/-- The edge check (R51). -/
def HideRecord.checkEdge (g : Geometry) (r : HideRecord) : HideRecord :=
  match r.edge with
  | none => { r with flags := { r.flags with noEdge := true } }
  | some c => { r with flags := { r.flags with edgeMismatch := edgeMismatch g r.first.pos c } }

/-- Fill a record (R46, R50, R51), and remove the bases that carry its number (R95). -/
def fillRecord (e : Entry) (tag : Num) (edge : Option Pos) (s : State) : State :=
  let r := (newRecord e tag edge s).checkEdge s.settings.geometry
  let records := s.hides.records ++ [r]
  raiseLineIf (r.flags.noEdge || r.flags.edgeMismatch) .edge
    { s with
      hides := { s.hides with
        records := records
        nextNumber := advanceNumber (records.map HideRecord.number) 9 (nextNumberAfter r.number) }
      zones := s.zones.map fun c =>
        { c with base := c.base.filter fun b => b.hide ≠ r.number } }

/-- The infeed capture slot is handed over and emptied (R22). -/
def consumeCapture (s : State) : State :=
  { s with feed := { s.feed with capture := none, overwrite := false } }

/-- Deal with the open hide, then fill a record (R48 to R51). -/
def openNew (e : Entry) (tag : Num) (s : State) : State :=
  match openHide s with
  | some r =>
    if replaces e.num r then
      fillRecord e tag r.edge { s with hides := s.hides.free r.number }
    else
      let t := reclaim (endAt r.number (e.num - 1) true s)
      fillRecord e tag t.feed.capture (consumeCapture t)
  | none =>
    let t := reclaim s
    fillRecord e tag t.feed.capture (consumeCapture t)

/-- ANNOUNCE judged in the order of R47, in PROFILE. -/
def announce (f tag : Num) (s : State) : State :=
  if !s.ctl.phase.permitsStrobes then refuseAnnounce .wrongState s
  else match s.feed.newest with
    | none => refuseAnnounce .badValue s
    | some newest =>
      if older newest.num f then refuseAnnounce .badValue s
      else match s.intake.list.find? fun e => e.num = f with
        | none => refuseAnnounce .late s
        | some e =>
          if claimedByEnded f s then refuseAnnounce .badValue s
          else if !recordAvailable f s then refuseAnnounce .tableFull s
          else answerGauge 0x02 .ok (be16 s.hides.nextNumber) (openNew e tag s)

def execAnnounce (f tag : Num) (s : State) : Out :=
  match s.ctl.strap with
  | .fixed => .next (refuseAnnounce .wrongState s)
  | .profile => .next (announce f tag s)

/-! ## END (R52) -/

/-- The strobe at which END ends a hide: the later of the named and the newest entered (R52). -/
def endStrobe (r : HideRecord) (last : Num) : Num :=
  match r.newestEntered with | some n => laterOf last n | none => last

/-- The end is taken at a later strobe than the named one. -/
def endForced (r : HideRecord) (last : Num) : Bool :=
  match r.newestEntered with | some n => older last n | none => false

/-- The last strobe is older than the hide's first or newer than the newest issued (R52). -/
def endOutOfRange (r : HideRecord) (last : Num) (s : State) : Bool :=
  older last r.first.num ||
    (match s.feed.newest with | some newest => older newest.num last | none => true)

/-- END judged in the order of R38, in PROFILE. -/
def endRequest (last : Num) (s : State) : State :=
  match openHide s with
  | none => refuseEnd .noSuchHide s
  | some r =>
    if endOutOfRange r last s then refuseEnd .badValue s
    else
      answerGauge 0x03 .ok (be16 r.number ++ be16 (endStrobe r last))
        (settle (endAt r.number (endStrobe r last) (endForced r last) s))

def execEndHide (last : Num) (s : State) : Out :=
  match s.ctl.strap with
  | .fixed => .next (refuseEnd .wrongState s)
  | .profile => .next (endRequest last s)

/-! ## The other gauge requests -/

/-- WAKE_REQUEST (R39); in FIXED it is refused (R43). -/
def execWakeRequest (s : State) : Out :=
  match s.ctl.strap with
  | .fixed => .next (answerGauge 0x04 .wrongState [] s)
  | .profile => .next (answerGauge 0x04 .ok [] (setWakeFlag .gauge s))

/-- GAUGE_STATUS (R40). -/
def execGaugeStatus (s : State) : Out :=
  match s.ctl.strap with
  | .fixed => .next (answerGauge 0x05 .wrongState (gaugeStatusRecord s) s)
  | .profile => .next (answerGauge 0x05 .ok (gaugeStatusRecord s) s)

/-- GAUGE_SETUP, in both strap modes (R41). -/
def execGaugeSetup (s : State) : Out := .next (answerGauge 0x06 .ok (gaugeSetupRecord s) s)

/-- The forced end of GAUGE_RESET at the newest entered strobe (R42, R68, log 17). -/
def forceOpenEnd (s : State) : State :=
  match openHide s with
  | some r => endAt r.number (r.newestEntered.getD r.first.num) true s
  | none => s

/-- GAUGE_RESET (R42): the receive buffer is emptied, every entry departs, an open hide is ended. -/
def gaugeReset (s : State) : State :=
  settle (forceOpenEnd (departAll s.intake.list.length
    { s with intake := { s.intake with port := { s.intake.port with rx := none } } }))

def execGaugeReset (s : State) : Out :=
  match s.ctl.strap with
  | .fixed => .next (answerGauge 0x07 .wrongState [0] s)
  | .profile => .next (answerGauge 0x07 .ok (listCount s) (gaugeReset s))

/-- The notice set and the mask as a response shows them. -/
def gaugeNoticeFields (s : State) : List Byte :=
  [gaugeByte s.intake.notices, gaugeByte s.intake.mask]

/-- CLEAR_GAUGE_NOTICES (R30): bits beyond the five are ignored (R193). -/
def clearGaugeNotices (named : Byte) (mask : Option Byte) (s : State) : State :=
  { s with intake := { s.intake with
      notices := s.intake.notices &&& ~~~(named.setWidth 5)
      mask := match mask with | some m => m.setWidth 5 | none => s.intake.mask } }

def execClearGaugeNotices (named : Byte) (mask : Option Byte) (s : State) : Out :=
  match s.ctl.strap with
  | .fixed => .next (answerGauge 0x08 .wrongState (gaugeNoticeFields s) s)
  | .profile =>
    let t := clearGaugeNotices named mask s
    .next (answerGauge 0x08 .ok (gaugeNoticeFields t) t)

end Sys2Proof.Machine
end

