-- ==== Sys2Proof/Machine/HideRequests.lean ====
section
/-! DEFINITION. The line requests of the hide table: BIND, ABANDON, RELEASE, READ_HIDE and READ_REPORT
(03). -/

namespace Sys2Proof.Machine

/-! ## BIND (R57, R181) -/

def bindFields (hide : Num) (row : Nat) : List Byte := be16 hide ++ nat8 row

/-- The snapshot becomes a copy of the row (R57). -/
def takeBind (hide : Num) (row : Nat) (s : State) : State :=
  updHide (fun r => { r with
    row := row
    article := s.settings.articles.getD row Config.factoryArticle }) hide s

/-- BIND, judged in the order of R57. -/
def execBind (hide : Num) (row : Nat) (s : State) : Out :=
  if 31 < row then .next (answerLine 0x26 .badValue (bindFields hide 0) s)
  else match findHide s hide with
    | none => .next (answerLine 0x26 .noSuchHide (bindFields hide 0) s)
    | some r =>
      match r.state with
      | .scanning => .next (answerLine 0x26 .ok (bindFields hide row) (takeBind hide row s))
      | .scanned => .next (answerLine 0x26 .ok (bindFields hide row) (takeBind hide row s))
      | .scanSplit => .next (answerLine 0x26 .late (bindFields hide r.row) s)
      | .splitting => .next (answerLine 0x26 .late (bindFields hide r.row) s)
      | .done => .next (answerLine 0x26 .late (bindFields hide r.row) s)
      | .abandoned => .next (answerLine 0x26 .wrongState (bindFields hide r.row) s)

/-! ## ABANDON (R60, R79, R181) -/

/-- The slices of a hide in the track. -/
def slicesOf (hide : Num) (s : State) : Nat := (s.track.slices.filter fun sl => sl.hide = hide).length

/-- The record of an abandoned hide; an open hide's last strobe becomes the newest issued (R60). -/
def HideRecord.abandonedBy (newest : Option StrobeId) (r : HideRecord) : HideRecord :=
  { r with state := .abandoned, cause := some .line, inTrack := 0,
           last := if r.state.isOpen then newest.map StrobeId.num else r.last }

/-- The slices of the hide leave the track and their targets are detached (R79). -/
def removeSlices (hide : Num) (s : State) : State :=
  detach (fun r => decide (r.hide = hide))
    { s with track := { s.track with slices := s.track.slices.filter fun sl => sl.hide ≠ hide } }

/-- An ABANDON that is taken, as one event (R60, R84, R142). -/
def takeAbandon (hide : Num) (s : State) : State :=
  settle (applyPending (closeRanges (raiseLine .hideAbandoned
    (joinCompletion hide
      (updHide (HideRecord.abandonedBy s.feed.newest) hide (removeSlices hide s))))))

/-- ABANDON. -/
def execAbandon (hide : Num) (s : State) : Out :=
  match findHide s hide with
  | none => .next (answerLine 0x27 .noSuchHide (be16 hide ++ nat16 0) s)
  | some r =>
    if r.state.unfinished then
      .next (answerLine 0x27 .ok (be16 hide ++ nat16 (slicesOf hide s)) (takeAbandon hide s))
    else .next (answerLine 0x27 .wrongState (be16 hide ++ nat16 0) s)

/-! ## RELEASE (R63) -/

/-- The record leaves the completion order list and becomes FREE. -/
def takeRelease (hide : Num) (s : State) : State :=
  { s with hides := (s.hides.leave hide).free hide }

/-- RELEASE. -/
def execRelease (hide : Num) (s : State) : Out :=
  match findHide s hide with
  | none => .next (answerLine 0x28 .noSuchHide (be16 hide) s)
  | some r =>
    if r.state.unfinished then .next (answerLine 0x28 .wrongState (be16 hide) s)
    else .next (answerLine 0x28 .ok (be16 hide) (takeRelease hide s))

/-! ## READ_HIDE and READ_REPORT (R64, R65) -/

/-- READ_HIDE. -/
def execReadHide (hide : Num) (s : State) : Out :=
  match findHide s hide with
  | none => .next (answerLine 0x29 .noSuchHide emptyReport s)
  | some r => .next (answerLine 0x29 .ok (hideReport s.ctl.activeZones r) s)

/-- The record at the report cursor; none past the end (R62). -/
def recordAtCursor (s : State) : Option HideRecord :=
  match s.hides.completion[s.hides.cursor]? with
  | some n => findHide s n
  | none => none

/-- The cursor advances by one (R62). -/
def advanceCursor (s : State) : State :=
  { s with hides := { s.hides with cursor := s.hides.cursor + 1 } }

/-- READ_REPORT. -/
def execReadReport (s : State) : Out :=
  match recordAtCursor s with
  | none => .next (answerLine 0x2A .empty emptyReport s)
  | some r => .next (answerLine 0x2A .ok (hideReport s.ctl.activeZones r) (advanceCursor s))

end Sys2Proof.Machine
end

