-- ==== Sys2Proof/Machine/LinePort.lean ====
section
/-! DEFINITION. The line port's own commands: transfers, the placing of a response, READ_STATUS,
READ_COUNTERS, CLEAR_NOTICES and RESET (09). -/

namespace Sys2Proof.Machine

/-! ## LINE_TRANSFER_END (R172, R173, R175 to R177) -/

def countLineOverrun (s : State) : State :=
  raiseLine .overrun { s with line := { s.line with overrun := bump s.line.overrun } }

def countLineBadFrame (s : State) : State :=
  { s with line := { s.line with badFrame := bump s.line.badFrame } }

/-- The line port takes a frame; an unread response is discarded and counted (R172, R176). -/
def takeLine (sdi : List Byte) (s : State) : State :=
  { s with line := { s.line with
      unread := if s.line.port.tx.isSome then bump s.line.unread else s.line.unread
      port := s.line.port.take sdi } }

/-- SYNC falls when a RESET is taken (R23, R185). -/
def holdSync (s : State) : State := { s with feed := { s.feed with syncHeld := true } }

/-- A transfer that ends while RDY is high, its effect on the transmit buffer taken. -/
def lineExamine (sdi : List Byte) (s : State) : State :=
  match PortName.line.examine sdi with
  | .noFrame => s
  | .noKind => countLineBadFrame s
  | .badFrame kind => answerLine kind .badFrame [] (countLineBadFrame (takeLine sdi s))
  | .unknownKind kind => answerLine kind .unknownKind [] (takeLine sdi s)
  | .request i => if i = .reset then holdSync (takeLine sdi s) else takeLine sdi s

/-- A RESET enters the reset hold; the interrupted request's response is discarded (R177). -/
def enterHold (s : State) : State :=
  holdSync { s with line := { s.line with
    hold := true
    port := { s.line.port with answer := none } } }

/-- A transfer that ends while RDY is low: a RESET into the hold, unless a RESET is being answered;
otherwise an overrun where it carries a frame (R175, R177). -/
def lineLate (sdi : List Byte) (s : State) : State :=
  if PortName.line.examine sdi = .request .reset && !s.feed.syncHeld then enterHold s
  else if carriesStart sdi then countLineOverrun s
  else s

def execLineTransferEnd (sdi : List Byte) (lead : Lead) (s : State) : Out :=
  let port := s.line.port.recordSdo sdi.length lead
  if s.line.port.rdy then
    .next (lineExamine sdi { s with line := { s.line with port := port.readOut sdi.length lead } })
  else .next (lineLate sdi { s with line := { s.line with port := port } })

/-! ## LINE_RESPONSE_PLACED (R172, R177, R185) -/

/-- The interrupted request in the receive buffer still has its event to come (R177). -/
def interruptedWaits (s : State) : Bool :=
  s.line.hold && (match s.line.port.rx with | some f => !f.acted | none => false)

/-- The response answers a RESET that was taken. -/
def Response.answersReset (r : Response) : Bool := decide (r.kind = 0x3E) && decide (r.status = .ok)

/-- Place a response; that of a RESET raises SYNC and SYNC_RESTART with RDY (R23, R185). SYNC_RESTART is
raised also where sync is SETTLING by then, so that SYNC stays low (DESIGN CHOICE, log 31). -/
def placeLine (r : Response) (s : State) : State :=
  let t := { s with line := { s.line with hold := false, port := s.line.port.place r } }
  if r.answersReset then
    raiseGauge .syncRestart { t with feed := { t.feed with syncHeld := false } }
  else t

def execLineResponsePlaced (s : State) : Out :=
  match s.line.port.answer with
  | none => .next s
  | some r => .next (if interruptedWaits s then s else placeLine r s)

/-! ## READ_STATUS, READ_COUNTERS, CLEAR_NOTICES -/

/-- READ_STATUS (R182). -/
def execReadStatus (s : State) : Out := .next (answerLine 0x3B .ok (statusRecord s) s)

/-- READ_COUNTERS (R184). -/
def execReadCounters (s : State) : Out := .next (answerLine 0x3C .ok (counterRecord s) s)

/-- Clear the notices named; a new mask replaces the mask in full (R179). -/
def clearNotices (named : BitVec 24) (mask : Option (BitVec 24)) (s : State) : State :=
  { s with line := { s.line with
      notices := s.line.notices &&& ~~~(named.setWidth 18)
      mask := match mask with | some m => m.setWidth 18 | none => s.line.mask } }

/-- CLEAR_NOTICES (R179). -/
def execClearNotices (named : BitVec 24) (mask : Option (BitVec 24)) (s : State) : Out :=
  let t := clearNotices named mask s
  .next (answerLine 0x3D .ok (lineBytes t.line.notices ++ lineBytes t.line.mask) t)

/-! ## RESET (R185, R186) -/

/-- The gauge port at a RESET: a request that has not had its event stays in the receive buffer, and its
response is placed as usual; otherwise the port is empty with RDY high (R45). -/
def Port.resetGauge (p : Port) : Port :=
  match p.rx with
  | some f =>
    if f.acted then { p.emptyTx with rdy := true, rx := none, answer := none }
    else { p.emptyTx with answer := none }
  | none => { p.emptyTx with rdy := true, answer := none }

/-- The line port at a RESET's event: notices, mask, counters and transmit buffer; the receive buffer
and the hold wait for the placing of the response (R188). -/
def LinePort.afterReset (l : LinePort) : LinePort :=
  { LinePort.initial with hold := l.hold, port := { l.port.emptyTx with answer := none } }

/-- The link at a RESET: its transaction is abandoned, and its reply window runs on (R131). -/
def Link.afterReset (l : Link) : Link :=
  { Link.initial with abandoned := match l.txn with | some t => some t.start | none => l.abandoned }

/-- The settings at a RESET: the index returns to 0, a pending profile becomes the applied one (R171). -/
def Settings.afterReset (pendingKnife : Option (List Int)) (t : Settings) : Settings :=
  { t with current := 0, knife := match pendingKnife with | some k => k | none => t.knife }

/-- Every block at its RESET values (the table of R185). -/
def resetBlocks (s : State) : State :=
  { s with
    feed := { Feed.initial s.settings.geometry.pitch s.feed.botRef s.feed.topRef with
      syncHeld := true
      strobePulses := s.feed.strobePulses
      ref := { (Feed.initial 0 s.feed.botRef s.feed.topRef).ref with start := s.now } }
    intake := { Intake.initial with port := s.intake.port.resetGauge }
    hides := HideTable.initial
    track := Track.initial
    zones := initialZones s.ctl.activeZones s.ctl.strap
    link := s.link.afterReset
    ctl := Controller.initial s.ctl.activeZones s.ctl.strap
    settings := s.settings.afterReset s.track.pendingKnife
    line := s.line.afterReset }

/-- The RESET's own response, also where it stands in the hold (R177, R185). -/
def answerReset (s : State) : State :=
  let r : Response :=
    { kind := 0x3E, status := .ok,
      fields := [s.ctl.phase.code] ++ nat8 s.ctl.activeZones ++ [s.ctl.strap.code] }
  { s with line := { s.line with
      port := if s.line.hold then { s.line.port with answer := some r }
              else s.line.port.answerWith r } }

/-- RESET (R185). -/
def execReset (s : State) : Out := .next (answerReset (haltIfAsserted (resetBlocks s)))

end Sys2Proof.Machine
end

