-- ==== Sys2Proof/Machine/LinkEvents.lean ====
section
/-! DEFINITION. The commands of the zone link: replies, misses, ignored frames, move timeouts and the
close of an abandoned reply window (06). -/

namespace Sys2Proof.Machine

/-! ## Flags of the drives' frames (R196) -/

def faultBit (flags : Byte) : Bool := flags.getLsbD 1
def inPositionBit (flags : Byte) : Bool := flags.getLsbD 0

/-! ## Ends of transactions -/

/-- The link is free of its transaction. -/
def freeLink (s : State) : State := { s with link := { s.link with txn := none } }

/-- What ends a transaction's event: the marks may let RESUMING pass, and the arbiter grants. -/
def finishLink (s : State) : State := arbitrate (passResuming s)

/-- An accepted target becomes the move in flight (R114). -/
def startMove (t : Txn) (r : Target) (s : State) : State :=
  let moved := updChannel (fun c => { c with
    flight := some { target := r, accepted := s.now,
                     deadline := s.now + s.settings.geometry.moveTimeout * 1000 }
    slot := if t.slotHolds then none else c.slot }) t.zone s
  report (some r) t.zone .sent (clearMisses t.zone moved)

/-- The ACCEPT of the SEND on the link (R114, R124). -/
def acceptReply (t : Txn) (flags : Byte) (s : State) : State :=
  if faultBit flags then faultReply t.zone s
  else if t.overHalt then clearMisses t.zone s
  else if (channel s t.zone).mode.inService then
    match t.sent with
    | some r => startMove t r s
    | none => clearMisses t.zone s
  else s

/-- The reply window of a transaction is still open: a frame complete at its very end is late (R112, R113;
the instant itself is a DESIGN CHOICE, log 37). -/
def Txn.windowOpen (now : Nat) (t : Txn) : Bool := decide (now < t.start + Config.replyWindow)

/-- The transaction on the link that a correct frame from `zone` answers: its kind is one of `kinds`, its
zone is the transaction's, and the frame is complete within the reply window (R113). The window opens at
the grant: a frame that is complete while the part still sends its message, with ZDIR high, is taken too
(DESIGN CHOICE, log 38). -/
def answered (kinds : List TxnKind) (zone : Byte) (s : State) : Option Txn :=
  match s.link.txn with
  | some t =>
    if kinds.contains t.kind && decide (t.zone = zone.toNat) && t.windowOpen s.now then some t else none
  | none => none

/-- An ACCEPT frame: the reply of the SEND on the link, or ignored (R113). -/
def takeAccept (zone flags : Byte) (s : State) : State :=
  match answered [.send] zone s with
  | some t => finishLink (acceptReply t flags (freeLink s))
  | none => s

/-- The clear poll stops being pending when its transaction ends (R125, log 11). -/
def endClearPoll (t : Txn) (s : State) : State :=
  if t.kind = .clearPoll && !t.overHalt then
    updChannel (fun c => { c with clearPoll := false }) t.zone s
  else s

/-- Steps 1 to 4 of R115 for a STATUS reply, judged by the channel's mode at the reply. A reply whose
transaction was on the link at a FAULT entry, and that a ZONE_RESET has overtaken, acts on the MANUAL
channel (DESIGN CHOICE, log 32). -/
def statusReply (t : Txn) (position : BitVec 16) (flags : Byte) (s : State) : State :=
  let s1 := updChannel (fun c => { c with position := some position }) t.zone (endClearPoll t s)
  if faultBit flags then faultReply t.zone s1
  else
    let s2 := clearMisses t.zone s1
    if t.kind = .poll && inPositionBit flags then completeMove t.zone s2 else s2

/-- A STATUS reply frame: the reply of the POLL on the link, or ignored (R113). -/
def takeStatus (zone : Byte) (position : BitVec 16) (flags : Byte) (s : State) : State :=
  match answered [.poll, .clearPoll] zone s with
  | some t => finishLink (statusReply t position flags (freeLink s))
  | none => s

/-- ACCEPT. -/
def execAccept (zone flags : Byte) (s : State) : Out := .next (takeAccept zone flags s)

/-- STATUS_REPLY. -/
def execStatusReply (zone : Byte) (position : BitVec 16) (flags : Byte) (s : State) : Out :=
  .next (takeStatus zone position flags s)

/-- The reply window closes 400 microseconds after the start with no reply taken (R112, R117). -/
def missReply (t : Txn) (s : State) : State :=
  finishLink
    (countMiss t.zone (endClearPoll t (freeLink (advanceTo (t.start + Config.replyWindow) s))))

/-- MISS; with no transaction on the link there is nothing to miss. -/
def execMiss (s : State) : Out :=
  match s.link.txn with
  | some t => .next (missReply t s)
  | none => .next s

/-! ## Frames on ZRX (R113, R197) -/

/-- A complete and correct drive frame. -/
inductive DriveFrame where
  | accept (zone flags : Byte)
  | status (zone : Byte) (position : BitVec 16) (flags : Byte)
deriving DecidableEq, Repr

/-- The start byte of a drive's frame. -/
def driveStart : Byte := 0x3C

/-- The CRC of a drive's frame over zone, kind and the bytes up to the CRC (R196). -/
def driveCrc (body : List Byte) (c1 c0 : Byte) : Bool := decide (be16 (crc16 body) = [c1, c0])

/-- The drive frames among the bytes on ZRX, in order. A byte whose stop bit is missing discards its
frame; after a discarded frame listening resumes at the next start byte (R197, log 19). -/
def driveFrames : List (Option Byte) → List DriveFrame
  | [] => []
  | none :: rest => driveFrames rest
  | some b :: rest =>
    if b = driveStart then
      match rest with
      | some z :: some k :: more =>
        if k = 0x81 then
          match more with
          | some f :: some c1 :: some c0 :: after =>
            if driveCrc [z, k, f] c1 c0 then .accept z f :: driveFrames after else driveFrames after
          | [] => []
          | _ :: after => driveFrames after
        else if k = 0x82 then
          match more with
          | some p1 :: some p0 :: some f :: some c1 :: some c0 :: after =>
            if driveCrc [z, k, p1, p0, f] c1 c0 then .status z (w16 p1 p0) f :: driveFrames after
            else driveFrames after
          | [] => []
          | _ :: after => driveFrames after
        else driveFrames more
      | [] => []
      | _ :: more => driveFrames more
    else driveFrames rest

/-- A drive frame meets the conditions of R113 for the transaction on the link. -/
def DriveFrame.isReply (s : State) : DriveFrame → Bool
  | .accept z _ => (answered [.send] z s).isSome
  | .status z _ _ => (answered [.poll, .clearPoll] z s).isSome

/-- The first frame on ZRX that is the reply of the transaction on the link. -/
def replyAmong (bytes : List (Option Byte)) (s : State) : Option DriveFrame :=
  (driveFrames bytes).find? (DriveFrame.isReply s)

/-- ZONE_LINK_FRAME_IGNORED: the bytes are ignored unless a frame among them meets every condition of
R113, which makes it the reply of the transaction on the link. -/
def execZoneLinkFrameIgnored (bytes : List (Option Byte)) (s : State) : Out :=
  match replyAmong bytes s with
  | none => .next s
  | some (.accept z f) => .next (takeAccept z f s)
  | some (.status z p f) => .next (takeStatus z p f s)

/-! ## MOVE_TIMEOUT (R118) -/

/-- Step 5 of R118: an entry move that timed out is given its entry gap again. -/
def retryEntry (m : Move) (z : Nat) (s : State) : State :=
  if m.target.cause = .entry && (channel s z).entryMark && (channel s z).slot.isNone then
    place { gap := s.settings.geometry.entryGap, cause := .entry, ref := none } z s
  else s

/-- A move in flight reaches its deadline (R118). -/
def timeoutMove (m : Move) (z : Nat) (s : State) : State :=
  let t := raiseLine .zoneLagging
    (updChannel (fun c => { c with lagging := true, timeouts := c.timeouts + 1 }) z
      (endFlight .timedOut z (advanceTo m.deadline s)))
  finishLink (if 3 ≤ (channel t z).timeouts then enterFault z t else retryEntry m z t)

/-- MOVE_TIMEOUT; a channel with no move in flight has no deadline. -/
def execMoveTimeout (z : Nat) (s : State) : Out :=
  match (channel s z).flight with
  | some m => .next (timeoutMove m z s)
  | none => .next s

/-! ## ABANDONED_REPLY_WINDOW_CLOSE (R131) -/

/-- The link is free again when the window of the abandoned transaction that began at `start` has closed. -/
def closeWindow (start : Nat) (s : State) : State :=
  arbitrate
    { advanceTo (start + Config.replyWindow) s with link := { s.link with abandoned := none } }

/-- ABANDONED_REPLY_WINDOW_CLOSE; with no abandoned window there is nothing to close. -/
def execAbandonedReplyWindowClose (s : State) : Out :=
  match s.link.abandoned with
  | some start => .next (closeWindow start s)
  | none => .next s

end Sys2Proof.Machine
end

