-- ==== Sys2Proof/Machine/MachineRequests.lean ====
section
/-! DEFINITION. The line requests of the machine state controller: START, REST, WAKE, CLEAR, CLEAR_WAKE
and WAKE_ENABLE (07). -/

namespace Sys2Proof.Machine

/-- The response field that reports the machine state. -/
def phaseField (s : State) : List Byte := [s.ctl.phase.code]

/-- START (R138). -/
def execStart (s : State) : Out :=
  if s.pins.halt then .next (answerLine 0x20 .halted (phaseField s) s)
  else if s.ctl.phase = .standby then
    let t := arbitrate (enterResuming s)
    .next (answerLine 0x20 .ok (phaseField t) t)
  else .next (answerLine 0x20 .wrongState (phaseField s) s)

/-- The response fields of REST (R181). -/
def restFields (s : State) : List Byte :=
  [s.ctl.phase.code, wakeByte s.ctl.flags, wakeByte s.ctl.enables]

/-- Entry to CLEARING, passing on where the knife is clear (R142). -/
def enterClearing (s : State) : State := passClearing (enterPhase .clearing s)

/-- A REST that passes its checks (R141). -/
def takeRest (target : RestTarget) (s : State) : State :=
  let t := { s with ctl := { s.ctl with restTarget := target } }
  arbitrate (match target with | .dwell => enterBraking t | .park => enterClearing t)

/-- REST (R141). -/
def execRest (code : Byte) (s : State) : Out :=
  match restTargetOf code with
  | none => .next (answerLine 0x21 .badValue (restFields s) s)
  | some target =>
    if s.ctl.phase = .run then
      if s.ctl.wakeHolds then .next (answerLine 0x21 .wakePending (restFields s) s)
      else
        let t := takeRest target s
        .next (answerLine 0x21 .ok (restFields t) t)
    else .next (answerLine 0x21 .wrongState (restFields s) s)

/-- WAKE (R137). -/
def execWake (s : State) : Out :=
  let t := setWakeFlag .line s
  .next (answerLine 0x22 .ok (phaseField t) t)

/-- A clear poll becomes pending in every active channel (R125). -/
def setClearPolls (s : State) : State :=
  { s with zones := s.zones.map fun c => { c with clearPoll := c.clearPoll || decide (c.mode ≠ .off) } }

/-- A CLEAR that is taken: STANDBY, clear polls, and the link may be granted again (R152). -/
def leaveHalt (s : State) : State := arbitrate (setClearPolls (enterPhase .standby s))

/-- CLEAR (R152). -/
def execClear (s : State) : Out :=
  if s.ctl.phase = .halt && !s.pins.halt then
    let t := leaveHalt s
    .next (answerLine 0x23 .ok (phaseField t) t)
  else .next (answerLine 0x23 .wrongState (phaseField s) s)

/-- CLEAR_WAKE (R135): clearing a flag undoes no transition. -/
def execClearWake (named : Byte) (s : State) : Out :=
  let t := { s with ctl := { s.ctl with flags := s.ctl.flags &&& ~~~(named.setWidth 4) } }
  .next (answerLine 0x24 .ok [wakeByte t.ctl.flags, wakeByte t.ctl.enables, t.ctl.phase.code] t)

/-- WAKE_ENABLE (R136): the enables are replaced in full, which may be a wake event. -/
def execWakeEnable (enables : Byte) (s : State) : Out :=
  let t := changeWake (fun c => { c with enables := enables.setWidth 4 }) s
  .next (answerLine 0x25 .ok [wakeByte t.ctl.enables, wakeByte t.ctl.flags, t.ctl.phase.code] t)

end Sys2Proof.Machine
end

