-- ==== Sys2Proof/Machine/SettingRequests.lean ====
section
/-! DEFINITION. The line requests of the setting store and of the feed settings: articles, knife profile,
geometry, scale, lock, speed, trim and dwell time (08). -/

namespace Sys2Proof.Machine

/-! ## Articles (R157 to R160) -/

/-- The row is replaced in full. -/
def putArticle (row : Nat) (a : Article) (s : State) : State :=
  { s with settings := { s.settings with articles := updAt (fun _ => a) row s.settings.articles } }

/-- WRITE_ARTICLE (R157). -/
def execWriteArticle (row : Nat) (a : Article) (s : State) : Out :=
  if articleItem row a = 0 then .next (answerLine 0x30 .ok [0] (putArticle row a s))
  else .next (answerLine 0x30 .badValue (nat8 (articleItem row a)) s)

/-- SELECT_ARTICLE (R159). -/
def execSelectArticle (row : Nat) (s : State) : Out :=
  if 31 < row then .next (answerLine 0x31 .badValue (nat8 s.settings.current) s)
  else .next (answerLine 0x31 .ok (nat8 row) { s with settings := { s.settings with current := row } })

/-- The row read; for a row above 31 its 28 bytes are free values (log 14). -/
def articleFields (row : Nat) (s : State) : List Byte :=
  match s.settings.articles[row]? with
  | some a => a.bytes
  | none => (List.range 28).map (Config.noRowByte row)

/-- READ_ARTICLE (R160). -/
def execReadArticle (row : Nat) (s : State) : Out :=
  if 31 < row then
    .next (answerLine 0x32 .badValue
      ((List.range 28).map (Config.noRowByte row) ++ nat8 s.settings.current) s)
  else .next (answerLine 0x32 .ok (articleFields row s ++ nat8 s.settings.current) s)

/-! ## Knife profile (R83, R161) -/

/-- A profile that has passed its checks: applied where no hide is converting, else pending (R83). -/
def takeKnife (offsets : List Int) (s : State) : State :=
  if anyConverting s then
    { s with track := { s.track with pendingKnife := some (sixteen offsets) } }
  else applyKnife (sixteen offsets) s

/-- 1 APPLIED, 2 PENDING (R193). -/
def knifeWrite (s : State) : Byte := if anyConverting s then 2 else 1

/-- WRITE_KNIFE (R161). -/
def execWriteKnife (offsets : List Int) (s : State) : Out :=
  match knifeFailing offsets with
  | some z => .next (answerLine 0x33 .badValue ([0] ++ nat8 z) s)
  | none => .next (answerLine 0x33 .ok [knifeWrite s, 0] (takeKnife offsets s))

/-! ## Geometry (R162 to R164) -/

/-- A SET_GEOMETRY that is taken: the values, the next strobe position, the slip window (R164). -/
def takeGeometry (g : Geometry) (s : State) : State :=
  restartWindow
    { s with
      settings := { s.settings with geometry := g }
      feed := { s.feed with nextPos := posPlus s.feed.h g.pitch } }

/-- SET_GEOMETRY (R163). -/
def execSetGeometry (g : Geometry) (s : State) : Out :=
  if s.settings.locked then .next (answerLine 0x34 .locked [0] s)
  else if s.ctl.phase = .standby then
    if geometryItem g = 0 then .next (answerLine 0x34 .ok [0] (takeGeometry g s))
    else .next (answerLine 0x34 .badValue (nat8 (geometryItem g)) s)
  else .next (answerLine 0x34 .wrongState [0] s)

/-! ## Scale (R11, R165) -/

/-- A SET_SCALE that is taken: scale, accumulators, SETTLING, flush, slip window, capture slot (R11). -/
def takeScale (scale : Nat) (s : State) : State :=
  settle
    (restartWindow
      (flush .scale
        (enterSettling
          { s with
            settings := { s.settings with scale := scale }
            feed := { s.feed with botAcc := 0, topAcc := 0 } })))

/-- SET_SCALE (R165). -/
def execSetScale (scale : Nat) (s : State) : Out :=
  if s.settings.locked then .next (answerLine 0x35 .locked (nat16 s.settings.scale) s)
  else if 10 ≤ scale ∧ scale ≤ 4000 then
    .next (answerLine 0x35 .ok (nat16 scale) (takeScale scale s))
  else .next (answerLine 0x35 .badValue (nat16 s.settings.scale) s)

/-- LOCK_GEOMETRY (R166). -/
def execLockGeometry (s : State) : Out :=
  .next (answerLine 0x36 .ok [] { s with settings := { s.settings with locked := true } })

/-! ## Feed speed, trim, dwell time (R167 to R169) -/

/-- Period, duty, CLAMPED and effective count. -/
def speedFields (clamped : Bool) (s : State) : List Byte :=
  nat16 s.feed.period ++ nat16 s.feed.duty ++ [flagByte clamped] ++ nat16 s.feed.effective

/-- SET_SPEED (R167): the values take effect at the start of the next period (R19). -/
def execSetSpeed (period duty : Nat) (s : State) : Out :=
  if 99 ≤ period ∧ period ≤ 4095 then
    let t := { s with feed := { s.feed with period := period, duty := duty } }
    .next (answerLine 0x37 .ok (speedFields (decide (period + 1 < duty)) t) t)
  else .next (answerLine 0x37 .badValue (speedFields false s) s)

/-- SET_TRIM (R168). -/
def execSetTrim (trim : Nat) (s : State) : Out :=
  .next (answerLine 0x38 .ok (nat8 (min trim 4) ++ [flagByte (decide (4 < trim))])
    { s with feed := { s.feed with trim := min trim 4 } })

/-- SET_DWELL (R169). -/
def execSetDwell (time : Nat) (s : State) : Out :=
  if 1 ≤ time ∧ time ≤ 65535 then
    .next (answerLine 0x39 .ok (nat16 time) { s with settings := { s.settings with dwellTime := time } })
  else .next (answerLine 0x39 .badValue (nat16 s.settings.dwellTime) s)

/-- READ_SETTINGS (R170). -/
def execReadSettings (s : State) : Out := .next (answerLine 0x3A .ok (settingsRecord s) s)

end Sys2Proof.Machine
end

