-- ==== Sys2Proof/Machine/ZoneRequests.lean ====
section
/-! DEFINITION. The line requests of the track and the zone channels: READ_TRACK, ZONE_MOVE, ZONE_MODE,
ZONE_RESET and READ_ZONES (04, 06). -/

namespace Sys2Proof.Machine

/-- READ_TRACK (R86): a refusal carries the header and no summaries (R195). -/
def execReadTrack (place count : Nat) (s : State) : Out :=
  if 1 ≤ count ∧ count ≤ 16 then
    .next (answerLine 0x2B .ok
      (trackHeader (summaries place count s).length s ++ (summaries place count s).flatMap Slice.summary)
      s)
  else .next (answerLine 0x2B .badValue (trackHeader 0 s) s)

/-! ## ZONE_MOVE (R127) -/

/-- A refused ZONE_MOVE: the outcome fields are zero (R180). -/
def refuseMove (status : Status) (s : State) : Out := .next (answerLine 0x2C status (int16 0 ++ [0]) s)

/-- A ZONE_MOVE that passes its checks. -/
def takeMove (zone : Nat) (target : Int) (s : State) : State :=
  arbitrate (place { gap := clampGap target, cause := .manual, ref := none } zone s)

/-- ZONE_MOVE. -/
def execZoneMove (zone : Nat) (target : Int) (s : State) : Out :=
  if 15 < zone then refuseMove .badValue s
  else if s.ctl.phase = .halt then refuseMove .wrongState s
  else if (channel s zone).mode = .manual then
    .next (answerLine 0x2C .ok
      (int16 (clampGap target) ++ [flagByte (decide (clampGap target ≠ target))])
      (takeMove zone target s))
  else refuseMove .wrongState s

/-! ## ZONE_MODE (R128) -/

/-- A TRACK target in the slot that a zone leaving TRACK discards. -/
def discardsTrack (zone : Nat) (mode : ZoneMode) (s : State) : Bool :=
  decide ((channel s zone).mode = .track) && decide (mode ≠ .track) &&
    (match (channel s zone).slot with | some t => decide (t.cause = .track) | none => false)

/-- Every hide in SCAN_SPLIT or SPLITTING is flagged MANUAL_INFLUENCE (R66). -/
def flagInfluence (s : State) : State :=
  updRecords (fun r =>
    if r.state.converting then { r with flags := { r.flags with manualInfluence := true } } else r) s

/-- A ZONE_MODE that passes its checks, as one event. -/
def takeMode (zone : Nat) (mode : ZoneMode) (s : State) : State :=
  let t := if discardsTrack zone mode s then discardSlot zone s else s
  arbitrate (passResuming (flagInfluence
    (updChannel (fun c => { c with
      mode := mode
      base := none
      entryMark := c.entryMark && !(decide (c.mode = .track) && decide (mode ≠ .track)) }) zone t)))

/-- The mode held, and whether a TRACK target was discarded. -/
def modeFields (zone : Nat) (discarded : Bool) (s : State) : List Byte :=
  [(channel s zone).mode.code, flagByte discarded]

/-- ZONE_MODE. The mode held by a zone above 15 is a free value (log 14). -/
def execZoneMode (zone : Nat) (code : Byte) (s : State) : Out :=
  if 15 < zone then .next (answerLine 0x2D .badValue [Config.noZoneMode zone, 0] s)
  else match zoneModeOf code with
    | none => .next (answerLine 0x2D .badValue (modeFields zone false s) s)
    | some mode =>
      if !(channel s zone).mode.inService then
        .next (answerLine 0x2D .wrongState (modeFields zone false s) s)
      else if mode = .track && s.ctl.strap = .fixed then
        .next (answerLine 0x2D .wrongState (modeFields zone false s) s)
      else
        let t := takeMode zone mode s
        .next (answerLine 0x2D .ok (modeFields zone (discardsTrack zone mode s) t) t)

/-! ## ZONE_RESET (R129) and READ_ZONES (R130) -/

/-- A ZONE_RESET that is taken. -/
def takeZoneReset (zone : Nat) (s : State) : State :=
  updChannel (fun c => { c with mode := .manual, misses := 0, timeouts := 0, lagging := false }) zone s

/-- ZONE_RESET. -/
def execZoneReset (zone : Nat) (s : State) : Out :=
  if 15 < zone then .next (answerLine 0x2E .badValue [] s)
  else if (channel s zone).mode = .fault then .next (answerLine 0x2E .ok [] (takeZoneReset zone s))
  else .next (answerLine 0x2E .wrongState [] s)

/-- READ_ZONES. -/
def execReadZones (s : State) : Out := .next (answerLine 0x2F .ok (zonesRecord s) s)

end Sys2Proof.Machine
end

