-- ==== Sys2Proof/Machine/Dispatch.lean ====
section
/-! DEFINITION. One arm per command, each a call of the command's meaning. -/

namespace Sys2Proof.Machine

def exec (i : Instr) (s : State) : Host.Outcome State Fault Refusal :=
  match i with
  | .powerOnReset pins => Sys2Proof.Machine.execPowerOnReset pins s
  | .bottomPulse a b order => Sys2Proof.Machine.execBottomPulse a b order s
  | .topPulse a b => Sys2Proof.Machine.execTopPulse a b s
  | .infeedEdge => Sys2Proof.Machine.execInfeedEdge s
  | .haltAsserted => Sys2Proof.Machine.execHaltAsserted s
  | .haltReleased => Sys2Proof.Machine.execHaltReleased s
  | .feedStillAsserted => Sys2Proof.Machine.execFeedStillAsserted s
  | .feedStillReleased => Sys2Proof.Machine.execFeedStillReleased s
  | .dwellTimerExpiry => Sys2Proof.Machine.execDwellTimerExpiry s
  | .feedRefPeriodStart => Sys2Proof.Machine.execFeedRefPeriodStart s
  | .feedRefHighEnd => Sys2Proof.Machine.execFeedRefHighEnd s
  | .accept zone flags => Sys2Proof.Machine.execAccept zone flags s
  | .statusReply zone position flags => Sys2Proof.Machine.execStatusReply zone position flags s
  | .miss => Sys2Proof.Machine.execMiss s
  | .zoneLinkFrameIgnored bytes => Sys2Proof.Machine.execZoneLinkFrameIgnored bytes s
  | .moveTimeout zone => Sys2Proof.Machine.execMoveTimeout zone s
  | .gaugeTransferEnd sdi lead => Sys2Proof.Machine.execGaugeTransferEnd sdi lead s
  | .gaugeResponsePlaced => Sys2Proof.Machine.execGaugeResponsePlaced s
  | .slice strobe readings => Sys2Proof.Machine.execSlice strobe readings s
  | .announce first tag => Sys2Proof.Machine.execAnnounce first tag s
  | .endHide last => Sys2Proof.Machine.execEndHide last s
  | .wakeRequest => Sys2Proof.Machine.execWakeRequest s
  | .gaugeStatus => Sys2Proof.Machine.execGaugeStatus s
  | .gaugeSetup => Sys2Proof.Machine.execGaugeSetup s
  | .gaugeReset => Sys2Proof.Machine.execGaugeReset s
  | .clearGaugeNotices named mask => Sys2Proof.Machine.execClearGaugeNotices named mask s
  | .lineTransferEnd sdi lead => Sys2Proof.Machine.execLineTransferEnd sdi lead s
  | .lineResponsePlaced => Sys2Proof.Machine.execLineResponsePlaced s
  | .start => Sys2Proof.Machine.execStart s
  | .rest target => Sys2Proof.Machine.execRest target s
  | .wake => Sys2Proof.Machine.execWake s
  | .clear => Sys2Proof.Machine.execClear s
  | .clearWake flags => Sys2Proof.Machine.execClearWake flags s
  | .wakeEnable enables => Sys2Proof.Machine.execWakeEnable enables s
  | .bind hide row => Sys2Proof.Machine.execBind hide row s
  | .abandon hide => Sys2Proof.Machine.execAbandon hide s
  | .release hide => Sys2Proof.Machine.execRelease hide s
  | .readHide hide => Sys2Proof.Machine.execReadHide hide s
  | .readReport => Sys2Proof.Machine.execReadReport s
  | .readTrack place count => Sys2Proof.Machine.execReadTrack place count s
  | .zoneMove zone target => Sys2Proof.Machine.execZoneMove zone target s
  | .zoneMode zone mode => Sys2Proof.Machine.execZoneMode zone mode s
  | .zoneReset zone => Sys2Proof.Machine.execZoneReset zone s
  | .readZones => Sys2Proof.Machine.execReadZones s
  | .writeArticle row article => Sys2Proof.Machine.execWriteArticle row article s
  | .selectArticle row => Sys2Proof.Machine.execSelectArticle row s
  | .readArticle row => Sys2Proof.Machine.execReadArticle row s
  | .writeKnife offsets => Sys2Proof.Machine.execWriteKnife offsets s
  | .setGeometry values => Sys2Proof.Machine.execSetGeometry values s
  | .setScale scale => Sys2Proof.Machine.execSetScale scale s
  | .lockGeometry => Sys2Proof.Machine.execLockGeometry s
  | .setSpeed period duty => Sys2Proof.Machine.execSetSpeed period duty s
  | .setTrim trim => Sys2Proof.Machine.execSetTrim trim s
  | .setDwell time => Sys2Proof.Machine.execSetDwell time s
  | .readSettings => Sys2Proof.Machine.execReadSettings s
  | .readStatus => Sys2Proof.Machine.execReadStatus s
  | .readCounters => Sys2Proof.Machine.execReadCounters s
  | .clearNotices named mask => Sys2Proof.Machine.execClearNotices named mask s
  | .reset => Sys2Proof.Machine.execReset s
  | .abandonedReplyWindowClose => Sys2Proof.Machine.execAbandonedReplyWindowClose s

end Sys2Proof.Machine
end

