-- ==== Sys2Proof/Machine/Tick.lean ====
section
/-! DEFINITION. What the passing of one microsecond brings about while no command waits (log 3): the
part's own timers reach their ends (R19, R112, R117, R118, R131, R149). -/

namespace Sys2Proof.Machine

/-- The running dwell timer expires where its time has come (R149). -/
def tickDwell (s : State) : State :=
  if s.ctl.dwell.running && decide (s.ctl.dwell.expiresAt ≤ s.now) then expireDwell s else s

/-- The move of zone z times out where its deadline has come (R118). -/
def tickMove (z : Nat) (s : State) : State :=
  match (channel s z).flight with
  | some m => if m.deadline ≤ s.now then timeoutMove m z s else s
  | none => s

/-- The reply window of the transaction on the link closes where its time has come (R112, R117). -/
def tickReply (s : State) : State :=
  match s.link.txn with
  | some t => if t.start + Config.replyWindow ≤ s.now then missReply t s else s
  | none => s

/-- The window of an abandoned transaction closes where its time has come (R131). -/
def tickAbandoned (s : State) : State :=
  match s.link.abandoned with
  | some start => if start + Config.replyWindow ≤ s.now then closeWindow start s else s
  | none => s

/-- FEED REF begins its next period, or ends its high part, where the time has come (R19). -/
def tickFeedRef (s : State) : State :=
  if s.feed.ref.periodEnd ≤ s.now then startPeriod s
  else if s.feed.ref.start + s.feed.ref.count ≤ s.now then endHigh s
  else s

/-- One microsecond passes; the timers that end at one moment are taken in this order (log 3). -/
def tick (s : State) : State :=
  tickFeedRef (tickAbandoned (tickReply (forZones tickMove (tickDwell { s with now := s.now + 1 }))))

end Sys2Proof.Machine
end

