-- ==== Sys2Proof/Safety.lean ====
section
/-! DEFINITION. What counts as a sound state of the part: the laws that the manual states of its state
in every reachable situation. Each is kept by every step by itself; claims use them as premises where
a statement could fail in a state that no run reaches. -/

namespace Sys2Proof.Machine

/-! ## Feed unit and controller -/

/-- FEED-STOP follows the machine state, and FEED REF's gate follows the machine state and the HALT
input; a gated output is low (R19, R20, R132). -/
def FeedGateAgrees (s : State) : Prop :=
  s.ctl.feedStop = (!s.ctl.phase.drives) ∧ s.feed.ref.gated = gateClosed s ∧
    (gateClosed s = true → s.feed.ref.high = false)

/-- The accumulators lie from 0 to scale − 1 (R3), the trim from 0 to 4 and the consecutive slip count
from 0 to 2 (R17), the period setting from 99 to 4095 (R18). -/
def FeedCountsSound (s : State) : Prop :=
  s.feed.botAcc < s.settings.scale ∧ s.feed.topAcc < s.settings.scale ∧ s.feed.trim ≤ 4 ∧
    s.feed.slip.count ≤ 2 ∧ 99 ≤ s.feed.period ∧ s.feed.period ≤ 4095

/-! ## Intake -/

/-- Each entry's strobe number is one above that of the entry before it (R31). -/
def Consecutive : List Entry → Prop
  | [] => True
  | [_] => True
  | e :: f :: rest => f.num = e.num + 1 ∧ Consecutive (f :: rest)

/-- The outstanding strobe list: at most 16 entries, consecutive numbers up to the one below the next
strobe number, no reply at the head (R31, R32); in SETTLING no strobe is outstanding and the newest
issued strobe is absent (R8, R10). -/
def OutstandingSound (s : State) : Prop :=
  s.intake.list.length ≤ 16 ∧ Consecutive s.intake.list ∧
    (∀ e ∈ s.intake.list.head?, e.reply = none) ∧
    (∀ e ∈ s.intake.list.getLast?, e.num + 1 = s.feed.nextNum) ∧
    (∀ n ∈ s.feed.newest, n.num + 1 = s.feed.nextNum) ∧
    (s.intake.list ≠ [] → s.feed.newest.isSome = true) ∧
    (s.feed.sync = .settling → s.intake.list = [] ∧ s.feed.newest = none)

/-! ## Hide table -/

/-- The finished records: DONE or ABANDONED. -/
def finishedNumbers (s : State) : List Num :=
  (s.hides.records.filter fun r => !r.state.unfinished).map HideRecord.number

/-- At most eight records in use, with distinct numbers other than 0, none of them the next hide number
(R46); at most one hide open (R49); the completion order list holds every finished record once, and the
cursor stands within it (R62). -/
def HideTableSound (s : State) : Prop :=
  s.hides.records.length ≤ 8 ∧ (s.hides.records.map HideRecord.number).Nodup ∧
    (∀ r ∈ s.hides.records, r.number ≠ 0 ∧ r.number ≠ s.hides.nextNumber) ∧ s.hides.nextNumber ≠ 0 ∧
    (s.hides.records.filter fun r => r.state.isOpen).length ≤ 1 ∧
    s.hides.completion.Perm (finishedNumbers s) ∧ s.hides.cursor ≤ s.hides.completion.length

/-- Where strobes are not issued, no strobe is outstanding, no slice is in the track and no hide is
unfinished (R36, R80, R81, R90, R162). -/
def RestEmpty (s : State) : Prop :=
  s.ctl.phase.permitsStrobes = false →
    s.intake.list = [] ∧ s.track.slices = [] ∧ anyUnfinished s = false

/-! ## Track -/

/-- How many strobes back a strobe number lies: 1 for the newest of the numbering. -/
def strobesBack (s : State) (n : Num) : Nat := (s.feed.nextNum - n).toNat

/-- The feed counts by which H is past a position. -/
def pastBy (s : State) (p : Pos) : Nat := (s.feed.h - p).toNat

/-- A strobe of the numbering in force stands one pitch before the next strobe position for each strobe
that it lies back (R12, R70). -/
def InNumbering (s : State) (x : StrobeId) : Prop :=
  1 ≤ strobesBack s x.num ∧
    x.pos + BitVec.ofNat 32 (strobesBack s x.num * s.settings.geometry.pitch) = s.feed.nextPos

/-- The strobes still in the part: those in the track, head first, then those outstanding. -/
def strobesHeld (s : State) : List StrobeId :=
  s.track.slices.map (fun sl => { num := sl.strobe, pos := sl.pos }) ++
    s.intake.list.map fun e => { num := e.num, pos := e.pos }

/-- The next strobe position lies ahead of H by at most one pitch in LOCKED (R12, R13), and F is never
ahead of H (R5, R6). -/
def StrobeBaseSound (s : State) : Prop :=
  (s.feed.sync = .locked → 1 ≤ (s.feed.nextPos - s.feed.h).toNat ∧
      (s.feed.nextPos - s.feed.h).toNat ≤ s.settings.geometry.pitch) ∧
    (s.feed.h - s.feed.f).toNat ≤ 200

/-- The track and the hide table agree: the strobes held belong to one numbering and come oldest first
(R70); no slice is at its knife point, none in ENTERED and no outstanding strobe at its lead point (R71,
R72, R76); every slice belongs to an unfinished hide (R69), and each record counts its slices (R55, R58);
an open hide began within reach and, once a slice of it has entered, before every outstanding strobe (R49,
R54). -/
def TrackSound (s : State) : Prop :=
  StrobeBaseSound s ∧
    (s.feed.sync = .settling → s.track.slices = [] ∧ anyUnfinished s = false) ∧
    (∀ x ∈ strobesHeld s, InNumbering s x) ∧
    ((strobesHeld s).map fun x => strobesBack s x.num).Pairwise (fun a b => b < a) ∧
    (∀ sl ∈ s.track.slices, pastBy s sl.pos < s.settings.geometry.distance ∧
      (sl.stage = .entered → pastBy s sl.pos + s.settings.geometry.lead < s.settings.geometry.distance) ∧
      ∃ r ∈ s.hides.records, r.number = sl.hide ∧ r.state.unfinished = true) ∧
    (∀ e ∈ s.intake.list,
      pastBy s e.pos + s.settings.geometry.lead < s.settings.geometry.distance) ∧
    ∀ r ∈ s.hides.records,
      r.inTrack = (s.track.slices.filter fun sl => sl.hide = r.number).length ∧
      (r.state.isOpen = true → s.feed.newest.isSome = true ∧ InNumbering s r.first ∧
        pastBy s r.first.pos ≤ max s.settings.geometry.maxLength s.settings.geometry.distance ∧
        (0 < r.inTrack ∨ r.state = .scanSplit →
          ∀ e ∈ s.intake.list, strobesBack s e.num < strobesBack s r.first.num))

/-! ## Zone channels and link -/

/-- A gap that may reach a drive (R97, R114). -/
def GapOk (g : Int) : Prop := 20 ≤ g ∧ g ≤ 900

def TargetOk (t : Target) : Prop := GapOk t.gap

/-- Every target that waits, moves or is on the link, every rate-limit base and the two machine gaps lie
from 20 to 900 h (R114, R97, R162). -/
def GapsBounded (s : State) : Prop :=
  (∀ c ∈ s.zones, (∀ t ∈ c.slot, TargetOk t) ∧ (∀ m ∈ c.flight, TargetOk m.target) ∧
      (∀ b ∈ c.base, GapOk b.gap)) ∧
    (∀ x ∈ s.link.txn, ∀ t ∈ x.sent, TargetOk t) ∧
    GapOk s.settings.geometry.parkGap ∧ GapOk s.settings.geometry.entryGap

/-- One channel for zone z: OFF exactly at or above the active zone count (R108); in FAULT and OFF it
holds no target and no entry mark (R119); an entry mark stands in TRACK alone (R121); the miss and
timeout counts stay below 3 outside FAULT (R117, R118). -/
def ChannelSound (active z : Nat) (c : Channel) : Prop :=
  (c.mode = .off ↔ active ≤ z) ∧
    (c.mode.inService = false → c.slot = none ∧ c.flight = none) ∧
    (c.entryMark = true → c.mode = .track) ∧
    (c.mode.inService = true → c.misses ≤ 2 ∧ c.timeouts ≤ 2) ∧ c.misses ≤ 3 ∧ c.timeouts ≤ 3 ∧
    (c.clearPoll = true → c.mode ≠ .off)

/-- Sixteen channels, 12 or 16 of them active; the link's zones exist; the machine is in RESUMING just
while some channel holds an entry mark (R139). -/
def ChannelsSound (s : State) : Prop :=
  s.zones.length = 16 ∧ (s.ctl.activeZones = 12 ∨ s.ctl.activeZones = 16) ∧
    (∀ z, z < 16 → ChannelSound s.ctl.activeZones z (channel s z)) ∧
    s.link.last < 16 ∧ (∀ x ∈ s.link.txn, x.zone < 16) ∧
    (s.ctl.phase = .resuming ↔ anyEntryMark s = true)

/-- The link is not left idle while a channel has a request and grants are allowed (R111). -/
def LinkNeverIdles (s : State) : Prop :=
  s.ctl.phase ≠ .halt → s.link.free = true → ∀ z, z < 16 → (channel s z).request = none

/-- In HALT no channel holds a target, an entry mark or a pending clear poll, no transaction can start a
move, and the dwell timer is stopped (R123, R124, R150). -/
def HaltStill (s : State) : Prop :=
  s.ctl.phase = .halt →
    (∀ c ∈ s.zones, c.slot = none ∧ c.flight = none ∧ c.entryMark = false ∧ c.clearPoll = false) ∧
    (∀ x ∈ s.link.txn, x.overHalt = true) ∧ s.ctl.dwell.running = false

/-! ## Setting store -/

def OffsetsOk (k : List Int) : Prop := k.length = 16 ∧ ∀ v ∈ k, -100 ≤ v ∧ v ≤ 100

/-- Every setting lies within the range its request checks (R156, R161, R162, R165, R169). -/
def SettingsSound (s : State) : Prop :=
  s.settings.articles.length = 32 ∧ (∀ a ∈ s.settings.articles, articleItem 0 a = 0) ∧
    s.settings.current ≤ 31 ∧ OffsetsOk s.settings.knife ∧ (∀ k ∈ s.track.pendingKnife, OffsetsOk k) ∧
    geometryItem s.settings.geometry = 0 ∧ 10 ≤ s.settings.scale ∧ s.settings.scale ≤ 4000 ∧
    1 ≤ s.settings.dwellTime ∧ s.settings.dwellTime ≤ 65535

/-! ## Strap mode FIXED -/

/-- In FIXED the gauge notices are clear, no reply is stored, no record is in use, no slice is in the
track, no profile is pending, and no zone is in TRACK (R43, R68, R88, R108, R128, R153). -/
def FixedQuiet (s : State) : Prop :=
  s.ctl.strap = .fixed →
    s.intake.notices = 0 ∧ (∀ e ∈ s.intake.list, e.reply = none) ∧ s.hides.records = [] ∧
      s.hides.completion = [] ∧ s.track.slices = [] ∧ s.track.pendingKnife = none ∧
      ∀ c ∈ s.zones, c.mode ≠ .track

/-! ## Vocabulary of the claims -/

/-- The machine state after a wake event (R134, R139): PARK passes through RESUMING where no channel is
given an entry mark. -/
def phaseAfterWake (s : State) : Phase :=
  match s.ctl.phase with
  | .clearing => .run
  | .braking => .run
  | .dwell => .run
  | .park => if s.zones.any (fun c => c.mode = .track || c.entryMark) then .resuming else .run
  | .standby => .standby
  | .resuming => .resuming
  | .run => .run
  | .halt => .halt

/-- The machine state once the wake flags and enables are these (R134). -/
def phaseWith (flags enables : BitVec 4) (s : State) : Phase :=
  if flags &&& enables ≠ 0 ∧ s.ctl.flags &&& s.ctl.enables = 0 then phaseAfterWake s else s.ctl.phase

/-- Where a wake event leads (the table of R134); a PARK may pass through RESUMING (R139). -/
def wakeLeads : Phase → Phase → Bool
  | .clearing, q => q = .run
  | .braking, q => q = .run
  | .dwell, q => q = .run
  | .park, q => q = .resuming || q = .run
  | .standby, _ => false
  | .resuming, _ => false
  | .run, _ => false
  | .halt, _ => false

/-- The machine state of a rest target. -/
def restPhase : RestTarget → Phase
  | .dwell => .dwell
  | .park => .park

/-- Where an entry to BRAKING leads: to the rest at once where FEED-STILL is asserted (R143). -/
def braked (s : State) (r : RestTarget) : Phase := if s.pins.feedStill then restPhase r else .braking

/-- The request that a channel forms outside HALT (the table of R110). -/
def requestOf (c : Channel) : Option TxnKind :=
  if c.clearPoll = true then some .clearPoll
  else if c.mode = .fault ∨ c.mode = .off then none
  else if c.flight.isSome = true then some .poll
  else if c.slot.isSome = true then some .send
  else none

/-- A zone's place in the order of a grant: 0 for the zone after the last granted one, which itself comes
last; zone 0 follows zone 15 (R111). -/
def turnAfter (last z : Nat) : Nat := (z + 16 - (last + 1) % 16) % 16

/-- The link as the arbiter leaves a link that was free, `last` being the zone granted before: the first
zone in turn that has a request is granted, and its transaction has just started, with a copy of the
slot's record where it is a SEND; with no request, and in HALT, there is no grant (R110, R111, R114). -/
def GrantedInTurn (last : Nat) (t : State) : Prop :=
  match t.link.txn with
  | some x => t.ctl.phase ≠ .halt ∧ x.zone < 16 ∧ t.link.last = x.zone ∧
      requestOf (channel t x.zone) = some x.kind ∧
      (∀ z, z < 16 → turnAfter last z < turnAfter last x.zone → requestOf (channel t z) = none) ∧
      x.start = t.now ∧ x.sent = (if x.kind = .send then (channel t x.zone).slot else none) ∧
      x.slotHolds = decide (x.kind = .send) ∧ x.overHalt = false
  | none => t.link.last = last ∧ (t.ctl.phase = .halt ∨ ∀ z, z < 16 → requestOf (channel t z) = none)

/-- A slice after a report on zone z's target `t`: where the target carries a reference to the slice, a
progress of WAITING or SENT gives way to the one reported, and every other stays (R75). -/
def reported (p : Progress) (z : Nat) (t : Option Target) (sl : Slice) : Slice :=
  if ∃ x ∈ t, ∃ i ∈ x.ref, sl.strobe = i.strobe ∧ sl.hide = i.hide then
    { sl with results := updAt (fun o => { o with
        progress := if o.progress = .waiting ∨ o.progress = .sent then p else o.progress }) z sl.results }
  else sl

/-- A slice after zone z's FAULT entry, for the channel before it (R75, R119). -/
def reportedFault (z : Nat) (c : Channel) (sl : Slice) : Slice :=
  reported .ended z (c.flight.map Move.target) (reported .skipped z c.slot sl)

/-- The slices after the targets of a conversion have been placed, one for each zone that `targets` gives one:
where the record replaced in a zone's slot carries a reference to the slice, its result for that zone is
reported SKIPPED (R74, R75, R109). -/
def displaced (targets : List (Option Int)) (s : State) (sl : Slice) : Slice :=
  { sl with results := sl.results.mapIdx fun z o =>
      if (targets.getD z none).isSome = true ∧ (o.progress = .waiting ∨ o.progress = .sent) ∧
          (∃ x ∈ (channel s z).slot, ∃ i ∈ x.ref, sl.strobe = i.strobe ∧ sl.hide = i.hide)
      then { o with progress := .skipped } else o }

/-- H has reached the lead point p + D − L: the signed difference from H to it is zero or negative (R1,
R72). -/
def AtLeadPoint (p : Pos) (s : State) : Prop :=
  (p + BitVec.ofNat 32 s.settings.geometry.distance - BitVec.ofNat 32 s.settings.geometry.lead
    - s.feed.h).toInt ≤ 0

/-- H has reached the knife point p + D (R1, R76). -/
def AtKnifePoint (p : Pos) (s : State) : Prop :=
  (p + BitVec.ofNat 32 s.settings.geometry.distance - s.feed.h).toInt ≤ 0

/-- A strobe number at or newer than a first strobe and, where there is a last one, at or older than it
(R33). -/
def InRange (first : Num) (last : Option Num) (n : Num) : Prop :=
  older n first = false ∧ ∀ l ∈ last, older l n = false

/-- A record that the search for a departing strobe matches (R33, R67). -/
def Matches (r : HideRecord) (n : Num) : Prop := r.rangeOpen = true ∧ InRange r.first.num r.last n

/-- The slice as which a departing entry enters the track: where the hide found for it is unfinished
(R34). -/
def enteredFor (records : List HideRecord) (e : Entry) : Option Slice :=
  match memberOf e.num records with
  | some r => if r.state.unfinished then
      some { strobe := e.num, pos := e.pos, hide := r.number, readings := e.reply, stage := .entered,
             results := [] } else none
  | none => none

/-- A departing entry is an orphan: it holds a reply and no hide is found for it (R34). -/
def isOrphan (records : List HideRecord) (e : Entry) : Bool :=
  (memberOf e.num records).isNone && e.reply.isSome

/-- The orphan counter after `k` more orphans (R44). -/
def orphansAfter (count k : Nat) : Nat := if k = 0 then count else min 65535 (count + k)

/-- A pending knife profile is present only while a hide is in SCAN_SPLIT or SPLITTING (R82). -/
def PendingKnifeSound (s : State) : Prop := s.track.pendingKnife ≠ none → anyConverting s = true

/-- A pending profile waits while a hide is in SCAN_SPLIT or SPLITTING after an event, and is applied, with
its notice, where none is (R84). -/
def PendingWaitsOrApplied (s t : State) : Prop :=
  ∀ k ∈ s.track.pendingKnife,
    if anyConverting t then t.track.pendingKnife = some k ∧ t.settings.knife = s.settings.knife
    else t.track.pendingKnife = none ∧ t.settings.knife = k ∧
      t.line.notices &&& LineNotice.knifeApplied.bit = LineNotice.knifeApplied.bit

/-- The changes of a pair of encoder lines that are one forward pulse, the levels as (A, B): 00 to 10, 10 to
11, 11 to 01 and 01 to 00 (R2). -/
def forwardChanges : List (Quad × Quad) :=
  [(⟨false, false⟩, ⟨true, false⟩), (⟨true, false⟩, ⟨true, true⟩), (⟨true, true⟩, ⟨false, true⟩),
   (⟨false, true⟩, ⟨false, false⟩)]

/-- The changes that are one reverse pulse: 00 to 01, 01 to 11, 11 to 10 and 10 to 00 (R2). -/
def reverseChanges : List (Quad × Quad) :=
  [(⟨false, false⟩, ⟨false, true⟩), (⟨false, true⟩, ⟨true, true⟩), (⟨true, true⟩, ⟨true, false⟩),
   (⟨true, false⟩, ⟨false, false⟩)]

/-- The hides that a flush or a PARK entry abandons have joined the completion order list, behind what stood
there and each behind one whose first strobe is not the newer; the cursor, the next hide number and the
reclaimed-report counter stand, and HIDE_ABANDONED is raised where there was such a hide (R61, R62). -/
def AbandonedJoined (s t : State) : Prop :=
  (∃ leaving : List HideRecord, leaving.Perm (s.hides.records.filter fun r => r.state.unfinished) ∧
    leaving.IsChain (fun a b => older b.first.num a.first.num = false) ∧
    t.hides.completion = s.hides.completion ++ leaving.map HideRecord.number) ∧
  t.hides = { s.hides with records := t.hides.records, completion := t.hides.completion } ∧
  t.line.notices &&& LineNotice.hideAbandoned.bit =
    (if anyUnfinished s then LineNotice.hideAbandoned.bit
     else s.line.notices &&& LineNotice.hideAbandoned.bit)

/-- The records after a flush or a PARK entry: an unfinished hide is ABANDONED with the cause, its range
closed, no slice of it in the track, and, where it was open, the newest entered strobe its last; a finished
record has its range closed. The rest of each record stands (R61, R198). -/
def EmptiedBy (cause : AbandonCause) (s t : State) : Prop :=
  t.hides.records = s.hides.records.map fun r =>
    if r.state = .done ∨ r.state = .abandoned then { r with rangeOpen := false }
    else { r with
      state := .abandoned
      cause := some cause
      rangeOpen := false
      inTrack := 0
      last := if r.state = .scanning ∨ r.state = .scanSplit then r.newestEntered else r.last }

/-- The response that a transfer of `n` bytes leaves unread in the transmit buffer: the one that waits there,
unless the whole of it was shifted out behind the bytes of `lead` (R28, R176). -/
def leftUnread (tx : Option Response) (n : Nat) (lead : Lead) : Option Response :=
  match tx with
  | some r => if lead.before + lead.shown + r.frame.length ≤ n then none else some r
  | none => none

/-- An unread-response counter where a response still unread is discarded by the taking of a frame (R28,
R176). -/
def unreadAfter (left : Option Response) (count : Nat) : Nat :=
  if left.isSome then min 65535 (count + 1) else count

/-- The present thicknesses of a slice: those of its readings below the active zone count (R56, R89). -/
def presentReadings (active : Nat) (sl : Slice) : List Nat :=
  (List.range active).filterMap fun z =>
    match (sl.readings.getD [])[z]? with
    | some (Reading.thickness t) => some t
    | some Reading.absent => none
    | some Reading.doubtful => none
    | none => none

/-- Item n of WRITE_ARTICLE's checks is met (the table of R157). -/
def ArticleItemMet (row : Nat) (a : Article) : Nat → Prop
  | 1 => row ≤ 31
  | 2 => 50 ≤ a.s ∧ a.s ≤ 600
  | 3 => 0 ≤ a.rmin ∧ a.rmin ≤ 300
  | 4 => 0 ≤ a.p0.t ∧ a.p0.t ≤ 3000
  | 5 => 0 ≤ a.p1.t ∧ a.p1.t ≤ 3000
  | 6 => 0 ≤ a.p2.t ∧ a.p2.t ≤ 3000
  | 7 => 0 ≤ a.p3.t ∧ a.p3.t ≤ 3000
  | 8 => 0 ≤ a.p4.t ∧ a.p4.t ≤ 3000
  | 9 => 0 ≤ a.p5.t ∧ a.p5.t ≤ 3000
  | 10 => a.p0.t < a.p1.t
  | 11 => a.p1.t < a.p2.t
  | 12 => a.p2.t < a.p3.t
  | 13 => a.p3.t < a.p4.t
  | 14 => a.p4.t < a.p5.t
  | 15 => -50 ≤ a.p0.a ∧ a.p0.a ≤ 150
  | 16 => -50 ≤ a.p1.a ∧ a.p1.a ≤ 150
  | 17 => -50 ≤ a.p2.a ∧ a.p2.a ≤ 150
  | 18 => -50 ≤ a.p3.a ∧ a.p3.a ≤ 150
  | 19 => -50 ≤ a.p4.a ∧ a.p4.a ≤ 150
  | 20 => -50 ≤ a.p5.a ∧ a.p5.a ≤ 150
  | _ => True

/-- Item n of SET_GEOMETRY's checks is met (the table of R162, and the cross-field items of R163). -/
def GeometryItemMet (g : Geometry) : Nat → Prop
  | 1 => 10 ≤ g.pitch ∧ g.pitch ≤ 500
  | 2 => 1000 ≤ g.distance ∧ g.distance ≤ 20000
  | 3 => 10 ≤ g.lead ∧ g.lead ≤ 20000
  | 4 => g.infeed ≤ 20000
  | 5 => 50 ≤ g.zoneWidth ∧ g.zoneWidth ≤ 400
  | 6 => 20 ≤ g.parkGap ∧ g.parkGap ≤ 900
  | 7 => 20 ≤ g.entryGap ∧ g.entryGap ≤ 900
  | 8 => 1 ≤ g.slew ∧ g.slew ≤ 200
  | 9 => 100 ≤ g.settle ∧ g.settle ≤ 5000
  | 10 => g.tolerance ≤ 200
  | 11 => 200 ≤ g.window ∧ g.window ≤ 5000
  | 12 => 1 ≤ g.slipLimit ∧ g.slipLimit ≤ 500
  | 13 => 5000 ≤ g.maxLength ∧ g.maxLength ≤ 60000
  | 14 => g.edgeTolerance ≤ 2000
  | 15 => 5 ≤ g.moveTimeout ∧ g.moveTimeout ≤ 2000
  | 16 => g.pitch ≤ g.lead
  | 17 => g.lead + g.pitch ≤ g.distance
  | 18 => g.distance ≤ 480 * g.pitch
  | _ => True

/-- The requests of the line port: the kinds 20 to 3E (R192). -/
def isLineRequest (c : Instr) : Bool :=
  match c.kindCode with
  | some k => PortName.line.takes k
  | none => false

/-! ## The records of chapter 10, byte place by byte place

Each predicate says what a list of bytes spells at the places that the layout gives. A number too large for
its field counts modulo the field's range; in the states that occur none is. -/

/-- The number that `width` bytes from `place` on spell, the most significant byte first (R190). -/
def valueAt (bytes : List Byte) (place width : Nat) : Nat :=
  ((bytes.drop place).take width).foldl (fun v b => 256 * v + b.toNat) 0

/-- A signed number as its two bytes spell it (R193). -/
def signedWord (i : Int) : Nat := (i % 65536).toNat

/-- The codes and the bits of R193 and R178. -/
def CodesAsListed : Prop :=
  [Status.ok, .badFrame, .unknownKind, .badValue, .wrongState, .locked, .late, .noSuchHide, .tableFull,
    .wakePending, .halted, .duplicate, .empty].map Status.code = [0, 1, 2, 3, 4, 5, 6, 7, 8, 9, 10, 11, 12] ∧
  [Phase.standby, .resuming, .run, .clearing, .braking, .dwell, .park, .halt].map Phase.code =
    [0, 1, 2, 3, 4, 5, 6, 7] ∧
  [RestTarget.dwell, .park].map RestTarget.code = [1, 2] ∧
  [StrapMode.profile, .fixed].map StrapMode.code = [0, 1] ∧
  [HideState.scanning, .scanSplit, .scanned, .splitting, .done, .abandoned].map HideState.code =
    [1, 2, 3, 4, 5, 6] ∧
  [AbandonCause.line, .reverse, .scale, .halt, .park].map AbandonCause.code = [1, 2, 3, 4, 5] ∧
  [ZoneMode.track, .manual, .fault, .off].map ZoneMode.code = [1, 2, 3, 4] ∧
  [Cause.track, .manual, .park, .entry].map Cause.code = [1, 2, 3, 4] ∧
  [Progress.waiting, .sent, .complete, .timedOut, .ended, .skipped, .held, .notTrack].map Progress.code =
    [1, 2, 3, 4, 5, 6, 7, 8] ∧
  [TxnKind.send, .poll, .clearPoll].map TxnKind.code = [1, 2, 3] ∧
  [WakeFlag.infeed, .gauge, .timer, .line].map WakeFlag.bit = [1, 2, 4, 8] ∧
  [GaugeNotice.syncRestart, .hideRefused, .sliceRefused, .orphan, .overrun].map GaugeNotice.bit =
    [1, 2, 4, 8, 16] ∧
  [LineNotice.hideDone, .hideAbandoned, .reportLost, .forcedEnd, .gaugeLost, .edge, .slip, .trimChanged,
    .syncLost, .syncLocked, .zoneLagging, .zoneFault, .restEntered, .restAborted, .wake, .halt,
    .knifeApplied, .overrun].map LineNotice.bit = (List.range 18).map fun i => BitVec.ofNat 18 (2 ^ i)

/-- An optional strobe: presence, number, position (R193). -/
def StrobeReads (x : Option StrobeId) (l : List Byte) (place : Nat) : Prop :=
  valueAt l place 1 = x.isSome.toNat ∧
  valueAt l (place + 1) 2 = (x.map fun n => n.num.toNat).getD 0 ∧
  valueAt l (place + 3) 4 = (x.map fun n => n.pos.toNat).getD 0

/-- The 71 bytes of READ_STATUS (R182). The remaining time of a running dwell timer is counted in whole
units passed since its start (log 22). -/
def StatusRecordReads (s : State) (l : List Byte) : Prop :=
  let locked := s.feed.sync = .locked
  valueAt l 0 4 = s.feed.f.toNat ∧ valueAt l 4 4 = s.feed.h.toNat ∧
  valueAt l 8 1 = (if locked then 1 else 2) ∧
  valueAt l 9 4 = (if locked then 0 else s.feed.settleStart.toNat) ∧
  valueAt l 13 2 = (if locked then s.feed.nextNum.toNat else 0) ∧
  valueAt l 15 4 = (if locked then s.feed.nextPos.toNat else 0) ∧
  StrobeReads s.feed.newest l 19 ∧
  valueAt l 26 1 = s.feed.slip.count % 256 ∧ valueAt l 27 1 = s.feed.trim % 256 ∧
  valueAt l 28 2 = s.feed.period % 65536 ∧ valueAt l 30 2 = s.feed.duty % 65536 ∧
  valueAt l 32 2 = min s.feed.duty (s.feed.period + 1) / 2 ^ s.feed.trim % 65536 ∧
  valueAt l 34 1 = (!s.ctl.phase.drives).toNat + 2 * s.pins.halt.toNat ∧
  valueAt l 35 1 = s.feed.capture.isSome.toNat ∧
  valueAt l 36 4 = (s.feed.capture.map BitVec.toNat).getD 0 ∧
  valueAt l 40 1 = s.feed.overwrite.toNat ∧
  valueAt l 41 1 = s.intake.list.length % 256 ∧
  valueAt l 42 2 = ((openHide s).map fun r => r.number.toNat).getD 0 ∧
  valueAt l 44 2 = s.hides.nextNumber.toNat ∧
  valueAt l 46 1 = s.hides.completion.length % 256 ∧
  valueAt l 47 1 = (s.hides.completion.length - s.hides.cursor) % 256 ∧
  valueAt l 48 2 = s.track.slices.length % 65536 ∧
  valueAt l 50 1 = s.track.pendingKnife.isSome.toNat ∧
  valueAt l 51 1 = s.ctl.phase.code.toNat ∧ valueAt l 52 1 = s.ctl.restTarget.code.toNat ∧
  valueAt l 53 1 = s.ctl.flags.toNat ∧ valueAt l 54 1 = s.ctl.enables.toNat ∧
  valueAt l 55 1 = s.ctl.dwell.running.toNat ∧
  valueAt l 56 2 = (if s.ctl.dwell.running then
    s.ctl.dwell.remaining - (s.now - s.ctl.dwell.start) / 100000 else s.ctl.dwell.remaining) % 65536 ∧
  valueAt l 58 1 = s.ctl.feedStop.toNat + 2 * s.pins.halt.toNat + 4 * s.pins.feedStill.toNat ∧
  valueAt l 59 1 = s.ctl.activeZones % 256 ∧ valueAt l 60 1 = s.ctl.strap.code.toNat ∧
  (∀ z, z < 16 → (valueAt l 61 2).testBit z = decide ((channel s z).mode = .fault) ∧
    (valueAt l 63 2).testBit z = (channel s z).lagging) ∧
  valueAt l 65 3 = s.line.notices.toNat ∧ valueAt l 68 3 = s.line.mask.toNat

/-- Nine bytes of a target record, zero where there is none (R195). -/
def TargetReads (x : Option Target) (l : List Byte) (place : Nat) : Prop :=
  match x with
  | some t =>
    valueAt l place 1 = 1 ∧ valueAt l (place + 1) 2 = signedWord t.gap ∧
    valueAt l (place + 3) 1 = t.cause.code.toNat ∧ valueAt l (place + 4) 1 = t.ref.isSome.toNat ∧
    valueAt l (place + 5) 2 = (t.ref.map fun r => r.strobe.toNat).getD 0 ∧
    valueAt l (place + 7) 2 = (t.ref.map fun r => r.hide.toNat).getD 0
  | none => valueAt l place 9 = 0

/-- The 32 bytes of a zone record (R130). An absent position is sent as zeros (log 34), the time since accept
in whole milliseconds (log 33), and an absent base as FFFF hex with hide tag 0 (log 15). -/
def ZoneRecordReads (now : Nat) (c : Channel) (l : List Byte) : Prop :=
  valueAt l 0 1 = c.mode.code.toNat ∧ valueAt l 1 1 = c.position.isSome.toNat ∧
  valueAt l 2 2 = (c.position.map BitVec.toNat).getD 0 ∧
  TargetReads c.slot l 4 ∧ TargetReads (c.flight.map Move.target) l 13 ∧
  valueAt l 22 2 = (c.flight.map fun m => min 65535 ((now - m.accepted) / 1000)).getD 0 ∧
  valueAt l 24 1 = c.misses % 256 ∧ valueAt l 25 1 = c.timeouts % 256 ∧
  valueAt l 26 1 = c.lagging.toNat + 2 * c.entryMark.toNat + 4 * c.clearPoll.toNat ∧
  valueAt l 27 1 = c.base.isSome.toNat ∧
  valueAt l 28 2 = (c.base.map fun b => signedWord b.gap).getD 0xFFFF ∧
  valueAt l 30 2 = (c.base.map fun b => b.hide.toNat).getD 0

/-- The five bytes of the link record (R130). A transaction that a RESET has abandoned is not on the link
(log 12). -/
def LinkRecordReads (s : State) (l : List Byte) : Prop :=
  valueAt l 0 1 = s.link.last % 256 ∧
  valueAt l 1 1 = (if s.ctl.phase = .halt then 3 else if s.link.txn.isSome then 2 else 1) ∧
  valueAt l 2 1 = s.link.txn.isSome.toNat ∧
  valueAt l 3 1 = (s.link.txn.map fun x => x.zone % 256).getD 0 ∧
  valueAt l 4 1 = (s.link.txn.map fun x => x.kind.code.toNat).getD 0

/-- Numbers of two bytes each, the first at `place`. -/
def WordsRead (ns : List Nat) (l : List Byte) (place : Nat) : Prop :=
  ∀ (k n : Nat), ns[k]? = some n → valueAt l (place + 2 * k) 2 = n % 65536

/-- Signed numbers of two bytes each, the first at `place`. -/
def SignedWordsRead (vs : List Int) (l : List Byte) (place : Nat) : Prop :=
  ∀ (k : Nat) (v : Int), vs[k]? = some v → valueAt l (place + 2 * k) 2 = signedWord v

/-- The 28 bytes of an article: S, Rmin, T0 to T5, A0 to A5. -/
def ArticleReads (a : Article) (l : List Byte) (place : Nat) : Prop :=
  SignedWordsRead [a.s, a.rmin, a.p0.t, a.p1.t, a.p2.t, a.p3.t, a.p4.t, a.p5.t,
    a.p0.a, a.p1.a, a.p2.a, a.p3.a, a.p4.a, a.p5.a] l place

/-- The 388 bytes of a hide report; the counts of zones at or above the active zone count are zero. -/
def HideReportReads (active : Nat) (r : HideRecord) (l : List Byte) : Prop :=
  valueAt l 0 2 = r.number.toNat ∧ valueAt l 2 2 = r.tag.toNat ∧ valueAt l 4 1 = r.state.code.toNat ∧
  valueAt l 5 1 = (r.cause.map fun c => c.code.toNat).getD 0 ∧ valueAt l 6 1 = r.row % 256 ∧
  ArticleReads r.article l 7 ∧
  valueAt l 35 1 = r.edge.isSome.toNat ∧ valueAt l 36 4 = (r.edge.map BitVec.toNat).getD 0 ∧
  valueAt l 40 2 = r.first.num.toNat ∧ valueAt l 42 4 = r.first.pos.toNat ∧
  valueAt l 46 1 = r.last.isSome.toNat ∧ valueAt l 47 2 = (r.last.map BitVec.toNat).getD 0 ∧
  WordsRead [r.sliceCount, r.gapCount, r.inTrack] l 49 ∧
  valueAt l 55 4 = r.area / 100 % 4294967296 ∧
  WordsRead [r.tMin.getD 0xFFFF, r.tMax.getD 0xFFFF] l 59 ∧
  valueAt l 63 4 = r.deviation % 4294967296 ∧
  valueAt l 67 1 = r.flags.edgeMismatch.toNat + 2 * r.flags.noEdge.toNat + 4 * r.flags.gaugeLost.toNat +
    8 * r.flags.forcedEnd.toNat + 16 * r.flags.manualInfluence.toNat + 32 * r.flags.slip.toNat ∧
  ∀ z, z < 16 →
    let c := if z < active then r.counts.getD z ZoneCounts.zero else ZoneCounts.zero
    WordsRead [c.residual, c.floor, c.ceiling, c.slewed, c.extended, c.onTime, c.late, c.skipped, c.held,
      c.notTrack] l (68 + 20 * z)

/-- The 16 bytes of the READ_TRACK header, for the number of summaries that follow. -/
def TrackHeaderReads (summaries : Nat) (s : State) (l : List Byte) : Prop :=
  valueAt l 0 2 = s.track.slices.length % 65536 ∧ valueAt l 2 4 = s.track.readCount % 4294967296 ∧
  valueAt l 6 4 = s.track.gapCount % 4294967296 ∧ valueAt l 10 4 = s.track.flushedCount % 4294967296 ∧
  valueAt l 14 1 = s.track.pendingKnife.isSome.toNat ∧ valueAt l 15 1 = summaries % 256

/-- The 58 bytes of a slice summary; a zone without a result shows FFFF hex and outcome 0. -/
def SummaryReads (sl : Slice) (l : List Byte) : Prop :=
  valueAt l 0 2 = sl.strobe.toNat ∧ valueAt l 2 4 = sl.pos.toNat ∧ valueAt l 6 2 = sl.hide.toNat ∧
  valueAt l 8 1 = (if sl.readings.isSome then 1 else 2) ∧
  valueAt l 9 1 = (if sl.stage = .entered then 1 else 2) ∧
  ∀ z, z < 16 →
    valueAt l (10 + 3 * z) 2 = ((sl.results[z]?.bind ZoneResult.target).map signedWord).getD 0xFFFF ∧
    valueAt l (12 + 3 * z) 1 = (sl.results[z]?.map fun o => o.progress.code.toNat).getD 0

/-- The 101 bytes of READ_SETTINGS, the geometry in the order of R162 (R170). -/
def SettingsRecordReads (s : State) (l : List Byte) : Prop :=
  let g := s.settings.geometry
  WordsRead [g.pitch, g.distance, g.lead, g.infeed, g.zoneWidth, g.parkGap, g.entryGap, g.slew, g.settle,
    g.tolerance, g.window, g.slipLimit, g.maxLength, g.edgeTolerance, g.moveTimeout, s.settings.scale,
    s.settings.dwellTime] l 0 ∧
  valueAt l 34 1 = s.settings.locked.toNat ∧ valueAt l 35 1 = s.settings.current % 256 ∧
  (∀ z, z < 16 → valueAt l (36 + 2 * z) 2 = signedWord (s.settings.knife.getD z 0)) ∧
  valueAt l 68 1 = s.track.pendingKnife.isSome.toNat ∧
  ∀ z, z < 16 → valueAt l (69 + 2 * z) 2 =
    (s.track.pendingKnife.map fun k => signedWord (k.getD z 0)).getD 0

/-- The 13 bytes of the gauge status record (R40). -/
def GaugeStatusReads (s : State) (l : List Byte) : Prop :=
  valueAt l 0 1 = (if s.feed.sync = .locked then 1 else 2) ∧ StrobeReads s.feed.newest l 1 ∧
  valueAt l 8 1 = s.intake.list.length % 256 ∧
  valueAt l 9 2 = ((openHide s).map fun r => r.number.toNat).getD 0 ∧
  valueAt l 11 1 = s.intake.notices.toNat ∧ valueAt l 12 1 = s.intake.mask.toNat

/-- The six bytes of GAUGE_SETUP (R41). -/
def GaugeSetupReads (s : State) (l : List Byte) : Prop :=
  valueAt l 0 1 = s.ctl.activeZones % 256 ∧
  WordsRead [s.settings.geometry.pitch, s.settings.geometry.zoneWidth] l 1 ∧
  valueAt l 5 1 = s.ctl.strap.code.toNat

end Sys2Proof.Machine
end

