-- ==== Sys2Proof/Certificates/Slice0/Obligations.lean ====
section
/-! DEFINITION. The statements for the provers: what the commands and the part as a whole do, by the
numbered rules of the manual. -/

section
open Sys2Proof Sys2Proof.Machine
open Host (Outcome)

/-! ## The queue and the step -/

/-- A step takes the command at the front of the queue and runs it with the queue's rest. -/
def Obligations.StepTakesTheFrontCommand : Prop :=
  ∀ (c : Instr) (rest : List Instr) (s : State), s.pending = c :: rest →
    step s = exec c { s with pending := rest }

/-- Every step answers a next state: no command stops the part. A command leaves the queue's rest as it was
and, but for a power-on reset, never turns the time back. With an empty queue one microsecond passes, and
the part's timers that have reached their ends by then take their events: the dwell timer (R149), the move
timeouts (R118), the reply window (R112, R117), the window of an abandoned transaction (R131) and the period
and high part of FEED REF (R19); where none has, only the time changes. That an empty queue lets the time
pass, and the order of the timers, are the model's choice (log 3); so are the end of the dwell timer with
its last whole unit of 100 ms (log 22) and the periods of FEED REF that go on while it is gated, each
latching c = 0 (log 28). -/
def Obligations.EveryStepAnswersNext : Prop :=
  ∀ s : State, ∃ t, step s = .next t ∧ t.pending = s.pending.tail ∧
    ((∀ pins rest, s.pending ≠ .powerOnReset pins :: rest) → s.now ≤ t.now) ∧
    (s.pending = [] → t.now = s.now + 1 ∧
      let dwellEnds : Prop := s.ctl.dwell.running = true ∧
        s.ctl.dwell.start + s.ctl.dwell.remaining * 100000 ≤ s.now + 1
      let highEnds : Prop := s.feed.ref.high = true ∧ s.feed.ref.count < s.feed.ref.period + 1 ∧
        s.feed.ref.start + s.feed.ref.count ≤ s.now + 1
      (dwellEnds → t.ctl.dwell.running = false ∧ t.ctl.flags = s.ctl.flags ||| WakeFlag.timer.bit) ∧
      (¬ dwellEnds → t.ctl.flags = s.ctl.flags) ∧
      (∀ z m, z < 16 → (channel s z).flight = some m → m.deadline ≤ s.now + 1 →
        (channel t z).flight = none ∧ (channel t z).lagging = true ∧
        (channel t z).timeouts = (channel s z).timeouts + 1 ∧
        t.line.notices &&& LineNotice.zoneLagging.bit = LineNotice.zoneLagging.bit) ∧
      (∀ x ∈ s.link.txn, x.start + 400 ≤ s.now + 1 → (∀ y ∈ t.link.txn, y.start = s.now + 1) ∧
        (x.zone < s.zones.length → (channel s x.zone).mode.inService = true →
          (channel s x.zone).flight = none → (channel t x.zone).misses = (channel s x.zone).misses + 1)) ∧
      (∀ x ∈ s.link.txn, s.now + 1 < x.start + 400 →
        t.link.txn.map (fun y => (y.zone, y.kind, y.start)) = some (x.zone, x.kind, x.start)) ∧
      (∀ start ∈ s.link.abandoned,
        t.link.abandoned = if start + 400 ≤ s.now + 1 then none else some start) ∧
      (s.feed.ref.start + s.feed.ref.period + 1 ≤ s.now + 1 → t.feed.ref =
        let c := if gateClosed t then 0
          else min s.feed.duty (s.feed.period + 1) / 2 ^ s.feed.trim
        { period := s.feed.period, count := c, start := s.now + 1, high := decide (0 < c),
          gated := gateClosed t }) ∧
      (s.now + 1 < s.feed.ref.start + s.feed.ref.period + 1 → highEnds → t.ctl.phase = s.ctl.phase →
        t.feed.ref = { s.feed.ref with high := false }) ∧
      (¬ dwellEnds → (∀ z, z < 16 → ∀ m ∈ (channel s z).flight, s.now + 1 < m.deadline) →
        (∀ x ∈ s.link.txn, s.now + 1 < x.start + 400) →
        (∀ start ∈ s.link.abandoned, s.now + 1 < start + 400) →
        s.now + 1 < s.feed.ref.start + s.feed.ref.period + 1 → ¬ highEnds →
        t = { s with now := s.now + 1 }))

/-! ## Frames -/

/-- A request's frame, after bytes that hold no start byte and before any others, is read back as that
request at the port that takes its kind, and is of unknown kind at the other port; the frame ends at its
extent, whatever follows (R190 to R194, R173). -/
def Obligations.RequestFramesAreReadBack : Prop :=
  ∀ (c : Instr) (k : BitVec 8) (frame before after : List (BitVec 8)) (port : PortName),
    c.wellFormed = true → (∀ n rs, c = .slice n rs → rs.length ≤ 16) →
    c.kindCode = some k → c.frame = some frame → requestStart ∉ before →
    port.examine (before ++ frame ++ after) =
      (if port.takes k then .request c else .unknownKind k) ∧
    frameExtent (before ++ frame ++ after) = frame

/-- A request's frame cut short after its kind byte, or with two other bytes in the place of its CRC, is a
bad frame of that kind at both ports; cut short before its kind byte it has no kind (R191). -/
def Obligations.DamagedFramesAreBad : Prop :=
  ∀ (c : Instr) (k : BitVec 8) (frame : List (BitVec 8)) (port : PortName),
    c.wellFormed = true → (∀ n rs, c = .slice n rs → rs.length ≤ 16) →
    c.kindCode = some k → c.frame = some frame →
    port.examine (frame.take 1) = .noKind ∧
    (∀ n, 2 ≤ n → n < frame.length → port.examine (frame.take n) = .badFrame k) ∧
    ∀ x y : BitVec 8, frame.drop (frame.length - 2) ≠ [x, y] →
      port.examine (frame.take (frame.length - 2) ++ [x, y]) = .badFrame k

/-- The frames of a drive are found among the bytes on ZRX, behind bytes that are no start byte (R196,
R197). -/
def Obligations.DriveFramesAreReadBack : Prop :=
  ∀ (zone flags : BitVec 8) (position : BitVec 16) (noise rest : List (Option (BitVec 8))),
    some (0x3C : BitVec 8) ∉ noise →
    driveFrames (noise ++ ((0x3C :: ([zone, 0x81, flags] ++ be16 (crc16 [zone, 0x81, flags]))).map some)
        ++ rest) = .accept zone flags :: driveFrames rest ∧
    driveFrames (noise ++ ((0x3C :: (([zone, 0x82] ++ be16 position ++ [flags])
          ++ be16 (crc16 ([zone, 0x82] ++ be16 position ++ [flags])))).map some) ++ rest)
      = .status zone position flags :: driveFrames rest

/-! ## Invariants that every step keeps -/

/-- FEED-STOP and the gate of FEED REF agree with the machine state and the HALT input (R20, R132). -/
def Obligations.FeedGateAgreementIsKept : Prop :=
  ∀ s t : State, FeedGateAgrees s → step s = .next t → FeedGateAgrees t

/-- The settings and the feed unit's counts stay within their ranges (R3, R156, R161, R162). -/
def Obligations.SettingsAndCountsStayInRange : Prop :=
  ∀ s t : State, SettingsSound s → FeedCountsSound s → step s = .next t →
    SettingsSound t ∧ FeedCountsSound t

/-- The outstanding strobe list never holds more than sixteen entries, its numbers are consecutive, and its
head lacks a reply (R8, R31, R32). -/
def Obligations.OutstandingListStaysSound : Prop :=
  ∀ s t : State, OutstandingSound s → step s = .next t → OutstandingSound t

/-- At most eight records, distinct numbers, at most one hide open, the completion order list holding the
finished records and the cursor within it (R46, R49, R62). With them the track and the hide table stay in
agreement: the strobes held belong to one numbering and come oldest first, every slice belongs to an
unfinished hide, and each record counts its slices (R55, R58, R69 to R72); so the slices stand in strictly
increasing position and never number more than 480 (R70). -/
def Obligations.HideTableStaysSound : Prop :=
  ∀ s t : State, HideTableSound s → step s = .next t → HideTableSound t ∧
    (SettingsSound s → OutstandingSound s → RestEmpty s → TrackSound s →
      TrackSound t ∧ (t.track.slices.map fun sl => pastBy t sl.pos).Pairwise (fun a b => b < a) ∧
        t.track.slices.length ≤ 480)

/-- Every target sent to a zone drive lies between 20 h and 900 h inclusive (R114). -/
def Obligations.TargetsStayBetweenFloorAndCeiling : Prop :=
  ∀ s t : State, GapsBounded s → step s = .next t → GapsBounded t

/-- The modes, marks and counts of the channels stay in agreement, and RESUMING lasts just while a channel
holds an entry mark (R108, R117 to R119, R121, R139). -/
def Obligations.ChannelsStaySound : Prop :=
  ∀ s t : State, ChannelsSound s → step s = .next t → ChannelsSound t

/-- The link is never left idle while a channel has a request, HALT apart (R111). -/
def Obligations.LinkIsNeverLeftIdle : Prop :=
  ∀ s t : State, ChannelsSound s → LinkNeverIdles s → step s = .next t → LinkNeverIdles t

/-- Outside the states that issue strobes nothing is outstanding, in the track or unfinished, and in HALT
the channels are still (R80, R81, R90, R123). -/
def Obligations.RestAndHaltStayStill : Prop :=
  ∀ s t : State, ChannelsSound s → RestEmpty s → HaltStill s → step s = .next t →
    RestEmpty t ∧ HaltStill t

/-- In strap mode FIXED the gauge notices stay clear, no record is in use, no slice is in the track and no
zone is in TRACK (R43, R68, R153). -/
def Obligations.FixedModeStaysQuiet : Prop :=
  ∀ s t : State, FixedQuiet s → step s = .next t → FixedQuiet t

/-- The machine right after reset is sound in every one of these respects. -/
def Obligations.ResetStateIsSound : Prop :=
  FeedGateAgrees State.reset ∧ SettingsSound State.reset ∧ FeedCountsSound State.reset ∧
    OutstandingSound State.reset ∧ HideTableSound State.reset ∧ GapsBounded State.reset ∧
    TrackSound State.reset ∧ PendingKnifeSound State.reset ∧ ChannelsSound State.reset ∧
    LinkNeverIdles State.reset ∧ RestEmpty State.reset ∧ HaltStill State.reset ∧ FixedQuiet State.reset

/-! ## Rules over all commands -/

/-- No command but CLEAR_WAKE and the resets clears a wake flag (R133), none but CLEAR_NOTICES and the
resets a line notice (R178), and none but CLEAR_GAUGE_NOTICES and the resets a gauge notice (R29); the two
masks change by the same requests alone. -/
def Obligations.FlagsAndNoticesStayUntilCleared : Prop :=
  ∀ (c : Instr) (s t : State), exec c s = .next t → (∀ pins, c ≠ .powerOnReset pins) → c ≠ .reset →
    ((∀ named, c ≠ .clearWake named) → s.ctl.flags &&& t.ctl.flags = s.ctl.flags) ∧
    ((∀ named mask, c ≠ .clearNotices named mask) →
      s.line.notices &&& t.line.notices = s.line.notices ∧ t.line.mask = s.line.mask) ∧
    ((∀ named mask, c ≠ .clearGaugeNotices named mask) →
      s.intake.notices &&& t.intake.notices = s.intake.notices ∧ t.intake.mask = s.intake.mask)

/-- The machine state moves only as the table of transitions lists, each transition at its own event
(chapter 07): HALT is entered by the assertion of HALT or a reset alone, and left by CLEAR with the input
released or a reset alone; a rest ends only where a wake source makes the wake condition hold (R134), is
entered from BRAKING only at FEED-STILL (R143), and CLEARING is passed only with the knife clear (R142);
RESUMING is passed only where no channel holds an entry mark (R139). -/
def Obligations.MachineStateMovesOnlyAsListed : Prop :=
  ∀ (c : Instr) (s t : State), exec c s = .next t →
    match c with
    | .powerOnReset pins => t.ctl.phase = if pins.halt then .halt else .standby
    | .reset => t.ctl.phase = if s.pins.halt then .halt else .standby
    | .haltAsserted => t.ctl.phase = .halt
    | .start => t.ctl.phase = s.ctl.phase ∨
        (s.ctl.phase = .standby ∧ s.pins.halt = false ∧
          (t.ctl.phase = .resuming ∨ t.ctl.phase = .run))
    | .rest code => t.ctl.phase = s.ctl.phase ∨
        (s.ctl.phase = .run ∧ s.ctl.wakeHolds = false ∧
          ((code = 1 ∧ t.ctl.phase = braked s .dwell) ∨
            (code = 2 ∧ (t.ctl.phase = .clearing ∨ t.ctl.phase = braked s .park))))
    | .clear => t.ctl.phase = s.ctl.phase ∨
        (s.ctl.phase = .halt ∧ s.pins.halt = false ∧ t.ctl.phase = .standby)
    | .infeedEdge | .wakeRequest | .wake | .wakeEnable _ | .dwellTimerExpiry =>
        t.ctl.phase = s.ctl.phase ∨ (s.ctl.wakeHolds = false ∧ t.ctl.wakeHolds = true ∧
          wakeLeads s.ctl.phase t.ctl.phase = true)
    | .feedStillAsserted => t.ctl.phase = s.ctl.phase ∨
        (s.ctl.phase = .braking ∧ t.ctl.phase = restPhase s.ctl.restTarget)
    | .accept _ _ | .statusReply _ _ _ | .miss | .zoneLinkFrameIgnored _ | .moveTimeout _ | .zoneMode _ _ =>
        t.ctl.phase = s.ctl.phase ∨
          (s.ctl.phase = .resuming ∧ t.ctl.phase = .run ∧ anyEntryMark t = false)
    | .bottomPulse _ _ _ | .endHide _ | .gaugeReset | .abandon _ | .setScale _ =>
        t.ctl.phase = s.ctl.phase ∨ (s.ctl.phase = .clearing ∧ anyUnfinished t = false ∧
          t.track.slices = [] ∧ t.ctl.phase = braked s s.ctl.restTarget)
    | _ => t.ctl.phase = s.ctl.phase

/-- A setting changes by its own request or a reset alone, but for a pending knife profile that becomes the
applied one (R84, R158); the straps are sampled by a power-on reset alone (R153); while the lock is set the
geometry, the scale and the lock stand until a power-on reset (R166). -/
def Obligations.SettingsChangeByTheirRequestsAlone : Prop :=
  ∀ (c : Instr) (s t : State), exec c s = .next t → (∀ pins, c ≠ .powerOnReset pins) →
    t.ctl.activeZones = s.ctl.activeZones ∧ t.ctl.strap = s.ctl.strap ∧
    (s.settings.locked = true → t.settings.locked = true ∧
      t.settings.geometry = s.settings.geometry ∧ t.settings.scale = s.settings.scale) ∧
    ((∀ row a, c ≠ .writeArticle row a) → t.settings.articles = s.settings.articles) ∧
    ((∀ row, c ≠ .selectArticle row) → c ≠ .reset → t.settings.current = s.settings.current) ∧
    ((∀ k, c ≠ .writeKnife k) → t.settings.knife = s.settings.knife ∨
      s.track.pendingKnife = some t.settings.knife) ∧
    ((∀ g, c ≠ .setGeometry g) → t.settings.geometry = s.settings.geometry) ∧
    ((∀ v, c ≠ .setScale v) → t.settings.scale = s.settings.scale) ∧
    ((∀ v, c ≠ .setDwell v) → t.settings.dwellTime = s.settings.dwellTime) ∧
    (c ≠ .lockGeometry → t.settings.locked = s.settings.locked)

/-- Strobes are issued only by a pulse of the bottom encoder, in RUN, CLEARING, BRAKING or DWELL (R12); the
model counts the pulses of SCAN STROBE (log 18). -/
def Obligations.StrobesAreIssuedOnlyWherePermitted : Prop :=
  ∀ (c : Instr) (s t : State), exec c s = .next t → (∀ pins, c ≠ .powerOnReset pins) →
    t.feed.strobePulses ≠ s.feed.strobePulses →
    (∃ a b order, c = .bottomPulse a b order) ∧ s.ctl.phase.permitsStrobes = true ∧
      s.feed.strobePulses < t.feed.strobePulses

/-- All conversions of one hide use the same knife profile: while a hide stays in SCAN_SPLIT or SPLITTING
the applied profile does not change. A pending profile is present only while a hide is in those states
(R82); when the last hide leaves them it becomes the applied profile, with KNIFE_APPLIED (R84), but for the
resets, of which RESET applies it without the notice (R171). -/
def Obligations.OneKnifeProfilePerHide : Prop :=
  (∀ (c : Instr) (s t : State) (r r' : HideRecord), (s.hides.records.map HideRecord.number).Nodup →
    exec c s = .next t → r ∈ s.hides.records → r' ∈ t.hides.records → r'.number = r.number →
    r.state.converting = true → r'.state.converting = true → t.settings.knife = s.settings.knife) ∧
  ∀ s t : State, HideTableSound s → SettingsSound s → OutstandingSound s → RestEmpty s → TrackSound s →
    PendingKnifeSound s → step s = .next t → PendingKnifeSound t ∧
      ((∀ pins rest, s.pending ≠ .powerOnReset pins :: rest) → ∀ k ∈ s.track.pendingKnife,
        t.track.pendingKnife = none → t.settings.knife = k ∧
          ((∀ rest, s.pending ≠ .reset :: rest) →
            t.line.notices &&& LineNotice.knifeApplied.bit = LineNotice.knifeApplied.bit))

/-- A hide's article snapshot changes only while the hide is SCANNING or SCANNED (R57). -/
def Obligations.SnapshotIsFixedOnceConverted : Prop :=
  ∀ (c : Instr) (s t : State) (r r' : HideRecord), HideTableSound s → exec c s = .next t →
    r ∈ s.hides.records → r' ∈ t.hides.records → r'.number = r.number →
    r.state ≠ .scanning → r.state ≠ .scanned → r'.article = r.article ∧ r'.row = r.row

/-- The report of a finished record, which has no slice in the track, does not change as long as the record
is in use (R65). -/
def Obligations.FinishedReportsDoNotChange : Prop :=
  ∀ (c : Instr) (s t : State) (r r' : HideRecord), HideTableSound s → exec c s = .next t →
    r ∈ s.hides.records → r' ∈ t.hides.records → r'.number = r.number →
    r.state.unfinished = false → (∀ sl ∈ s.track.slices, sl.hide ≠ r.number) →
    ∀ active, hideReport active r' = hideReport active r

/-- Outside the reset hold every line request is answered in its own kind, and a refused one changes nothing
but its port (R174, R180). The answer to a request of either port waits in the port, and its frame has had
its event; in the reset hold the answer is discarded (R177). -/
def Obligations.RefusedLineRequestsChangeNothing : Prop :=
  (∀ (k : BitVec 8) (st : Status) (fields : List (BitVec 8)) (s : State),
    answerGauge k st fields s = { s with intake := { s.intake with port := { s.intake.port with
      rx := s.intake.port.rx.map fun f => { f with acted := true }
      answer := some { kind := k, status := st, fields := fields } } } } ∧
    answerLine k st fields s = { s with line := { s.line with port := { s.line.port with
      rx := s.line.port.rx.map fun f => { f with acted := true }
      answer := if s.line.hold then s.line.port.answer
        else some { kind := k, status := st, fields := fields } } } }) ∧
  (∀ (c : Instr) (s t : State), isLineRequest c = true → c ≠ .reset → s.line.hold = true →
    exec c s = .next t → t.line.port.answer = s.line.port.answer) ∧
  ∀ (c : Instr) (s t : State), isLineRequest c = true → s.line.hold = false → exec c s = .next t →
    ∃ r : Response, t.line.port.answer = some r ∧ c.kindCode = some r.kind ∧
      (r.status ≠ .ok → t = { s with line := { s.line with port := s.line.port.answerWith r } })

/-! ## Resets -/

/-- A power-on reset leaves every block at its power-on values, the straps sampled, and the machine in
STANDBY, or in HALT with the HALT notice where the input is asserted (R23, R45, R68, R88, R131, R153, R154,
R171, R188): the article rows at the factory values (R156), the geometry at its defaults (R162). The model's
own: the dwell timer's remaining time of 0 (log 35) and the record of SDO, which begins anew (logs 18 and
36). -/
def Obligations.PowerOnResetLeavesThePowerOnValues : Prop :=
  ∀ (pins : PinLevels) (s : State), ∃ t, exec (.powerOnReset pins) s = .next t ∧
    t.pending = s.pending ∧ t.pins = ⟨pins.halt, pins.feedStill⟩ ∧
    (t.feed.botAcc = 0 ∧ t.feed.topAcc = 0 ∧ t.feed.f = 0 ∧ t.feed.h = 0 ∧ t.feed.sync = .locked ∧
      t.feed.settleStart = 0 ∧ syncOutput t = true ∧
      t.feed.nextNum = 0 ∧ t.feed.nextPos = 100 ∧ t.feed.newest = none ∧ t.feed.slip = ⟨0, 0, 0⟩ ∧
      t.feed.trim = 0 ∧ t.feed.period = 999 ∧ t.feed.duty = 0 ∧ t.feed.ref.gated = true ∧
      t.feed.ref.high = false ∧ t.feed.capture = none ∧ t.feed.overwrite = false ∧
      t.feed.botRef = ⟨pins.botA, pins.botB⟩ ∧ t.feed.topRef = ⟨pins.topA, pins.topB⟩) ∧
    t.intake =
      { port := { rdy := true, rx := none, answer := none, tx := none, cut := none, sdo := [] }
        list := [], notices := 0, mask := 0, overrun := 0, badFrame := 0, unread := 0, late := 0,
        duplicate := 0, orphan := 0, refusedAnnounce := 0 } ∧
    t.hides = { records := [], completion := [], cursor := 0, nextNumber := 1, reclaimed := 0 } ∧
    t.track = { slices := [], pendingKnife := none, readCount := 0, gapCount := 0, flushedCount := 0 } ∧
    t.link = { last := 15, txn := none, abandoned := none } ∧
    t.settings =
      { articles := List.replicate 32
          { s := 180, rmin := 60, p0 := ⟨200, 10⟩, p1 := ⟨300, 14⟩, p2 := ⟨400, 20⟩, p3 := ⟨500, 24⟩,
            p4 := ⟨600, 26⟩, p5 := ⟨800, 30⟩ }
        current := 0
        knife := [0, 0, 0, 0, 0, 0, 0, 0, 0, 0, 0, 0, 0, 0, 0, 0]
        geometry :=
          { pitch := 100, distance := 10000, lead := 300, infeed := 3000, zoneWidth := 187,
            parkGap := 800, entryGap := 200, slew := 10, settle := 500, tolerance := 30, window := 1000,
            slipLimit := 20, maxLength := 45000, edgeTolerance := 150, moveTimeout := 150 }
        scale := 200, dwellTime := 600, locked := false } ∧
    (∀ z, z < 16 → channel t z =
      { mode := if z < (if pins.mode0 then 16 else 12) then (if pins.mode1 then .manual else .track)
          else .off
        position := none, slot := none, flight := none, misses := 0, timeouts := 0, lagging := false,
        entryMark := false, clearPoll := false, base := none }) ∧
    (t.ctl.phase = (if pins.halt then .halt else .standby) ∧ t.ctl.restTarget = .dwell ∧
      t.ctl.flags = 0 ∧ t.ctl.enables = WakeFlag.line.bit ∧ t.ctl.dwell.running = false ∧
      t.ctl.dwell.remaining = 0 ∧ t.ctl.feedStop = true ∧
      t.ctl.activeZones = (if pins.mode0 then 16 else 12) ∧
      t.ctl.strap = (if pins.mode1 then .fixed else .profile)) ∧
    t.line.notices = (if pins.halt then LineNotice.halt.bit else 0) ∧ t.line.mask = 0 ∧
    t.line.port = { rdy := true, rx := none, answer := none, tx := none, cut := none, sdo := [] } ∧
    t.line.hold = false ∧ t.line.overrun = 0 ∧ t.line.badFrame = 0 ∧
    t.line.unread = 0

/-- RESET returns every block to its reset values and keeps the straps and the stored settings; a pending
knife profile becomes the applied one (R23, R45, R68, R88, R131, R154, R171, R185, R188). The gauge port is
emptied with RDY high, but for a request that still waits for its event, which stays (log 25); a transaction
on the link is abandoned, its reply window running on. The response waits to be placed, with SYNC held low
until then. The model's choices: the dwell timer's remaining time of 0 (log 35), the period of FEED REF in
progress (log 28), the count of strobe pulses and the record of SDO, which stay (log 18), and the response
emptied out of a transmit buffer, kept for that record (log 36). -/
def Obligations.ResetReturnsTheBlocksAndKeepsTheSettings : Prop :=
  ∀ s : State, ∃ t, exec .reset s = .next t ∧ t.pending = s.pending ∧ t.now = s.now ∧ t.pins = s.pins ∧
    t.settings = { s.settings with
      current := 0
      knife := s.track.pendingKnife.getD s.settings.knife } ∧
    t.feed =
      { botRef := s.feed.botRef, topRef := s.feed.topRef, botAcc := 0, topAcc := 0, f := 0, h := 0,
        sync := .locked, settleStart := 0, nextNum := 0,
        nextPos := BitVec.ofNat 32 s.settings.geometry.pitch, newest := none, slip := ⟨0, 0, 0⟩,
        trim := 0, period := 999, duty := 0,
        ref := { period := 999, count := 0, start := s.now, high := false, gated := true },
        capture := none, overwrite := false, syncHeld := true, strobePulses := s.feed.strobePulses } ∧
    syncOutput t = false ∧
    t.intake =
      { port := if s.intake.port.rx.any (fun f => !f.acted) then
            { s.intake.port with
              answer := none, tx := none, cut := s.intake.port.tx.or s.intake.port.cut }
          else { rdy := true, rx := none, answer := none, tx := none,
                 cut := s.intake.port.tx.or s.intake.port.cut, sdo := s.intake.port.sdo }
        list := [], notices := 0, mask := 0, overrun := 0, badFrame := 0, unread := 0, late := 0,
        duplicate := 0, orphan := 0, refusedAnnounce := 0 } ∧
    t.hides = { records := [], completion := [], cursor := 0, nextNumber := 1, reclaimed := 0 } ∧
    t.track = { slices := [], pendingKnife := none, readCount := 0, gapCount := 0, flushedCount := 0 } ∧
    t.zones.length = 16 ∧
    (∀ z, z < 16 → channel t z =
      { mode := if z < s.ctl.activeZones then (if s.ctl.strap = .fixed then .manual else .track) else .off
        position := none, slot := none, flight := none, misses := 0, timeouts := 0, lagging := false,
        entryMark := false, clearPoll := false, base := none }) ∧
    t.link = { last := 15, txn := none,
               abandoned := match s.link.txn with
                 | some x => some x.start
                 | none => s.link.abandoned } ∧
    t.ctl = { phase := if s.pins.halt then .halt else .standby, restTarget := .dwell, flags := 0,
              enables := WakeFlag.line.bit, dwell := { running := false, remaining := 0, start := 0 },
              feedStop := true, activeZones := s.ctl.activeZones, strap := s.ctl.strap } ∧
    t.line =
      { port := { s.line.port with
          rx := if s.line.hold then s.line.port.rx else s.line.port.rx.map fun f => { f with acted := true }
          tx := none
          cut := s.line.port.tx.or s.line.port.cut
          answer := some
            { kind := 0x3E, status := .ok,
              fields := [t.ctl.phase.code] ++ nat8 s.ctl.activeZones ++ [s.ctl.strap.code] } }
        hold := s.line.hold, notices := if s.pins.halt then LineNotice.halt.bit else 0, mask := 0,
        overrun := 0, badFrame := 0, unread := 0 }

/-! ## Encoders, strobes and slip (01) -/

/-- A pulse of the bottom encoder moves F by as many counts as the scale arithmetic gives, and the
accumulator stays from 0 to scale − 1 (R2, R3): forward for the changes 00 to 10, 10 to 11, 11 to 01 and 01
to 00 of (A, B), back for the same changes the other way; a change of both lines only sets the reference. -/
def Obligations.BottomPulseCountsInF : Prop :=
  ∀ (a b : Bool) (order : List RiseEvent) (s : State), s.feed.botAcc < s.settings.scale →
    ∃ t, exec (.bottomPulse a b order) s = .next t ∧ t.feed.botRef = ⟨a, b⟩ ∧
      t.feed.topRef = s.feed.topRef ∧ t.feed.topAcc = s.feed.topAcc ∧ t.settings.scale = s.settings.scale ∧
      t.feed.botAcc < s.settings.scale ∧
      if (s.feed.botRef, ⟨a, b⟩) ∈ forwardChanges then
        ∃ n : Nat, t.feed.f = s.feed.f + BitVec.ofNat 32 n ∧
          s.feed.botAcc + 100 = n * s.settings.scale + t.feed.botAcc
      else if (s.feed.botRef, ⟨a, b⟩) ∈ reverseChanges then
        ∃ n : Nat, t.feed.f = s.feed.f - BitVec.ofNat 32 n ∧
          s.feed.botAcc + n * s.settings.scale = t.feed.botAcc + 100
      else t = { s with feed := { s.feed with botRef := ⟨a, b⟩ } }

/-- A forward pulse that makes one rise of H: in LOCKED a strobe is issued where H reaches the next strobe
position and the machine state permits it (R12); where it does not, the next strobe position stays one pitch
ahead (R13). In CLEARING, where another event at this count may change the machine state, the strobe's own
event is the first, named so or none named; the order is the command's operand (the model's choice, log 2).
The strobe joins the outstanding list at its tail; at sixteen entries the head is forced out first, as a
departure, and those behind it that hold replies follow (R31). -/
def Obligations.RiseOfHIssuesTheStrobeDue : Prop :=
  (∀ s : State, s.feed.sync = .locked → s.ctl.phase.permitsStrobes = true →
    reaches s.feed.h s.feed.nextPos = true →
    let new : Entry := { num := s.feed.nextNum, pos := s.feed.nextPos, reply := none }
    (s.intake.list.length < 16 → (riseStrobe s).intake = { s.intake with list := s.intake.list ++ [new] } ∧
      (riseStrobe s).track = s.track ∧ (riseStrobe s).hides = s.hides) ∧
    ∀ e rest, s.intake.list = e :: rest → 16 ≤ s.intake.list.length →
      (∃ k, (riseStrobe s).intake.list = rest.drop k ++ [new] ∧
        (∀ d ∈ rest.take k, d.reply.isSome = true) ∧ ∀ d ∈ (rest.drop k).head?, d.reply = none) ∧
      ∀ r, memberOf e.num s.hides.records = some r → r.state.unfinished = true →
        (riseStrobe s).track.slices[s.track.slices.length]? = some
          { strobe := e.num, pos := e.pos, hide := r.number, readings := e.reply, stage := .entered,
            results := [] }) ∧
  ∀ (a b : Bool) (order : List RiseEvent) (s : State),
    (s.feed.botRef, ⟨a, b⟩) ∈ forwardChanges →
    s.settings.scale ≤ s.feed.botAcc + 100 ∧ s.feed.botAcc + 100 < 2 * s.settings.scale →
    0 < posDiff s.feed.h (s.feed.f + 1) → s.feed.sync = .locked →
    (s.ctl.phase ≠ .clearing ∨ order = [] ∨ order.head? = some .strobe) →
    ∃ t, exec (.bottomPulse a b order) s = .next t ∧ t.feed.f = s.feed.f + 1 ∧ t.feed.h = s.feed.f + 1 ∧
      t.feed.sync = .locked ∧
      if s.ctl.phase.permitsStrobes then
        if reaches (s.feed.f + 1) s.feed.nextPos then
          t.feed.newest = some { num := s.feed.nextNum, pos := s.feed.nextPos } ∧
            t.feed.nextNum = s.feed.nextNum + 1 ∧
            t.feed.nextPos = posPlus s.feed.nextPos s.settings.geometry.pitch ∧
            t.feed.strobePulses = s.feed.strobePulses + 1
        else t.feed.newest = s.feed.newest ∧ t.feed.nextNum = s.feed.nextNum ∧
          t.feed.nextPos = s.feed.nextPos ∧ t.feed.strobePulses = s.feed.strobePulses
      else t.feed.newest = s.feed.newest ∧ t.feed.nextNum = s.feed.nextNum ∧
        t.feed.nextPos = posPlus (s.feed.f + 1) s.settings.geometry.pitch ∧
        t.feed.strobePulses = s.feed.strobePulses

/-- The end of settling: where H reaches the settle start plus the settle distance sync becomes LOCKED, both
notices are raised, and strobe 0 is issued at this H where the machine state permits it (R10); before that
no strobe is issued (R13). First the feed unit's part of a rise of H, then a forward pulse that makes one
rise: in CLEARING, where another event at this count may change the machine state, the strobe's own event is
the first; the order is the command's operand (the model's choice, log 2). -/
def Obligations.SettlingEndsAtTheSettleDistance : Prop :=
  (∀ (a b : Bool) (order : List RiseEvent) (s : State), OutstandingSound s → s.feed.sync = .settling →
    (s.feed.botRef, ⟨a, b⟩) ∈ forwardChanges →
    s.settings.scale ≤ s.feed.botAcc + 100 ∧ s.feed.botAcc + 100 < 2 * s.settings.scale →
    0 < posDiff s.feed.h (s.feed.f + 1) →
    (s.ctl.phase ≠ .clearing ∨ order = [] ∨ order.head? = some .strobe) →
    ∃ t, exec (.bottomPulse a b order) s = .next t ∧ t.feed.f = s.feed.f + 1 ∧ t.feed.h = s.feed.f + 1 ∧
      if reaches (s.feed.f + 1) (posPlus s.feed.settleStart s.settings.geometry.settle) then
        t.feed.sync = .locked ∧
        t.line.notices &&& LineNotice.syncLocked.bit = LineNotice.syncLocked.bit ∧
        (s.ctl.strap = .profile →
          t.intake.notices &&& GaugeNotice.syncRestart.bit = GaugeNotice.syncRestart.bit) ∧
        t.feed.nextPos = posPlus (s.feed.f + 1) s.settings.geometry.pitch ∧
        if s.ctl.phase.permitsStrobes then
          t.feed.newest = some { num := 0, pos := s.feed.f + 1 } ∧ t.feed.nextNum = 1 ∧
            t.feed.strobePulses = s.feed.strobePulses + 1
        else t.feed.newest = none ∧ t.feed.nextNum = 0 ∧ t.feed.strobePulses = s.feed.strobePulses
      else t.feed.sync = .settling ∧ t.feed.newest = none ∧ t.feed.nextNum = s.feed.nextNum ∧
        t.feed.strobePulses = s.feed.strobePulses ∧
        t.feed.nextPos = posPlus (s.feed.f + 1) s.settings.geometry.pitch) ∧
  ∀ s : State, OutstandingSound s → s.feed.sync = .settling →
    if reaches s.feed.h (posPlus s.feed.settleStart s.settings.geometry.settle) then
      (riseStrobe s).feed.sync = .locked ∧
      (riseStrobe s).line.notices = s.line.notices ||| LineNotice.syncLocked.bit ∧
      (riseStrobe s).intake.notices =
        (if s.ctl.strap = .profile then s.intake.notices ||| GaugeNotice.syncRestart.bit
         else s.intake.notices) ∧
      (riseStrobe s).feed.nextPos = posPlus s.feed.h s.settings.geometry.pitch ∧
      (if s.ctl.phase.permitsStrobes then
        (riseStrobe s).feed.newest = some { num := 0, pos := s.feed.h } ∧
          (riseStrobe s).feed.nextNum = 1 ∧
          (riseStrobe s).intake.list = [{ num := 0, pos := s.feed.h, reply := none }]
       else (riseStrobe s).feed.newest = none ∧ (riseStrobe s).feed.nextNum = 0 ∧
          (riseStrobe s).intake.list = [])
    else riseStrobe s =
      { s with feed := { s.feed with nextPos := posPlus s.feed.h s.settings.geometry.pitch } }

/-- A reverse pulse of one count: within the reverse tolerance F alone falls (R6); beyond it a discontinuity
sets H to F, puts sync into SETTLING, restarts the slip window, empties the list, the track and the capture
slot, and abandons every unfinished hide with cause REVERSE, which join the completion order list in the
order of their first strobes, with no slice in the track and, of an open hide, the newest entered strobe as
its last (R7, R9, R61, R80, R198). -/
def Obligations.FallOfFIsWithinToleranceOrADiscontinuity : Prop :=
  ∀ (a b : Bool) (order : List RiseEvent) (s : State),
    (s.feed.botRef, ⟨a, b⟩) ∈ reverseChanges → s.feed.botAcc < 100 ∧ 100 ≤ s.feed.botAcc + s.settings.scale →
    ∃ t, exec (.bottomPulse a b order) s = .next t ∧ t.feed.f = s.feed.f - 1 ∧
      if posDiff (s.feed.f - 1) s.feed.h ≤ s.settings.geometry.tolerance then
        t = { s with feed := { s.feed with
          botRef := ⟨a, b⟩
          botAcc := s.feed.botAcc + s.settings.scale - 100
          f := s.feed.f - 1 } }
      else
        t.feed.h = s.feed.f - 1 ∧ t.feed.sync = .settling ∧ t.feed.settleStart = s.feed.f - 1 ∧
        t.feed.newest = none ∧ t.feed.slip = ⟨s.feed.f - 1, 0, 0⟩ ∧ t.feed.capture = none ∧
        t.feed.overwrite = false ∧ t.intake.list = [] ∧ t.track.slices = [] ∧
        t.track.flushedCount = min 4294967295 (s.track.flushedCount + s.track.slices.length) ∧
        anyUnfinished t = false ∧
        EmptiedBy .reverse s t ∧ AbandonedJoined s t ∧
        t.line.notices &&& LineNotice.syncLost.bit =
          (if s.feed.sync = .locked then LineNotice.syncLost.bit
           else s.line.notices &&& LineNotice.syncLost.bit)

/-- The end of a slip window: a clean window clears the count; a slip window flags the converting hides and
raises the count; the third in a row raises SLIP, and the trim with TRIM_CHANGED where it is below 4 (R15,
R17). First a forward pulse that makes one rise of H, whatever the order of the events due at it (the
command's operand, the model's choice, log 2), then the feed unit's part of a rise of H by itself. -/
def Obligations.SlipWindowEndsAtItsLength : Prop :=
  (∀ (a b : Bool) (order : List RiseEvent) (s : State),
    (s.feed.botRef, ⟨a, b⟩) ∈ forwardChanges →
    s.settings.scale ≤ s.feed.botAcc + 100 ∧ s.feed.botAcc + 100 < 2 * s.settings.scale →
    0 < posDiff s.feed.h (s.feed.f + 1) →
    let w := s.settings.geometry.window
    ∃ t, exec (.bottomPulse a b order) s = .next t ∧ t.feed.h = s.feed.f + 1 ∧
      if reaches (s.feed.f + 1) (posPlus s.feed.slip.start w) then
        if (s.settings.geometry.slipLimit : Int) < |(w : Int) - s.feed.slip.advance| then
          (order.head? = some .slip → ∀ r ∈ s.hides.records, r.state.converting = true →
            ∃ q ∈ t.hides.records, q.number = r.number ∧ q.flags.slip = true) ∧
          if s.feed.slip.count < 2 then
            t.feed.slip = ⟨s.feed.f + 1, 0, s.feed.slip.count + 1⟩ ∧ t.feed.trim = s.feed.trim
          else t.feed.slip = ⟨s.feed.f + 1, 0, 0⟩ ∧
            t.line.notices &&& LineNotice.slip.bit = LineNotice.slip.bit ∧
            if s.feed.trim < 4 then t.feed.trim = s.feed.trim + 1 ∧
              t.line.notices &&& LineNotice.trimChanged.bit = LineNotice.trimChanged.bit
            else t.feed.trim = s.feed.trim
        else t.feed.slip = ⟨s.feed.f + 1, 0, 0⟩ ∧ t.feed.trim = s.feed.trim
      else t.feed.slip = s.feed.slip ∧ t.feed.trim = s.feed.trim) ∧
  ∀ s : State,
    let w := s.settings.geometry.window
    let flagged : State := { s with hides := { s.hides with
      records := s.hides.records.map fun r =>
        if r.state.converting then { r with flags := { r.flags with slip := true } } else r } }
    if reaches s.feed.h (posPlus s.feed.slip.start w) then
      if (s.settings.geometry.slipLimit : Int) < |(w : Int) - s.feed.slip.advance| then
        if s.feed.slip.count < 2 then
          riseSlip s = { flagged with feed := { s.feed with slip := ⟨s.feed.h, 0, s.feed.slip.count + 1⟩ } }
        else if s.feed.trim < 4 then
          riseSlip s = { flagged with
            feed := { s.feed with slip := ⟨s.feed.h, 0, 0⟩, trim := s.feed.trim + 1 }
            line := { s.line with notices :=
              s.line.notices ||| (LineNotice.trimChanged.bit ||| LineNotice.slip.bit) } }
        else
          riseSlip s = { flagged with
            feed := { s.feed with slip := ⟨s.feed.h, 0, 0⟩ }
            line := { s.line with notices := s.line.notices ||| LineNotice.slip.bit } }
      else riseSlip s = { s with feed := { s.feed with slip := ⟨s.feed.h, 0, 0⟩ } }
    else riseSlip s = s

/-- The top encoder moves its accumulator by the same arithmetic and the top advance by its counts, and
nothing else (R4): forward for the changes 00 to 10, 10 to 11, 11 to 01 and 01 to 00 of (A, B), back for the
same changes the other way, and by no count for any other (R2). -/
def Obligations.TopPulseMovesTheTopAdvanceAlone : Prop :=
  ∀ (a b : Bool) (s : State), s.feed.topAcc < s.settings.scale →
    ∃ (acc : Nat) (advance : Int),
      exec (.topPulse a b) s = .next { s with feed := { s.feed with
        topRef := ⟨a, b⟩
        topAcc := acc
        slip := { s.feed.slip with advance := advance } } } ∧ acc < s.settings.scale ∧
      if (s.feed.topRef, ⟨a, b⟩) ∈ forwardChanges then
        ∃ n : Nat, advance = s.feed.slip.advance + n ∧ s.feed.topAcc + 100 = n * s.settings.scale + acc
      else if (s.feed.topRef, ⟨a, b⟩) ∈ reverseChanges then
        ∃ n : Nat, advance = s.feed.slip.advance - n ∧ s.feed.topAcc + n * s.settings.scale = acc + 100
      else acc = s.feed.topAcc ∧ advance = s.feed.slip.advance

/-! ## Split target computation (05) -/

/-- Stage 2: at or below T0 the allowance is A0, at or above T5 it is A5, and between two points it is
interpolated, rounded to the nearest integer with halves away from zero (R92); it never leaves the range of
the six allowances. -/
def Obligations.AllowanceIsInterpolatedOnTheCurve : Prop :=
  ∀ (a : Article) (t : Int), a.p0.t < a.p1.t → a.p1.t < a.p2.t → a.p2.t < a.p3.t → a.p3.t < a.p4.t →
    a.p4.t < a.p5.t →
    (t ≤ a.p0.t → allowance a.points t = a.p0.a) ∧ (a.p5.t ≤ t → allowance a.points t = a.p5.a) ∧
    (∀ p q : CurvePoint, (p, q) ∈ [(a.p0, a.p1), (a.p1, a.p2), (a.p2, a.p3), (a.p3, a.p4), (a.p4, a.p5)] →
      p.t ≤ t → t < q.t → ∃ r : Int, allowance a.points t = p.a + r ∧
        2 * |r * (q.t - p.t) - (q.a - p.a) * (t - p.t)| ≤ q.t - p.t ∧
        (2 * |r * (q.t - p.t) - (q.a - p.a) * (t - p.t)| = q.t - p.t →
          |(q.a - p.a) * (t - p.t)| < |r * (q.t - p.t)|)) ∧
    ∀ lo hi : Int, (∀ p ∈ a.points, lo ≤ p.a ∧ p.a ≤ hi) →
      lo ≤ allowance a.points t ∧ allowance a.points t ≤ hi

/-- Stage 3: for a present zone with thickness T, the grain goal g is S; if T − S is less than Rmin, g is T
− Rmin instead and the zone is flagged RESIDUAL; a difference equal to Rmin leaves g at S and sets no flag.
With S from 50 to 600 h and T from 0 to 3000 h, g lies within −300 h and 600 h (R93). -/
def Obligations.GrainGoalGivesWayToTheResidual : Prop :=
  ∀ (a : Article) (t : Int),
    (t - a.s < a.rmin → grainGoal a t = t - a.rmin ∧ residual a t = true) ∧
    (a.rmin ≤ t - a.s → grainGoal a t = a.s ∧ residual a t = false) ∧
    (50 ≤ a.s → a.s ≤ 600 → 0 ≤ a.rmin → a.rmin ≤ 300 → 0 ≤ t → t ≤ 3000 →
      -300 ≤ grainGoal a t ∧ grainGoal a t ≤ 600)

/-- Stages 5 and 6: the slew step is floor(slew × P / 100), and 1 where that is 0 (R90); a zone has a base
just where its channel holds one whose hide number is the slice's (R95); the delivered target lies between
20 h and 900 h (R97); it is flagged SLEWED, FLOOR and CEILING as R96 and R97 say, its progress WAITING; its
deviation is its distance from the raw target (R100); and where the zone has a base for the hide, the target
lies within the slew step of it (R98). -/
def Obligations.DeliveredTargetKeepsToTheSlewStepAndTheClamp : Prop :=
  ∀ (i : SplitInput) (z : Nat) (g : Int) (extended res : Bool),
    let step : Int := if i.slew * i.pitch / 100 = 0 then 1 else (i.slew * i.pitch / 100 : Nat)
    (∀ b, i.baseFor z = some b ↔ ∃ c ∈ i.zones[z]?, ∃ base ∈ c.base, base.hide = i.hide ∧ base.gap = b) ∧
    let limited := match i.baseFor z with
      | some b => max (b - step) (min (b + step) g)
      | none => g
    ∃ out : Int, (i.deliver z g extended res).result.target = some out ∧ 20 ≤ out ∧ out ≤ 900 ∧
      (20 ≤ limited → limited ≤ 900 → out = limited) ∧
      (limited < 20 → out = 20) ∧ (900 < limited → out = 900) ∧
      ((i.deliver z g extended res).deviation : Int) = |out - g| ∧
      (i.deliver z g extended res).result.flags =
        { residual := res, floor := decide (limited < 20), ceiling := decide (900 < limited),
          slewed := decide (limited ≠ g), extended := extended } ∧
      (i.deliver z g extended res).result.progress = .waiting ∧
      1 ≤ step ∧ ∀ b ∈ i.baseFor z, 20 ≤ b → b ≤ 900 → |out - b| ≤ step

/-- Stages 1 and 4: the raw target of a present zone is its grain goal plus its allowance plus its knife
offset (R94). An absent zone borrows from the nearest present zone, of two at one distance from the lower
one, whatever its mode; its target comes from the donor's raw target without its own offset, flagged
EXTENDED and not RESIDUAL; a doubtful zone and a slice with no zone present are HELD, and a zone out of
TRACK is NOT_TRACK, both without target and flags (R89, R91). -/
def Obligations.ZonesAreSelectedByTheirReadings : Prop :=
  ∀ (i : SplitInput) (z : Nat), z < i.active →
    let mode := (i.zones.getD z (Channel.initial .off)).mode
    let reading (y : Nat) : Reading := (i.readings.getD []).getD y .absent
    let raw (y t : Nat) : Int := grainGoal i.article t + allowance i.article.points t + i.knife.getD y 0
    let distance (y : Nat) : Nat := (y - z) + (z - y)
    let without (p : Progress) : ZoneSplit :=
      { result :=
          { target := none
            flags := { residual := false, floor := false, ceiling := false, slewed := false,
                       extended := false }
            progress := p }
        deviation := 0 }
    (∀ (a : Article) (k t : Int), rawTarget a k t = grainGoal a t + allowance a.points t + k) ∧
    (mode ≠ .track → i.zone z = without .notTrack) ∧
    (mode = .track → (∀ y t, y < i.active → reading y ≠ .thickness t) → i.zone z = without .held) ∧
    (mode = .track → reading z = .doubtful → i.zone z = without .held) ∧
    (∀ t : Nat, mode = .track → reading z = .thickness t →
      i.zone z = i.deliver z (raw z t) false (decide ((t : Int) - i.article.s < i.article.rmin))) ∧
    ∀ d t : Nat, mode = .track → reading z = .absent → d < i.active → reading d = .thickness t →
      (∀ e u : Nat, e < i.active → reading e = .thickness u →
        distance d < distance e ∨ (distance d = distance e ∧ d ≤ e)) →
      i.zone z = i.deliver z (raw d t) true false

/-! ## Crossings (04) -/

/-- The lead crossing of the oldest slice in ENTERED, where H has reached p + D − L (R72), and nothing where
it has not: the slice is CONVERTED with one result for each active zone, formed from the slice's readings,
the record's article snapshot, the applied knife profile, each zone's mode and base, the slew and P of the
geometry and the active zone count (R73): a zone out of TRACK is NOT_TRACK, one with no target HELD, both
without flags, and one with a target WAITING (R73, R74). Its targets become the waiting targets and the
bases of their zones; where one replaces a target with a slice reference, that slice's result is SKIPPED
(R74, R75, R109). Its hide's state follows its first conversion, and its hide's record takes the conversion
flags, the deviation, the area and the thickness extremes (R56, R101, R102), while the strobes in the track,
the feed unit, the intake, the settings, the controller and the line port stay (R72 to R74, R98). That the
counts of a zone stop at 65535 is the model's choice (log 27). -/
def Obligations.LeadCrossingConvertsTheOldestEnteredSlice : Prop :=
  ∀ (s : State) (sl : Slice), oldestEntered s = some sl →
    (¬ AtLeadPoint sl.pos s → riseLead s = s) ∧
    ∀ r : HideRecord, AtLeadPoint sl.pos s → findHide s sl.hide = some r → s.zones.length = 16 →
    s.ctl.activeZones ≤ 16 →
    let i : SplitInput :=
      { readings := sl.readings, hide := sl.hide, article := r.article, knife := s.settings.knife
        zones := s.zones, slew := s.settings.geometry.slew, pitch := s.settings.geometry.pitch
        active := s.ctl.activeZones }
    let outs := (List.range s.ctl.activeZones).map i.zone
    let present := presentReadings s.ctl.activeZones sl
    (∀ (z : Nat) (o : ZoneSplit), outs[z]? = some o →
      (o.result.progress = if (channel s z).mode ≠ .track then .notTrack
        else if o.result.target = none then .held else .waiting) ∧
      ((channel s z).mode = .track → (o.result.target = none ↔
        present = [] ∨ (sl.readings.getD [])[z]? = some .doubtful)) ∧
      ((channel s z).mode ≠ .track → o.result.target = none) ∧
      (o.result.target = none → o.deviation = 0 ∧ o.result.flags =
        { residual := false, floor := false, ceiling := false, slewed := false, extended := false })) ∧
    (riseLead s).feed = s.feed ∧ (riseLead s).intake = s.intake ∧ (riseLead s).ctl = s.ctl ∧
    (riseLead s).settings = s.settings ∧ (riseLead s).line = s.line ∧
    (riseLead s).track = { s.track with
      slices := s.track.slices.map fun x => displaced (outs.map fun o => o.result.target) s
        (if x.strobe = sl.strobe ∧ x.hide = sl.hide then
          { x with stage := .converted, results := outs.map ZoneSplit.result } else x) } ∧
    (∃ r', findHide (riseLead s) sl.hide = some r' ∧
      r'.state = (if r.state = .scanning then .scanSplit
        else if r.state = .scanned then .splitting else r.state) ∧
      r'.article = r.article ∧ r'.inTrack = r.inTrack ∧
      r'.deviation = min 4294967295 (r.deviation + (outs.map ZoneSplit.deviation).sum) ∧
      r'.area = min 4294967295 (r.area +
        present.length * s.settings.geometry.zoneWidth * s.settings.geometry.pitch / 10) ∧
      r'.tMin = (r.tMin.toList ++ present).min? ∧ r'.tMax = (r.tMax.toList ++ present).max? ∧
      ∀ (z : Nat) (o : ZoneSplit) (c : ZoneCounts), outs[z]? = some o → r.counts[z]? = some c →
        r'.counts[z]? = some { c with
          residual := if o.result.flags.residual then min 65535 (c.residual + 1) else c.residual
          floor := if o.result.flags.floor then min 65535 (c.floor + 1) else c.floor
          ceiling := if o.result.flags.ceiling then min 65535 (c.ceiling + 1) else c.ceiling
          slewed := if o.result.flags.slewed then min 65535 (c.slewed + 1) else c.slewed
          extended := if o.result.flags.extended then min 65535 (c.extended + 1) else c.extended }) ∧
    ∀ z, z < 16 →
      (channel (riseLead s) z).mode = (channel s z).mode ∧
      (channel (riseLead s) z).flight = (channel s z).flight ∧
      match (outs[z]?).bind (fun o => o.result.target) with
      | some g => (channel (riseLead s) z).slot =
            some { gap := g, cause := .track, ref := some { strobe := sl.strobe, hide := sl.hide } } ∧
          (channel (riseLead s) z).base = some { gap := g, hide := sl.hide }
      | none => (channel (riseLead s) z).slot = (channel s z).slot ∧
          (channel (riseLead s) z).base = (channel s z).base

/-- With no slice in ENTERED, the lead crossing takes the head of the list out, where H has reached the
head's p + D − L (R72), and nothing where it has not; the entries behind it that hold replies follow: where
the head's hide is not finished a GAP slice enters for it and is converted at once, and otherwise no GAP
slice enters (R35, R72). Every slice that enters joins at the tail and is counted in the track and in its
hide's record, and the eighth GAP slice in a row of an open hide raises GAUGE_LOST, once (R55, R71); that
the slice and gap counts stop at 65535 is the model's choice (log 27). The hide found for a departing strobe
is, of the records whose open range holds it, the one with the newest first strobe (R33, R67), of two with
the same one the later announced (the model's reading, log 13); the order of first strobes is spoken of
where none of them lies just half the number range, 32768, behind the departing strobe, since of two strobes
that far apart neither is the older (log 30). A departing entry enters the track, is an orphan or is dropped
by the hide found (R34), and the range of an ABANDONED record closes once no outstanding strobe lies in it
(R60). -/
def Obligations.LeadCrossingTakesTheListHead : Prop :=
  (∀ (n : BitVec 16) (records : List HideRecord),
    match memberOf n records with
    | some r => r ∈ records ∧ Matches r n ∧
        ((∀ q ∈ records, Matches q n → n - q.first.num ≠ 32768#16) →
          ∃ before behind, records = before ++ r :: behind ∧
            (∀ q ∈ before, Matches q n → older r.first.num q.first.num = false) ∧
            ∀ q ∈ behind, Matches q n → older q.first.num r.first.num = true)
    | none => ∀ q ∈ records, ¬ Matches q n) ∧
  (∀ (s : State) (e : Entry) (rest : List Entry), s.intake.list = e :: rest →
    let t := departHead s
    t.intake.list = rest ∧ t.feed = s.feed ∧ t.zones = s.zones ∧ t.link = s.link ∧ t.ctl = s.ctl ∧
    t.settings = s.settings ∧
    t.track.slices = s.track.slices ++ (enteredFor s.hides.records e).toList ∧
    t.intake.orphan =
      orphansAfter s.intake.orphan (if isOrphan s.hides.records e then 1 else 0) ∧
    t.intake.notices = (if isOrphan s.hides.records e = true ∧ s.ctl.strap = .profile
      then s.intake.notices ||| GaugeNotice.orphan.bit else s.intake.notices) ∧
    t.hides.records.map HideRecord.number = s.hides.records.map HideRecord.number ∧
    (∀ q ∈ t.hides.records, q.state = .abandoned → q.rangeOpen = true →
      ∃ d ∈ rest, InRange q.first.num q.last d.num) ∧
    ∀ (i : Nat) (q q' : HideRecord), s.hides.records[i]? = some q → t.hides.records[i]? = some q' →
      q'.state = q.state ∧ q'.first = q.first ∧ q'.last = q.last ∧
      (q'.rangeOpen = q.rangeOpen ∨
        q.state = .abandoned ∧ q'.rangeOpen = false ∧ ∀ d ∈ rest, ¬ InRange q.first.num q.last d.num)) ∧
  (∀ (s : State) (e : Entry) (r : HideRecord), findHide s r.number = some r →
    let gap := e.reply.isNone
    let lost := gap && r.state.isOpen && decide (8 ≤ r.gapRun + 1) && !r.flags.gaugeLost
    let t := enterTrack e r s
    findHide t r.number = some { r with
      sliceCount := min 65535 (r.sliceCount + 1)
      gapCount := if gap then min 65535 (r.gapCount + 1) else r.gapCount
      inTrack := r.inTrack + 1
      newestEntered := some e.num
      gapRun := if r.state.isOpen then (if gap then min 8 (r.gapRun + 1) else 0) else r.gapRun
      flags := { r.flags with gaugeLost := r.flags.gaugeLost || lost } } ∧
    t = { s with
      hides := { s.hides with records := t.hides.records }
      track := { s.track with
        slices := s.track.slices ++ [{ strobe := e.num, pos := e.pos, hide := r.number,
                                       readings := e.reply, stage := .entered, results := [] }]
        readCount := if gap then s.track.readCount else min 4294967295 (s.track.readCount + 1)
        gapCount := if gap then min 4294967295 (s.track.gapCount + 1) else s.track.gapCount }
      line := { s.line with notices :=
        if lost then s.line.notices ||| LineNotice.gaugeLost.bit else s.line.notices } }) ∧
  (∀ s : State, oldestEntered s = none → (∀ e ∈ s.intake.list.head?, ¬ AtLeadPoint e.pos s) →
    riseLead s = s) ∧
  ∀ (s : State) (e : Entry) (rest : List Entry), oldestEntered s = none → s.intake.list = e :: rest →
    OutstandingSound s → AtLeadPoint e.pos s →
    (∃ k, (riseLead s).intake.list = rest.drop k ∧ (∀ x ∈ rest.take k, x.reply.isSome = true)) ∧
    (∀ x ∈ (riseLead s).intake.list.head?, x.reply = none) ∧
    (match memberOf e.num s.hides.records with
      | some r => if r.state.unfinished then
          ∃ sl, (riseLead s).track.slices[s.track.slices.length]? = some sl ∧ sl.strobe = e.num ∧
            sl.pos = e.pos ∧ sl.hide = r.number ∧ sl.readings = none ∧ sl.stage = .converted ∧
            (riseLead s).track.gapCount = min 4294967295 (s.track.gapCount + 1)
        else (riseLead s).track.gapCount = s.track.gapCount
      | none => (riseLead s).track.gapCount = s.track.gapCount)

/-- The knife crossing of the head slice, where H has reached p + D (R76), and nothing where it has not: the
slice leaves, its targets are detached and run on, its hide's record takes one outcome for each result and
its slices in track falls by one (R58, R76, R77); that the counts of a zone stop at 65535 is the model's
choice (log 27). Just where the hide is SPLITTING, its newest entered strobe is its last one and no slice of
it is left in the track, it becomes DONE, with its strobe range closed, its place at the tail of the
completion order list, and HIDE_DONE (R59, R67). A pending knife profile is applied where no hide is left in
SCAN_SPLIT or SPLITTING (R84). -/
def Obligations.KnifeCrossingRetiresTheHeadSlice : Prop :=
  (∀ s : State, (∀ sl ∈ s.track.slices.head?, ¬ AtKnifePoint sl.pos s) → riseKnife s = s) ∧
  ∀ (s : State) (sl : Slice) (rest : List Slice) (r : HideRecord), s.track.slices = sl :: rest →
    AtKnifePoint sl.pos s → findHide s sl.hide = some r →
    (riseKnife s).track.slices = rest ∧ (riseKnife s).feed = s.feed ∧ (riseKnife s).intake = s.intake ∧
    (riseKnife s).ctl = s.ctl ∧
    (anyConverting s = true → PendingWaitsOrApplied s (riseKnife s)) ∧
    (∀ c ∈ (riseKnife s).zones,
      (∀ t ∈ c.slot, ∀ x ∈ t.ref, ¬ (x.strobe = sl.strobe ∧ x.hide = sl.hide)) ∧
      (∀ m ∈ c.flight, ∀ x ∈ m.target.ref, ¬ (x.strobe = sl.strobe ∧ x.hide = sl.hide))) ∧
    (riseKnife s).zones.map (fun c => (c.slot.map Target.gap, c.flight.map fun m => m.target.gap)) =
      s.zones.map (fun c => (c.slot.map Target.gap, c.flight.map fun m => m.target.gap)) ∧
    ∃ r', findHide (riseKnife s) sl.hide = some r' ∧ r'.inTrack = r.inTrack - 1 ∧
      r'.first = r.first ∧ r'.last = r.last ∧ r'.newestEntered = r.newestEntered ∧
      (∀ q ∈ s.hides.records, q.number ≠ sl.hide → q ∈ (riseKnife s).hides.records) ∧
      (if r.state = .splitting ∧ r.last.isSome = true ∧ r.newestEntered = r.last ∧ r'.inTrack = 0 then
        r'.state = .done ∧ r'.rangeOpen = false ∧
        (riseKnife s).hides.completion = s.hides.completion ++ [sl.hide] ∧
        (riseKnife s).line.notices &&& LineNotice.hideDone.bit = LineNotice.hideDone.bit
      else r'.state = r.state ∧ r'.rangeOpen = r.rangeOpen ∧
        (riseKnife s).hides.completion = s.hides.completion ∧ (riseKnife s).line = s.line) ∧
      ∀ (z : Nat) (o : ZoneResult) (c : ZoneCounts), sl.results[z]? = some o → r.counts[z]? = some c →
        r'.counts[z]? = some { c with
          onTime := if o.progress = .complete then min 65535 (c.onTime + 1) else c.onTime
          late := if o.progress = .waiting ∨ o.progress = .sent ∨ o.progress = .timedOut
            ∨ o.progress = .ended then min 65535 (c.late + 1) else c.late
          skipped := if o.progress = .skipped then min 65535 (c.skipped + 1) else c.skipped
          held := if o.progress = .held then min 65535 (c.held + 1) else c.held
          notTrack := if o.progress = .notTrack then min 65535 (c.notTrack + 1) else c.notTrack }

/-! ## Wake, HALT, rest and the feed reference (01, 07) -/

/-- Each wake source sets its flag, whatever its enable, and a setting that makes the wake condition hold
moves the machine state as R134 says: INFEED_EDGE, WAKE_REQUEST in PROFILE, WAKE, and the expiry of a
running dwell timer (R21, R39, R133, R137, R149). WAKE_ENABLE replaces the enables to the same effect
(R136). An edge of INFEED also captures H. The responses of WAKE and WAKE_ENABLE show the machine state that
the request left, the latter behind the enables and the flags (R136, R137); WAKE_REQUEST is answered OK
(R39). -/
def Obligations.WakeSourcesSetTheirFlags : Prop :=
  ∀ s : State, s.zones.length = 16 →
    (∃ t, exec .infeedEdge s = .next t ∧ t.feed.capture = some s.feed.h ∧
      t.feed.overwrite = (s.feed.overwrite || s.feed.capture.isSome) ∧
      t.ctl.flags = s.ctl.flags ||| WakeFlag.infeed.bit ∧ t.ctl.enables = s.ctl.enables ∧
      t.ctl.phase = phaseWith (s.ctl.flags ||| WakeFlag.infeed.bit) s.ctl.enables s) ∧
    (s.ctl.strap = .profile → ∃ t, exec .wakeRequest s = .next t ∧
      t.ctl.flags = s.ctl.flags ||| WakeFlag.gauge.bit ∧ t.ctl.enables = s.ctl.enables ∧
      t.ctl.phase = phaseWith (s.ctl.flags ||| WakeFlag.gauge.bit) s.ctl.enables s ∧
      t.intake.port.answer = some { kind := 0x04, status := .ok, fields := [] } ∧
      t.intake.list = s.intake.list ∧ t.hides = s.hides) ∧
    (∃ t, exec .wake s = .next t ∧
      (s.line.hold = false → t.line.port.answer =
        some { kind := 0x22, status := .ok, fields := [t.ctl.phase.code] }) ∧
      t.ctl.flags = s.ctl.flags ||| WakeFlag.line.bit ∧ t.ctl.enables = s.ctl.enables ∧
      t.ctl.phase = phaseWith (s.ctl.flags ||| WakeFlag.line.bit) s.ctl.enables s) ∧
    (s.ctl.dwell.running = true → ∃ t, exec .dwellTimerExpiry s = .next t ∧
      t.ctl.dwell.running = false ∧ t.ctl.dwell.remaining = 0 ∧
      t.ctl.flags = s.ctl.flags ||| WakeFlag.timer.bit ∧ t.ctl.enables = s.ctl.enables ∧
      t.ctl.phase = phaseWith (s.ctl.flags ||| WakeFlag.timer.bit) s.ctl.enables s) ∧
    ∀ e : BitVec 8, ∃ t, exec (.wakeEnable e) s = .next t ∧
      (s.line.hold = false → t.line.port.answer = some
        { kind := 0x25, status := .ok
          fields := [wakeByte t.ctl.enables, wakeByte t.ctl.flags, t.ctl.phase.code] }) ∧
      t.ctl.flags = s.ctl.flags ∧ t.ctl.enables = e.setWidth 4 ∧
      t.ctl.phase = phaseWith s.ctl.flags (e.setWidth 4) s

/-- A wake event leaves the rest as R146 to R148 say: an abort raises REST_ABORTED, a wake from DWELL or
PARK raises WAKE and stops the dwell timer, and only a wake from PARK touches the zone channels. -/
def Obligations.WakeEventsEndTheRest : Prop :=
  ∀ (s : State) (w : WakeFlag), s.ctl.wakeHolds = false →
    (s.ctl.flags ||| w.bit) &&& s.ctl.enables ≠ 0 →
    let t := setWakeFlag w s
    t.feed.f = s.feed.f ∧ t.feed.h = s.feed.h ∧ t.intake = s.intake ∧ t.hides = s.hides ∧
    t.settings = s.settings ∧ (s.ctl.phase ≠ .park → t.zones = s.zones ∧ t.track = s.track) ∧
    t.ctl.restTarget = s.ctl.restTarget ∧
    (s.ctl.phase = .clearing ∨ s.ctl.phase = .braking →
      t.line.notices = s.line.notices ||| LineNotice.restAborted.bit ∧ t.ctl.feedStop = false) ∧
    (s.ctl.phase = .dwell →
      t.line.notices = s.line.notices ||| LineNotice.wake.bit ∧ t.ctl.feedStop = false ∧
      t.ctl.dwell.running = false) ∧
    (s.ctl.phase = .park →
      t.line.notices = s.line.notices ||| LineNotice.wake.bit ∧ t.ctl.dwell.running = false ∧
      ∀ z, z < 16 → z < s.zones.length → (channel s z).mode = .track →
        (channel t z).slot =
          some { gap := s.settings.geometry.entryGap, cause := .entry, ref := none } ∧
        (channel t z).entryMark = true ∧ (channel t z).flight = (channel s z).flight)

/-- The assertion of HALT outside HALT: FEED-STOP asserted and FEED REF low, the timer stopped, the list and
the track emptied, every unfinished hide abandoned with cause HALT and put on the completion order list in
the order of their first strobes (R61, R198), the channels stilled and the HALT notice raised, while the
modes, the miss and timeout counts, LAGGING, the bases, the rest target, the wake flags and enables, F, H
and the sync state stand (R80, R123, R150). In HALT it only sets the level; the release of the input leaves
the machine state as it is (R151). -/
def Obligations.HaltClearsOutTheWorkInFlight : Prop :=
  ∀ s : State, s.zones.length = 16 →
    (s.ctl.phase ≠ .halt → ∃ t, exec .haltAsserted s = .next t ∧ t.pins.halt = true ∧
      t.ctl.phase = .halt ∧ t.ctl.feedStop = true ∧ t.feed.ref.high = false ∧ t.feed.ref.gated = true ∧
      t.ctl.dwell.running = false ∧ t.ctl.restTarget = s.ctl.restTarget ∧ t.ctl.flags = s.ctl.flags ∧
      t.ctl.enables = s.ctl.enables ∧ t.feed.f = s.feed.f ∧ t.feed.h = s.feed.h ∧
      t.feed.sync = s.feed.sync ∧ t.feed.slip = s.feed.slip ∧ t.feed.capture = none ∧
      t.intake.list = [] ∧ t.track.slices = [] ∧ t.track.pendingKnife = none ∧
      EmptiedBy .halt s t ∧ anyUnfinished t = false ∧
      AbandonedJoined s t ∧
      (∀ z, z < 16 → channel t z = { channel s z with
        position := none
        slot := none
        flight := none
        entryMark := false
        clearPoll := false }) ∧
      (∀ x ∈ t.link.txn, x.overHalt = true) ∧
      t.line.notices &&& LineNotice.halt.bit = LineNotice.halt.bit) ∧
    (s.ctl.phase = .halt → exec .haltAsserted s = .next { s with
      pins := { s.pins with halt := true }
      feed := { s.feed with ref := { s.feed.ref with high := false, gated := true } } }) ∧
    (s.ctl.phase.drives = false → exec .haltReleased s = .next { s with
      pins := { s.pins with halt := false }
      feed := { s.feed with ref := { s.feed.ref with high := false, gated := true } } })

/-- FEED-STILL in BRAKING enters the rest named by the rest target: DWELL keeps the work as it stands, PARK
discards it, abandons the unfinished hides in the order of their first strobes (R61, R198) and gives the
TRACK zones the park gap; either starts the dwell timer and raises REST_ENTERED (R143 to R145, R149).
Elsewhere, and at its release, only the level is recorded (R132). -/
def Obligations.FeedStillEntersTheRestInBraking : Prop :=
  ∀ s : State, s.zones.length = 16 →
    exec .feedStillReleased s = .next { s with pins := { s.pins with feedStill := false } } ∧
    (s.ctl.phase ≠ .braking →
      exec .feedStillAsserted s = .next { s with pins := { s.pins with feedStill := true } }) ∧
    (s.ctl.phase = .braking → ∃ t, exec .feedStillAsserted s = .next t ∧ t.pins.feedStill = true ∧
      t.ctl.dwell = { running := true, remaining := s.settings.dwellTime, start := s.now } ∧
      t.line.notices &&& LineNotice.restEntered.bit = LineNotice.restEntered.bit ∧
      t.ctl.feedStop = true ∧ t.feed.h = s.feed.h ∧ t.feed.capture = s.feed.capture ∧
      match s.ctl.restTarget with
      | .dwell => t.ctl.phase = .dwell ∧ t.hides = s.hides ∧ t.track = s.track ∧ t.intake = s.intake ∧
          t.zones = s.zones
      | .park => t.ctl.phase = .park ∧ t.intake.list = [] ∧ t.track.slices = [] ∧
          t.track.pendingKnife = none ∧ EmptiedBy .park s t ∧
          AbandonedJoined s t ∧
          ∀ z, z < 16 →
            (channel t z).mode = (channel s z).mode ∧
            (channel t z).flight.map (fun m => m.target.gap) =
              (channel s z).flight.map (fun m => m.target.gap) ∧
            if (channel s z).mode = .track then
              (channel t z).slot =
                some { gap := s.settings.geometry.parkGap, cause := .park, ref := none }
            else (channel t z).slot.map Target.gap = (channel s z).slot.map Target.gap)

/-- A period of FEED REF begins with the period, duty and trim then in force: high for c = floor(min(duty, N
+ 1) / 2^trim) steps, and for none while the output is gated (R18, R19, R20); after the c steps it goes low,
unless c is N + 1. The time these events bring is the model's choice (log 4), and so is that a period
begins, with c = 0, while the output is gated (log 28). -/
def Obligations.FeedReferenceFollowsTheEffectiveCount : Prop :=
  ∀ s : State,
    let c := if s.pins.halt = true ∨ s.ctl.phase.drives = false then 0
      else min s.feed.duty (s.feed.period + 1) / 2 ^ s.feed.trim
    (∃ now, exec .feedRefPeriodStart s = .next { s with
      now := now
      feed := { s.feed with ref :=
        { period := s.feed.period, count := c, start := now, high := decide (0 < c),
          gated := gateClosed s } } } ∧ s.now ≤ now ∧ s.feed.ref.start + s.feed.ref.period + 1 ≤ now) ∧
    (s.feed.ref.high = true → s.feed.ref.count < s.feed.ref.period + 1 →
      exec .feedRefHighEnd s = .next { s with
        now := max s.now (s.feed.ref.start + s.feed.ref.count)
        feed := { s.feed with ref := { s.feed.ref with high := false } } }) ∧
    (s.feed.ref.count = s.feed.ref.period + 1 → exec .feedRefHighEnd s = .next s)

/-! ## Zone link (06) -/

/-- The ACCEPT of the SEND on the link: with the fault bit clear the record sent becomes the move in flight,
with its deadline, and leaves the slot where the slot still holds it (R114), but for a SEND that was on the
link at an entry to HALT, which starts no move (R124); with the fault bit set the channel enters FAULT and
nothing moves (R119). The slice's progress becomes SENT, and SKIPPED and ENDED at the FAULT entry (R75), and
the link is granted anew in turn (R111). A frame that comes after the reply window is ignored (R113); which
it is at the window's last instant (log 37), and that one which comes before the message has been sent is
taken (log 38), are the model's choices. -/
def Obligations.AcceptPutsTheSentTargetInFlight : Prop :=
  ∀ (zone flags : BitVec 8) (s : State) (x : Txn) (r : Target), s.zones.length = 16 →
    s.link.txn = some x → x.kind = .send → x.zone = zone.toNat → x.zone < 16 → x.sent = some r →
    (channel s x.zone).mode.inService = true →
    (x.start + 400 ≤ s.now → exec (.accept zone flags) s = .next s) ∧
    (s.now < x.start + 400 →
    ∃ t, exec (.accept zone flags) s = .next t ∧ (∀ y ∈ t.link.txn, y.start = s.now) ∧
      (s.link.abandoned = none → GrantedInTurn s.link.last t) ∧
      t.feed.h = s.feed.h ∧ t.intake = s.intake ∧ t.hides = s.hides ∧ t.settings = s.settings ∧
      (∀ z, z < 16 → z ≠ x.zone → channel t z = channel s z) ∧
      if flags.getLsbD 1 = false ∧ x.overHalt = true then
        channel t x.zone = { channel s x.zone with misses := 0 } ∧ t.line = s.line ∧
        t.track.slices = s.track.slices
      else if flags.getLsbD 1 = false then
        channel t x.zone = { channel s x.zone with
          flight := some { target := r, accepted := s.now,
                           deadline := s.now + s.settings.geometry.moveTimeout * 1000 }
          slot := if x.slotHolds then none else (channel s x.zone).slot
          misses := 0 } ∧
        t.line = s.line ∧
        t.track.slices = s.track.slices.map (reported .sent x.zone (some r))
      else
        channel t x.zone = { channel s x.zone with
          mode := .fault
          slot := none
          flight := none
          entryMark := false } ∧
        t.line.notices = s.line.notices ||| LineNotice.zoneFault.bit ∧
        t.track.slices = s.track.slices.map (reportedFault x.zone (channel s x.zone)))

/-- A STATUS reply: the position is recorded, the miss count returns to 0, and an in-position reply to a
POLL completes the move in flight, clearing LAGGING, the timeout count and an ENTRY move's mark; with the
fault bit set the channel enters FAULT (R115, R116, R119). A clear POLL stops being pending, unless it was
on the link at an entry to HALT (log 11), and completes nothing (R125). In a FAULT channel, which has no
move in flight, the reply acts through the position alone (R115); the mode that counts is the one at the
reply (the model's choice after a ZONE_RESET, log 32). The slice's progress becomes COMPLETE, and SKIPPED
and ENDED at the FAULT entry (R75), and the link is granted anew in turn (R111). A frame that comes after
the reply window is ignored (R113); which it is at the window's last instant (log 37), and that one which
comes before the message has been sent is taken (log 38), are the model's choices. -/
def Obligations.StatusReplyRecordsAndCompletes : Prop :=
  ∀ (zone flags : BitVec 8) (position : BitVec 16) (s : State) (x : Txn), s.zones.length = 16 →
    s.link.txn = some x → x.kind ≠ .send → x.zone = zone.toNat → x.zone < 16 →
    (x.start + 400 ≤ s.now → exec (.statusReply zone position flags) s = .next s) ∧
    (s.now < x.start + 400 →
    ∃ t, exec (.statusReply zone position flags) s = .next t ∧ (∀ y ∈ t.link.txn, y.start = s.now) ∧
      (s.link.abandoned = none → GrantedInTurn s.link.last t) ∧
      t.feed.h = s.feed.h ∧ t.intake = s.intake ∧ t.hides = s.hides ∧ t.settings = s.settings ∧
      (∀ z, z < 16 → z ≠ x.zone → channel t z = channel s z) ∧
      let c : Channel := { channel s x.zone with
        position := some position
        clearPoll := if x.kind = .clearPoll ∧ x.overHalt = false then false
          else (channel s x.zone).clearPoll }
      if c.mode.inService = false then
        c.flight = none → channel t x.zone = c ∧ t.line = s.line ∧ t.track.slices = s.track.slices
      else if flags.getLsbD 1 = true then
        channel t x.zone = { c with mode := .fault, slot := none, flight := none, entryMark := false } ∧
        t.line.notices = s.line.notices ||| LineNotice.zoneFault.bit ∧
        t.track.slices = s.track.slices.map (reportedFault x.zone c)
      else match c.flight with
        | some m =>
          if x.kind = .poll ∧ flags.getLsbD 0 = true then
            channel t x.zone = { c with
              flight := none
              misses := 0
              timeouts := 0
              lagging := false
              entryMark := c.entryMark && decide (m.target.cause ≠ .entry) } ∧ t.line = s.line ∧
            t.track.slices = s.track.slices.map (reported .complete x.zone (some m.target))
          else channel t x.zone = { c with misses := 0 } ∧ t.line = s.line ∧
            t.track.slices = s.track.slices
        | none => channel t x.zone = { c with misses := 0 } ∧ t.line = s.line ∧
            t.track.slices = s.track.slices)

/-- A miss raises the miss count of a TRACK or MANUAL channel and leaves its slot and its move; at 3 the
channel enters FAULT; a clear POLL stops being pending (R112, R117, R119, R125). The close of an abandoned
window frees the link for a grant (R131). Either way the link is granted anew in turn (R111), and a FAULT
entry reports SKIPPED and ENDED (R75). Frames that hold no reply of the transaction on the link, or that
come after its reply window, are ignored (R113). The event's time (log 4), the clear poll over HALT (log
11), the mode that counts after a ZONE_RESET (log 32), the window's last instant (log 37) and its opening at
the grant (log 38) are the model's choices. -/
def Obligations.MissesCountTowardsFault : Prop :=
  ∀ s : State, s.zones.length = 16 →
    (∀ x : Txn, s.link.txn = some x → x.zone < 16 →
      ∃ t, exec .miss s = .next t ∧ t.now = max s.now (x.start + 400) ∧
        (∀ y ∈ t.link.txn, y.start = t.now) ∧
        (s.link.abandoned = none → GrantedInTurn s.link.last t) ∧
        t.feed.h = s.feed.h ∧ t.intake = s.intake ∧ t.hides = s.hides ∧ t.settings = s.settings ∧
        (∀ z, z < 16 → z ≠ x.zone → channel t z = channel s z) ∧
        let c : Channel := { channel s x.zone with
          clearPoll := if x.kind = .clearPoll ∧ x.overHalt = false then false
            else (channel s x.zone).clearPoll }
        if c.mode.inService = false then
          channel t x.zone = c ∧ t.line = s.line ∧ t.track.slices = s.track.slices
        else if c.misses < 2 then
          channel t x.zone = { c with misses := c.misses + 1 } ∧ t.line = s.line ∧
          t.track.slices = s.track.slices
        else
          channel t x.zone = { c with
            misses := c.misses + 1
            mode := .fault
            slot := none
            flight := none
            entryMark := false } ∧
          t.line.notices = s.line.notices ||| LineNotice.zoneFault.bit ∧
          t.track.slices = s.track.slices.map (reportedFault x.zone c)) ∧
    (∀ start, s.link.abandoned = some start → ∃ t, exec .abandonedReplyWindowClose s = .next t ∧
      t.link.abandoned = none ∧ t.now = max s.now (start + 400) ∧ t.zones = s.zones ∧
      t.track = s.track ∧ (s.link.txn = none → GrantedInTurn s.link.last t)) ∧
    ∀ bytes : List (Option (BitVec 8)),
      (∀ x ∈ s.link.txn, s.now < x.start + 400 → ∀ frame ∈ driveFrames bytes, match frame with
        | .accept zone _ => ¬ (x.kind = .send ∧ x.zone = zone.toNat)
        | .status zone _ _ => ¬ (x.kind ≠ .send ∧ x.zone = zone.toNat)) →
      exec (.zoneLinkFrameIgnored bytes) s = .next s

/-- A move that reaches its deadline ends: LAGGING and ZONE_LAGGING, the timeout count rises, the slot is
kept, but for the entry gap placed again behind a timed-out ENTRY move; at the third timeout the channel
enters FAULT (R118, R119). The slice's progress becomes TIMED_OUT, and that of a target waiting at the FAULT
entry SKIPPED (R75). The event's time is the model's choice (log 4). -/
def Obligations.MoveTimeoutEndsTheMove : Prop :=
  ∀ (z : Nat) (s : State) (m : Move), s.zones.length = 16 → z < 16 → (channel s z).flight = some m →
    ∃ t, exec (.moveTimeout z) s = .next t ∧ t.now = max s.now m.deadline ∧
      (s.link.free = true → GrantedInTurn s.link.last t) ∧
      t.feed.h = s.feed.h ∧ t.intake = s.intake ∧ t.hides = s.hides ∧ t.settings = s.settings ∧
      (∀ y, y < 16 → y ≠ z → channel t y = channel s y) ∧
      if (channel s z).timeouts < 2 then
        channel t z = { channel s z with
          flight := none
          lagging := true
          timeouts := (channel s z).timeouts + 1
          slot := if m.target.cause = .entry ∧ (channel s z).entryMark = true ∧ (channel s z).slot = none
            then some { gap := s.settings.geometry.entryGap, cause := .entry, ref := none }
            else (channel s z).slot } ∧
        t.line.notices = s.line.notices ||| LineNotice.zoneLagging.bit ∧
        t.track.slices = s.track.slices.map (reported .timedOut z (some m.target))
      else
        channel t z = { channel s z with
          flight := none
          lagging := true
          timeouts := (channel s z).timeouts + 1
          mode := .fault
          slot := none
          entryMark := false } ∧
        t.line.notices = s.line.notices ||| (LineNotice.zoneLagging.bit ||| LineNotice.zoneFault.bit) ∧
        t.track.slices = s.track.slices.map fun sl =>
          reported .skipped z (channel s z).slot (reported .timedOut z (some m.target) sl)

/-! ## Ports (02, 09, 10) -/

/-- A transfer that ends while RDY is high and carries a request's frame: the port takes it, RDY falls, a
response that was shifted out whole is read, and one still unread is discarded and counted (R24, R28, R172,
R176). A RESET taken at the line port takes SYNC low (R23). SDO carries the unread response from its start
byte on and FF hex after it and where there is none (R191). How many bytes of the transfer passed before a
response came into the transmit buffer (`before`, log 6), how many more before a RESET emptied it out again
(`shown`, log 36), and the record of SDO (log 18) are the model's. So is that a transfer which was in
progress at the event of GAUGE_RESET goes by RDY at its own end, and carries a request where the response
has been placed by then (log 39, beside R42). -/
def Obligations.TransfersWithRdyHighTakeTheRequest : Prop :=
  (∀ (cut tx : Option Response) (n before shown : Nat), (sdoBytes cut tx n ⟨before, shown⟩).length = n ∧
    ∀ i, i < n → (sdoBytes cut tx n ⟨before, shown⟩)[i]? = some
      (if i < before then 0xFF
        else if i < before + shown then (cut.bind fun r => r.frame[i - before]?).getD 0xFF
        else (tx.bind fun r => r.frame[i - (before + shown)]?).getD 0xFF)) ∧
  ∀ (sdi : List (BitVec 8)) (lead : Lead) (c : Instr) (s : State),
    (s.intake.port.rdy = true → PortName.gauge.examine sdi = .request c →
      ∃ t, exec (.gaugeTransferEnd sdi lead) s = .next t ∧
        t = { s with intake := { s.intake with
          unread := t.intake.unread
          port := t.intake.port } } ∧
        t.intake.port.rdy = false ∧ t.intake.port.tx = none ∧
        t.intake.port.rx = some { bytes := frameExtent sdi, acted := false } ∧
        t.intake.port.sdo = sdoBytes s.intake.port.cut s.intake.port.tx sdi.length lead ∧
        t.intake.port.cut = none ∧
        t.intake.unread = (match s.intake.port.tx with
          | some r => if lead.before + lead.shown + r.frame.length ≤ sdi.length then s.intake.unread
              else min 65535 (s.intake.unread + 1)
          | none => s.intake.unread)) ∧
    (s.line.port.rdy = true → PortName.line.examine sdi = .request c →
      ∃ t, exec (.lineTransferEnd sdi lead) s = .next t ∧
        t = { s with
          feed := { s.feed with syncHeld := s.feed.syncHeld || decide (c = .reset) }
          line := { s.line with
            unread := t.line.unread
            port := t.line.port } } ∧
        t.line.port.rdy = false ∧ t.line.port.tx = none ∧
        t.line.port.rx = some { bytes := frameExtent sdi, acted := false } ∧
        t.line.port.sdo = sdoBytes s.line.port.cut s.line.port.tx sdi.length lead ∧
        t.line.port.cut = none ∧
        t.line.unread = (match s.line.port.tx with
          | some r => if lead.before + lead.shown + r.frame.length ≤ sdi.length then s.line.unread
              else min 65535 (s.line.unread + 1)
          | none => s.line.unread))

/-- At either port, a transfer that ends while RDY is high and carries a bad or unknown frame is taken and
answered so, the bad-frame counter rising with a bad one; a frame that ends before its kind is only counted,
and a transfer without a start byte carries nothing (R24, R25, R172, R173). A response that was shifted out
whole is read and leaves the transmit buffer; one that was not is discarded and counted where a frame is
taken, and stays unread where none is (R28, R176). At the gauge port a bad frame of kind SLICE raises
SLICE_REFUSED in PROFILE (R29). That the frame is judged and answered at the transfer's end is the model's
reading (log 5); the operand `lead` and the record of SDO are the model's (logs 6, 18 and 36). -/
def Obligations.BadAndUnknownFramesAreAnswered : Prop :=
  ∀ (sdi : List (BitVec 8)) (lead : Lead) (s : State),
    (s.line.port.rdy = true → s.line.hold = false →
      let left := leftUnread s.line.port.tx sdi.length lead
      let sdo := sdoBytes s.line.port.cut s.line.port.tx sdi.length lead
      let kept : Port :=
        { rdy := true, rx := s.line.port.rx, answer := s.line.port.answer, tx := left
          cut := none, sdo := sdo }
      let taken (answer : Option Response) (acted : Bool) : Port :=
        { rdy := false, rx := some { bytes := frameExtent sdi, acted := acted }, answer := answer, tx := none
          cut := none, sdo := sdo }
      ∃ t, exec (.lineTransferEnd sdi lead) s = .next t ∧
        t = { s with
          feed := { s.feed with syncHeld :=
            s.feed.syncHeld || decide (PortName.line.examine sdi = .request .reset) }
          line := { s.line with
            port := t.line.port
            unread := t.line.unread
            badFrame := t.line.badFrame } } ∧
        match PortName.line.examine sdi with
        | .noFrame => t.line.port = kept ∧ t.line.unread = s.line.unread ∧
            t.line.badFrame = s.line.badFrame
        | .noKind => t.line.port = kept ∧ t.line.unread = s.line.unread ∧
            t.line.badFrame = min 65535 (s.line.badFrame + 1)
        | .badFrame k =>
            t.line.port = taken (some { kind := k, status := .badFrame, fields := [] }) true ∧
            t.line.unread = unreadAfter left s.line.unread ∧
            t.line.badFrame = min 65535 (s.line.badFrame + 1)
        | .unknownKind k =>
            t.line.port = taken (some { kind := k, status := .unknownKind, fields := [] }) true ∧
            t.line.unread = unreadAfter left s.line.unread ∧ t.line.badFrame = s.line.badFrame
        | .request _ => t.line.port = taken s.line.port.answer false ∧
            t.line.unread = unreadAfter left s.line.unread ∧ t.line.badFrame = s.line.badFrame) ∧
    (s.intake.port.rdy = true →
      let left := leftUnread s.intake.port.tx sdi.length lead
      let sdo := sdoBytes s.intake.port.cut s.intake.port.tx sdi.length lead
      let kept : Port :=
        { rdy := true, rx := s.intake.port.rx, answer := s.intake.port.answer, tx := left
          cut := none, sdo := sdo }
      let taken (answer : Option Response) (acted : Bool) : Port :=
        { rdy := false, rx := some { bytes := frameExtent sdi, acted := acted }, answer := answer, tx := none
          cut := none, sdo := sdo }
      ∃ t, exec (.gaugeTransferEnd sdi lead) s = .next t ∧
        t = { s with intake := { s.intake with
          port := t.intake.port
          unread := t.intake.unread
          badFrame := t.intake.badFrame
          notices := t.intake.notices } } ∧
        match PortName.gauge.examine sdi with
        | .noFrame => t.intake.port = kept ∧ t.intake.unread = s.intake.unread ∧
            t.intake.badFrame = s.intake.badFrame ∧ t.intake.notices = s.intake.notices
        | .noKind => t.intake.port = kept ∧ t.intake.unread = s.intake.unread ∧
            t.intake.badFrame = min 65535 (s.intake.badFrame + 1) ∧ t.intake.notices = s.intake.notices
        | .badFrame k =>
            t.intake.port = taken (some { kind := k, status := .badFrame, fields := [] }) true ∧
            t.intake.unread = unreadAfter left s.intake.unread ∧
            t.intake.badFrame = min 65535 (s.intake.badFrame + 1) ∧
            t.intake.notices = (if k = 0x01 ∧ s.ctl.strap = .profile
              then s.intake.notices ||| GaugeNotice.sliceRefused.bit else s.intake.notices)
        | .unknownKind k =>
            t.intake.port = taken (some { kind := k, status := .unknownKind, fields := [] }) true ∧
            t.intake.unread = unreadAfter left s.intake.unread ∧
            t.intake.badFrame = s.intake.badFrame ∧ t.intake.notices = s.intake.notices
        | .request _ => t.intake.port = taken s.intake.port.answer false ∧
            t.intake.unread = unreadAfter left s.intake.unread ∧
            t.intake.badFrame = s.intake.badFrame ∧ t.intake.notices = s.intake.notices)

/-- A transfer that carries a start byte and ends while RDY is low is an overrun, counted and noticed, with
the request being answered unaffected (R27, R175); at the line port a well-formed RESET enters the reset
hold instead, unless a RESET is being answered (R177). Without a start byte it only shifts SDO. The operand
`lead` and the record of SDO are the model's (logs 6, 18 and 36), and a transfer that was in progress at the
event of GAUGE_RESET goes by RDY at its own end (log 39, beside R42). -/
def Obligations.TransfersWithRdyLowAreOverruns : Prop :=
  ∀ (sdi : List (BitVec 8)) (lead : Lead) (s : State),
    (s.intake.port.rdy = false →
      exec (.gaugeTransferEnd sdi lead) s = .next { s with intake := { s.intake with
        overrun := if requestStart ∈ sdi then min 65535 (s.intake.overrun + 1) else s.intake.overrun
        notices := if requestStart ∈ sdi ∧ s.ctl.strap = .profile
          then s.intake.notices ||| GaugeNotice.overrun.bit else s.intake.notices
        port := { s.intake.port with
          cut := none
          sdo := sdoBytes s.intake.port.cut s.intake.port.tx sdi.length lead } } }) ∧
    (s.line.port.rdy = false →
      exec (.lineTransferEnd sdi lead) s = .next
        (if PortName.line.examine sdi = .request .reset ∧ s.feed.syncHeld = false then
          { s with
            feed := { s.feed with syncHeld := true }
            line := { s.line with
              hold := true
              port := { s.line.port with
                answer := none
                cut := none
                sdo := sdoBytes s.line.port.cut s.line.port.tx sdi.length lead } } }
        else { s with line := { s.line with
          overrun := if requestStart ∈ sdi then min 65535 (s.line.overrun + 1) else s.line.overrun
          notices := if requestStart ∈ sdi then s.line.notices ||| LineNotice.overrun.bit
            else s.line.notices
          port := { s.line.port with
            cut := none
            sdo := sdoBytes s.line.port.cut s.line.port.tx sdi.length lead } } }))

/-- Placing a response fills the transmit buffer, raises RDY and empties the receive buffer (R24, R172);
that of a RESET releases SYNC and raises SYNC_RESTART in PROFILE (R23, R185), also where sync is SETTLING by
then (the model's choice, log 31). While an interrupted request still waits for its event the placing waits
(the model's choice, log 26). SYNC is high in LOCKED but while a RESET is answered (R8), and ATN of either
port just while a notice of its set is set and unmasked (R29, R178). -/
def Obligations.PlacingAResponseRaisesRdy : Prop :=
  (∀ s : State,
    (syncOutput s = true ↔ s.feed.sync = .locked ∧ s.feed.syncHeld = false) ∧
    (lineAtn s = true ↔
      ∃ i, i < 18 ∧ s.line.notices.getLsbD i = true ∧ s.line.mask.getLsbD i = false) ∧
    (gaugeAtn s = true ↔
      ∃ i, i < 5 ∧ s.intake.notices.getLsbD i = true ∧ s.intake.mask.getLsbD i = false)) ∧
  ∀ (s : State) (r : Response),
    (s.intake.port.answer = some r →
      exec .gaugeResponsePlaced s = .next { s with intake := { s.intake with
        port := { s.intake.port with rdy := true, rx := none, answer := none, tx := some r } } }) ∧
    (s.line.port.answer = some r →
      (s.line.hold = false ∨ ∀ f ∈ s.line.port.rx, f.acted = true) →
      exec .lineResponsePlaced s = .next { s with
        feed := { s.feed with
          syncHeld := s.feed.syncHeld && !(decide (r.kind = 0x3E) && decide (r.status = .ok)) }
        intake := { s.intake with notices :=
          if r.kind = 0x3E ∧ r.status = .ok ∧ s.ctl.strap = .profile
          then s.intake.notices ||| GaugeNotice.syncRestart.bit else s.intake.notices }
        line := { s.line with
          hold := false
          port := { s.line.port with rdy := true, rx := none, answer := none, tx := some r } } }) ∧
    (s.line.hold = true → (∃ f ∈ s.line.port.rx, f.acted = false) →
      exec .lineResponsePlaced s = .next s)

/-! ## Gauge requests (02, 03) -/

/-- A SLICE in PROFILE for a strobe newer than the newest issued, not in the list, or already answered is
refused and changes a counter and a notice alone; otherwise its reply is stored, and where its entry is the
head, that entry and those behind it that hold replies depart, the first of them into the track where its
hide is not finished. The reply has sixteen readings: of a zone below n and below the active zone count, 0
to 3000 is a thickness, 8000 hex absent and every other value doubtful; every other zone is absent (R37,
R194). In FIXED, and with more than 16 readings, it is refused (R32, R34, R37, R43). -/
def Obligations.SliceIsJudgedStoredAndDeparts : Prop :=
  ∀ (n : BitVec 16) (raw : List (BitVec 16)) (s : State),
    if 16 < raw.length then exec (.slice n raw) s = .next (answerGauge 0x01 .badFrame [] { s with
      intake := { s.intake with
        badFrame := min 65535 (s.intake.badFrame + 1)
        notices := if s.ctl.strap = .profile then s.intake.notices ||| GaugeNotice.sliceRefused.bit
          else s.intake.notices } })
    else
    let reply := replyOf s.ctl.activeZones raw
    let refused (st : Status) (i : Intake) : Outcome State Fault Refusal :=
      .next (answerGauge 0x01 st (nat8 s.intake.list.length)
        { s with intake := { i with notices := s.intake.notices ||| GaugeNotice.sliceRefused.bit } })
    reply.length = 16 ∧
    (∀ z, z < 16 → reply[z]? = some
      (if z < s.ctl.activeZones then match raw[z]? with
          | some v => if v.toNat ≤ 3000 then .thickness v.toNat
              else if v = 0x8000 then .absent else .doubtful
          | none => .absent
        else .absent)) ∧
    (s.ctl.strap = .fixed → exec (.slice n raw) s =
      .next (answerGauge 0x01 .wrongState (nat8 s.intake.list.length) s)) ∧
    (s.ctl.strap = .profile →
      (s.feed.newest = none → exec (.slice n raw) s = refused .badValue s.intake) ∧
      ∀ newest, s.feed.newest = some newest →
        (older newest.num n = true → exec (.slice n raw) s = refused .badValue s.intake) ∧
        (older newest.num n = false →
          ((∀ e ∈ s.intake.list, e.num ≠ n) → exec (.slice n raw) s =
            refused .late { s.intake with late := min 65535 (s.intake.late + 1) }) ∧
          ∀ e, s.intake.list.find? (fun e => e.num = n) = some e →
            (e.reply.isSome = true → exec (.slice n raw) s =
              refused .duplicate { s.intake with duplicate := min 65535 (s.intake.duplicate + 1) }) ∧
            (e.reply = none → (∃ d ∈ s.intake.list.head?, d.num ≠ n ∧ d.reply = none) →
              exec (.slice n raw) s =
                .next (answerGauge 0x01 .ok (nat8 s.intake.list.length) { s with intake := { s.intake with
                  list := s.intake.list.map fun d =>
                    if d.num = n then { d with reply := some reply } else d } })) ∧
            (e.reply = none → ∀ rest, s.intake.list = e :: rest → (∀ d ∈ rest, d.num ≠ n) →
              ∃ t k, exec (.slice n raw) s = .next t ∧ t.intake.list = rest.drop k ∧
                (∀ d ∈ rest.take k, d.reply.isSome = true) ∧ (∀ d ∈ (rest.drop k).head?, d.reply = none) ∧
                t.intake.port.answer =
                  some { kind := 0x01, status := .ok, fields := nat8 (rest.drop k).length } ∧
                t.feed = s.feed ∧ t.zones = s.zones ∧ t.link = s.link ∧ t.ctl = s.ctl ∧
                t.settings = s.settings ∧
                ∃ entered, t.track.slices = s.track.slices ++ entered ∧
                  match memberOf n s.hides.records with
                  | some r => r.state.unfinished = true → entered.head? = some
                      { strobe := n, pos := e.pos, hide := r.number, readings := some reply,
                        stage := .entered, results := [] }
                  | none => t.intake.notices &&& GaugeNotice.orphan.bit = GaugeNotice.orphan.bit)))

/-- An ANNOUNCE that passes the checks of R47 fills a record under the next hide number with the first
strobe, the tag, the current article and the edge found, replaces an open hide that began at or after it,
ends one that began before it, and reclaims the oldest finished record where all eight are in use; the next
hide number then advances by one, 1 after 65535, past the numbers in use (R46). One that does not pass is
refused with the status of the first check that fails: its first strobe is not newer than the last strobe of
a record in SCANNED or SPLITTING (check 4), or no record is FREE or finished and no open hide is replaced
(check 5) (R22, R38, R46 to R51). Strobe a is older than b where the signed difference b − a is positive;
that a difference of half the number range counts as negative is the model's reading (log 30). -/
def Obligations.AnnounceOpensAHideOrIsRefused : Prop :=
  (∀ a b : BitVec 16, older a b = true ↔ 0 < (b - a).toInt) ∧
  ∀ (f tag : BitVec 16) (s : State),
    let claimed : Prop := ∃ r ∈ s.hides.records, (r.state = .scanned ∨ r.state = .splitting) ∧
      ∃ l ∈ r.last, older l f = false
    let tableFull : Prop := 8 ≤ s.hides.records.length ∧ s.hides.completion = [] ∧
      ∀ o ∈ openHide s, older o.first.num f = true
    (s.ctl.strap = .fixed → exec (.announce f tag) s = .next (answerGauge 0x02 .wrongState (be16 0) s)) ∧
    (s.ctl.strap = .profile → ∀ st : Status,
      ((st = .wrongState ∧ s.ctl.phase.permitsStrobes = false) ∨
        (s.ctl.phase.permitsStrobes = true ∧
          ((st = .badValue ∧ ∀ newest ∈ s.feed.newest, older newest.num f = true) ∨
            ((∃ newest ∈ s.feed.newest, older newest.num f = false) ∧
              ((st = .late ∧ ∀ e ∈ s.intake.list, e.num ≠ f) ∨
                ((∃ e ∈ s.intake.list, e.num = f) ∧
                  ((st = .badValue ∧ claimed) ∨ (st = .tableFull ∧ ¬ claimed ∧ tableFull)))))))) →
      exec (.announce f tag) s = .next (answerGauge 0x02 st (be16 0) { s with intake := { s.intake with
        notices := s.intake.notices ||| GaugeNotice.hideRefused.bit
        refusedAnnounce := min 65535 (s.intake.refusedAnnounce + 1) } })) ∧
    (HideTableSound s → s.ctl.strap = .profile → s.ctl.phase.permitsStrobes = true →
      (∃ newest ∈ s.feed.newest, older newest.num f = false) → ¬ claimed → ¬ tableFull →
      ∀ e, s.intake.list.find? (fun e => e.num = f) = some e →
      let replaced : Option HideRecord := (openHide s).filter fun o => !older o.first.num f
      let edge : Option (BitVec 32) := match replaced with
        | some o => o.edge
        | none => s.feed.capture
      let after (m : BitVec 16) : BitVec 16 := if m = 65535 then 1 else m + 1
      ∃ t r, exec (.announce f tag) s = .next t ∧
        t.intake.port.answer = some { kind := 0x02, status := .ok, fields := be16 s.hides.nextNumber } ∧
        t.intake.list = s.intake.list ∧ t.track.slices = s.track.slices ∧ t.ctl = s.ctl ∧ t.link = s.link ∧
        t.feed = (if replaced.isSome then s.feed
          else { s.feed with capture := none, overwrite := false }) ∧
        findHide t s.hides.nextNumber = some r ∧ openHide t = some r ∧
        r.number = s.hides.nextNumber ∧ r.tag = tag ∧ r.state = .scanning ∧ r.cause = none ∧
        r.row = s.settings.current ∧
        (∀ a, s.settings.articles[s.settings.current]? = some a → r.article = a) ∧
        r.edge = edge ∧ r.first = { num := f, pos := e.pos } ∧ r.last = none ∧ r.rangeOpen = true ∧
        r.newestEntered = none ∧ r.inTrack = 0 ∧ r.sliceCount = 0 ∧ r.gapCount = 0 ∧ r.gapRun = 0 ∧
        r.area = 0 ∧ r.deviation = 0 ∧ r.tMin = none ∧ r.tMax = none ∧
        r.counts = List.replicate 16 ZoneCounts.zero ∧
        r.flags = { edgeMismatch := match edge with
                      | some c => decide ((s.settings.geometry.edgeTolerance : Int) <
                          |posDiff (posPlus c s.settings.geometry.infeed) e.pos|)
                      | none => false
                    noEdge := edge.isNone
                    gaugeLost := false
                    forcedEnd := false
                    manualInfluence := false
                    slip := false } ∧
        (r.flags.noEdge || r.flags.edgeMismatch →
          t.line.notices &&& LineNotice.edge.bit = LineNotice.edge.bit) ∧
        t.zones = s.zones.map (fun c =>
          { c with base := c.base.filter fun b => b.hide ≠ s.hides.nextNumber }) ∧
        (∀ o ∈ replaced, findHide t o.number = none) ∧
        (∀ o, openHide s = some o → replaced = none → ∃ q, findHide t o.number = some q ∧
          q.last = some (f - 1) ∧ q.flags.forcedEnd = true ∧
          (q.state = (if o.state = .scanning then .scanned else .splitting) ∨ q.state = .done)) ∧
        (∃ k, k ≤ 7 ∧ t.hides.nextNumber = after^[k + 1] s.hides.nextNumber ∧
          (∀ j, j < k → ∃ q ∈ t.hides.records, q.number = after^[j + 1] s.hides.nextNumber) ∧
          ∀ q ∈ t.hides.records, q.number ≠ t.hides.nextNumber) ∧
        (replaced = none → s.hides.records.length = 8 → ∃ n, s.hides.completion.head? = some n ∧
          findHide t n = none ∧ t.hides.reclaimed = min 65535 (s.hides.reclaimed + 1) ∧
          t.line.notices &&& LineNotice.reportLost.bit = LineNotice.reportLost.bit))

/-- END ends the open hide at the later of the named strobe and the newest entered one, forced where that is
the newest entered; a hide whose last slice is past the knife is DONE (R52, R53, R59), and a pending knife
profile is applied where no hide is left in SCAN_SPLIT or SPLITTING (R84). GAUGE_RESET lets every
outstanding strobe depart, head to tail, into the track by the hide found for it or as an orphan, and ends
an open hide by force, and leaves the numbering, the sync state and the mask (R33, R34, R42). Both are
refused in FIXED, and END where no hide is open or its strobe is out of range. At a rise of H an open hide
longer than the maximum hide length is ended by force at the newest issued strobe (R54). -/
def Obligations.EndAndGaugeResetEndTheOpenHide : Prop :=
  (∀ s : State, (openHide s = none → riseLength s = s) ∧
    ∀ (r : HideRecord) (newest : StrobeId), HideTableSound s → openHide s = some r →
      s.feed.newest = some newest →
      if (s.settings.geometry.maxLength : Int) < posDiff r.first.pos s.feed.h then
        openHide (riseLength s) = none ∧
        (∃ q, findHide (riseLength s) r.number = some q ∧ q.last = some newest.num ∧
          q.flags = { r.flags with forcedEnd := true } ∧ q.counts = r.counts ∧
          q.state = (if r.state = .scanning then .scanned
            else if r.newestEntered = some newest.num ∧ r.inTrack = 0 then .done else .splitting)) ∧
        (riseLength s).line.notices &&& LineNotice.forcedEnd.bit = LineNotice.forcedEnd.bit ∧
        (riseLength s).feed = s.feed ∧ (riseLength s).intake = s.intake ∧
        (riseLength s).zones = s.zones ∧ (riseLength s).track.slices = s.track.slices
      else riseLength s = s) ∧
  ∀ (last : BitVec 16) (s : State),
    (s.ctl.strap = .fixed →
      exec (.endHide last) s = .next (answerGauge 0x03 .wrongState (be16 0 ++ be16 0) s) ∧
      exec .gaugeReset s = .next (answerGauge 0x07 .wrongState [0] s)) ∧
    (s.ctl.strap = .profile → ∀ st : Status,
      ((st = .noSuchHide ∧ openHide s = none) ∨
        (st = .badValue ∧ ∃ r ∈ openHide s, older last r.first.num = true ∨
          ∀ newest ∈ s.feed.newest, older newest.num last = true)) →
      exec (.endHide last) s = .next (answerGauge 0x03 st (be16 0 ++ be16 0) { s with
        intake := { s.intake with
          notices := s.intake.notices ||| GaugeNotice.hideRefused.bit } })) ∧
    (HideTableSound s → s.ctl.strap = .profile → ∀ r, openHide s = some r →
      older last r.first.num = false → (∃ newest ∈ s.feed.newest, older newest.num last = false) →
      let forced := r.newestEntered.any fun n => older last n
      let taken := if forced then r.newestEntered.getD last else last
      ∃ t q, exec (.endHide last) s = .next t ∧ openHide t = none ∧
        t.intake.port.answer =
          some { kind := 0x03, status := .ok, fields := be16 r.number ++ be16 taken } ∧
        (anyConverting s = true → PendingWaitsOrApplied s t) ∧
        findHide t r.number = some q ∧ q.last = some taken ∧ q.article = r.article ∧
        q.counts = r.counts ∧ q.flags = { r.flags with forcedEnd := r.flags.forcedEnd || forced } ∧
        q.state = (if r.state = .scanning then .scanned
          else if r.newestEntered = some taken ∧ r.inTrack = 0 then .done else .splitting) ∧
        t.feed.h = s.feed.h ∧ t.feed.newest = s.feed.newest ∧ t.feed.nextNum = s.feed.nextNum ∧
        (forced = true → t.line.notices &&& LineNotice.forcedEnd.bit = LineNotice.forcedEnd.bit)) ∧
    (HideTableSound s → s.ctl.strap = .profile →
      let orphans := (s.intake.list.filter (isOrphan s.hides.records)).length
      ∃ t, exec .gaugeReset s = .next t ∧ t.intake.list = [] ∧ openHide t = none ∧
        t.intake.port.answer =
          some { kind := 0x07, status := .ok, fields := nat8 s.intake.list.length } ∧
        t.track.slices = s.track.slices ++ s.intake.list.filterMap (enteredFor s.hides.records) ∧
        t.intake.orphan = orphansAfter s.intake.orphan orphans ∧
        t.intake.notices = (if orphans = 0 then s.intake.notices
          else s.intake.notices ||| GaugeNotice.orphan.bit) ∧
        t.intake.port.rx = none ∧ t.intake.mask = s.intake.mask ∧
        t.feed.nextNum = s.feed.nextNum ∧ t.feed.newest = s.feed.newest ∧ t.feed.sync = s.feed.sync ∧
        t.feed.h = s.feed.h ∧
        (∀ r, openHide s = some r → ∃ q, findHide t r.number = some q ∧ q.state.isOpen = false ∧
          q.flags.forcedEnd = true ∧ (q.newestEntered.isSome = true → q.last = q.newestEntered)))

/-- The reads answer with the records that the layouts of chapter 10 give, of the widths given there and
with every field at its bytes, in the codes of R193, and change nothing but their port (R40, R41, R64, R86,
R130, R160, R170, R182, R184, R195). The remaining dwell time (log 22), the time since accept (log 33), the
bytes of an absent position (log 34) and of an absent base (log 15), and the link shown while an abandoned
reply window runs (log 12) are the model's. Beside them, CLEAR_GAUGE_NOTICES clears the notices named and
replaces the mask where one is sent (R30); it and GAUGE_STATUS are refused in FIXED, as WAKE_REQUEST is
(R43). The article bytes for a row above 31 are free values (log 14). -/
def Obligations.ReadsAnswerWithTheirRecords : Prop :=
  CodesAsListed ∧ ∀ s : State,
    (exec .readStatus s = .next (answerLine 0x3B .ok (statusRecord s) s) ∧
      (statusRecord s).length = 71 ∧ StatusRecordReads s (statusRecord s)) ∧
    (exec .readCounters s = .next (answerLine 0x3C .ok (counterRecord s) s) ∧
      (counterRecord s).length = 22 ∧
      WordsRead [s.intake.overrun, s.intake.badFrame, s.intake.unread, s.intake.late, s.intake.duplicate,
        s.intake.orphan, s.intake.refusedAnnounce, s.line.overrun, s.line.badFrame, s.line.unread,
        s.hides.reclaimed] (counterRecord s) 0) ∧
    (exec .readSettings s = .next (answerLine 0x3A .ok (settingsRecord s) s) ∧
      (settingsRecord s).length = 101 ∧ SettingsRecordReads s (settingsRecord s)) ∧
    (exec .readZones s = .next (answerLine 0x2F .ok (zonesRecord s) s) ∧ (zonesRecord s).length = 517 ∧
      (∀ z, z < 16 → ZoneRecordReads s.now (channel s z) ((zonesRecord s).drop (32 * z))) ∧
      LinkRecordReads s ((zonesRecord s).drop 512)) ∧
    (∀ row, row < 32 → s.settings.articles.length = 32 →
      ∃ a, s.settings.articles[row]? = some a ∧ exec (.readArticle row) s =
        .next (answerLine 0x32 .ok (a.bytes ++ nat8 s.settings.current) s) ∧ a.bytes.length = 28 ∧
        ArticleReads a a.bytes 0) ∧
    (∀ row, 31 < row → exec (.readArticle row) s = .next (answerLine 0x32 .badValue
      ((List.range 28).map (Config.noRowByte row) ++ nat8 s.settings.current) s)) ∧
    (∀ n r, findHide s n = some r →
      exec (.readHide n) s = .next (answerLine 0x29 .ok (hideReport s.ctl.activeZones r) s) ∧
      (hideReport s.ctl.activeZones r).length = 388 ∧
      HideReportReads s.ctl.activeZones r (hideReport s.ctl.activeZones r)) ∧
    (∀ n, findHide s n = none →
      exec (.readHide n) s = .next (answerLine 0x29 .noSuchHide (List.replicate 388 0) s)) ∧
    (∀ place count, count = 0 ∨ 16 < count → exec (.readTrack place count) s =
      .next (answerLine 0x2B .badValue (trackHeader 0 s) s) ∧ (trackHeader 0 s).length = 16 ∧
      TrackHeaderReads 0 s (trackHeader 0 s)) ∧
    (∀ sl : Slice, sl.summary.length = 58 ∧ SummaryReads sl sl.summary) ∧
    (∀ place count, 1 ≤ count → count ≤ 16 →
      let asked := (s.track.slices.drop place).take count
      exec (.readTrack place count) s = .next (answerLine 0x2B .ok
        (trackHeader asked.length s ++ asked.flatMap Slice.summary) s) ∧
      (trackHeader asked.length s ++ asked.flatMap Slice.summary).length =
        16 + 58 * min count (s.track.slices.length - place) ∧
      TrackHeaderReads asked.length s (trackHeader asked.length s)) ∧
    (exec .gaugeSetup s = .next (answerGauge 0x06 .ok (gaugeSetupRecord s) s) ∧
      (gaugeSetupRecord s).length = 6 ∧ GaugeSetupReads s (gaugeSetupRecord s)) ∧
    (s.ctl.strap = .profile →
      exec .gaugeStatus s = .next (answerGauge 0x05 .ok (gaugeStatusRecord s) s) ∧
      (gaugeStatusRecord s).length = 13 ∧ GaugeStatusReads s (gaugeStatusRecord s) ∧
      ∀ (named : BitVec 8) (mask : Option (BitVec 8)),
        let notices := s.intake.notices &&& ~~~(named.setWidth 5)
        let mask' := (mask.map fun m => m.setWidth 5).getD s.intake.mask
        exec (.clearGaugeNotices named mask) s = .next
          (answerGauge 0x08 .ok [gaugeByte notices, gaugeByte mask']
            { s with intake := { s.intake with notices := notices, mask := mask' } })) ∧
    (s.ctl.strap = .fixed →
      exec .gaugeStatus s = .next (answerGauge 0x05 .wrongState (gaugeStatusRecord s) s) ∧
      exec .wakeRequest s = .next (answerGauge 0x04 .wrongState [] s) ∧
      ∀ named mask, exec (.clearGaugeNotices named mask) s = .next
        (answerGauge 0x08 .wrongState [gaugeByte s.intake.notices, gaugeByte s.intake.mask] s))

/-! ## Line requests (03, 06, 07, 08) -/

/-- START gives every TRACK channel the entry gap and its mark and enters RESUMING, or RUN where no channel
holds a mark (R121, R138, R139). CLEAR leaves a HALT whose input is released for STANDBY and sets the clear
polls (R125, R152). REST in RUN sets the rest target and enters BRAKING, CLEARING or the rest itself, and is
refused while the wake condition holds (R141 to R143). -/
def Obligations.StartClearAndRestMoveTheMachine : Prop :=
  ∀ s : State, s.zones.length = 16 →
    (s.pins.halt = true → exec .start s = .next (answerLine 0x20 .halted [s.ctl.phase.code] s)) ∧
    (s.pins.halt = false → s.ctl.phase ≠ .standby →
      exec .start s = .next (answerLine 0x20 .wrongState [s.ctl.phase.code] s)) ∧
    (s.pins.halt = false → s.ctl.phase = .standby → ∃ t, exec .start s = .next t ∧
      t.ctl.phase = (if s.zones.any (fun c => c.mode = .track || c.entryMark) then .resuming else .run) ∧
      (s.line.hold = false → t.line.port.answer =
        some { kind := 0x20, status := .ok, fields := [t.ctl.phase.code] }) ∧
      t.line.notices = s.line.notices ∧ t.hides = s.hides ∧ t.intake = s.intake ∧
      t.settings = s.settings ∧ t.feed.h = s.feed.h ∧ t.ctl.flags = s.ctl.flags ∧
      ∀ z, z < 16 → channel t z = if (channel s z).mode = .track then
        { channel s z with
          slot := some { gap := s.settings.geometry.entryGap, cause := .entry, ref := none }
          entryMark := true } else channel s z) ∧
    (s.ctl.phase ≠ .halt ∨ s.pins.halt = true →
      exec .clear s = .next (answerLine 0x23 .wrongState [s.ctl.phase.code] s)) ∧
    (s.ctl.phase = .halt → s.pins.halt = false → ∃ t, exec .clear s = .next t ∧
      t.ctl.phase = .standby ∧ t.ctl.feedStop = true ∧ t.line.notices = s.line.notices ∧
      (s.line.hold = false → t.line.port.answer =
        some { kind := 0x23, status := .ok, fields := [Phase.standby.code] }) ∧
      t.hides = s.hides ∧ t.intake = s.intake ∧ t.track = s.track ∧ t.settings = s.settings ∧
      (s.link.free = true → GrantedInTurn s.link.last t) ∧
      ∀ z, z < 16 → channel t z = { channel s z with
        clearPoll := (channel s z).clearPoll || decide ((channel s z).mode ≠ .off) }) ∧
    ∀ code : BitVec 8,
      (∀ st : Status, ((st = .badValue ∧ code ≠ 1 ∧ code ≠ 2) ∨ ((code = 1 ∨ code = 2) ∧
          ((st = .wrongState ∧ s.ctl.phase ≠ .run) ∨
            (st = .wakePending ∧ s.ctl.phase = .run ∧ s.ctl.flags &&& s.ctl.enables ≠ 0)))) →
        exec (.rest code) s = .next (answerLine 0x21 st
          [s.ctl.phase.code, wakeByte s.ctl.flags, wakeByte s.ctl.enables] s)) ∧
      (s.ctl.phase = .run → s.ctl.flags &&& s.ctl.enables = 0 → code = 1 ∨ code = 2 →
        ∃ t, exec (.rest code) s = .next t ∧
          t.ctl.restTarget = (if code = 1 then .dwell else .park) ∧
          t.ctl.phase = (if code = 2 ∧ ¬ (anyUnfinished s = false ∧ s.track.slices = []) then .clearing
            else if s.pins.feedStill then (if code = 1 then .dwell else .park) else .braking) ∧
          (s.line.hold = false → t.line.port.answer = some
            { kind := 0x21, status := .ok
              fields := [t.ctl.phase.code, wakeByte s.ctl.flags, wakeByte s.ctl.enables] }) ∧
          t.ctl.flags = s.ctl.flags ∧ t.ctl.enables = s.ctl.enables ∧ t.feed.h = s.feed.h ∧
          (t.ctl.phase = .dwell ∨ t.ctl.phase = .park → t.ctl.dwell =
            { running := true, remaining := s.settings.dwellTime, start := s.now }))

/-- BIND replaces the article snapshot of a hide that is SCANNING or SCANNED, and is LATE after that (R57).
ABANDON takes an unfinished hide's slices out of the track, detaches its targets, and ends it as ABANDONED
with cause LINE (R60, R79); its strobe range stays open only while a strobe of it is outstanding (R60, R67),
and a pending knife profile is applied where no hide is left in SCAN_SPLIT or SPLITTING (R84). RELEASE frees
a finished record, and READ_REPORT reads the record at the cursor and moves the cursor on (R62, R63, R65). A
refused request carries its fields too (R180, R181): that the hide number asked for is echoed in a refused
BIND, ABANDON or RELEASE is the model's reading (log 16). -/
def Obligations.HideRequestsActOnTheRecordNamed : Prop :=
  ∀ (n : BitVec 16) (s : State),
    (∀ row, 31 < row →
      exec (.bind n row) s = .next (answerLine 0x26 .badValue (be16 n ++ nat8 0) s)) ∧
    (findHide s n = none →
      (∀ row, row < 32 → exec (.bind n row) s =
        .next (answerLine 0x26 .noSuchHide (be16 n ++ nat8 0) s)) ∧
      exec (.abandon n) s = .next (answerLine 0x27 .noSuchHide (be16 n ++ nat16 0) s) ∧
      exec (.release n) s = .next (answerLine 0x28 .noSuchHide (be16 n) s)) ∧
    (s.hides.completion.length ≤ s.hides.cursor →
      exec .readReport s = .next (answerLine 0x2A .empty (List.replicate 388 0) s)) ∧
    ∀ r : HideRecord, HideTableSound s → findHide s n = some r →
    (∀ row a, row < 32 → s.settings.articles[row]? = some a → (r.state = .scanning ∨ r.state = .scanned) →
      exec (.bind n row) s = .next (answerLine 0x26 .ok (be16 n ++ nat8 row) { s with
        hides := { s.hides with records := s.hides.records.map fun q =>
          if q.number = n then { q with row := row, article := a } else q } })) ∧
    (∀ row, row < 32 → r.state ≠ .scanning → r.state ≠ .scanned →
      exec (.bind n row) s = .next (answerLine 0x26
        (if r.state = .abandoned then .wrongState else .late) (be16 n ++ nat8 r.row) s)) ∧
    (r.state.unfinished = false →
      exec (.abandon n) s = .next (answerLine 0x27 .wrongState (be16 n ++ nat16 0) s)) ∧
    (r.state.unfinished = true →
      exec (.release n) s = .next (answerLine 0x28 .wrongState (be16 n) s)) ∧
    (r.state.unfinished = true → ∃ t q, exec (.abandon n) s = .next t ∧
      t.track.slices = s.track.slices.filter (fun sl => sl.hide ≠ n) ∧
      t.track.readCount = s.track.readCount ∧ t.track.gapCount = s.track.gapCount ∧
      (s.line.hold = false → t.line.port.answer = some
        { kind := 0x27, status := .ok, fields :=
          be16 n ++ nat16 (s.track.slices.length - t.track.slices.length) }) ∧
      findHide t n = some q ∧ q.state = .abandoned ∧ q.cause = some .line ∧ q.inTrack = 0 ∧
      q.last = (if r.state.isOpen then s.feed.newest.map StrobeId.num else r.last) ∧ q.first = r.first ∧
      (q.rangeOpen = true ↔ r.rangeOpen = true ∧ ∃ e ∈ t.intake.list, InRange q.first.num q.last e.num) ∧
      (anyConverting s = true → PendingWaitsOrApplied s t) ∧
      q.counts = r.counts ∧ q.article = r.article ∧ q.flags = r.flags ∧
      t.hides.completion = s.hides.completion ++ [n] ∧ t.hides.cursor = s.hides.cursor ∧
      t.line.notices &&& LineNotice.hideAbandoned.bit = LineNotice.hideAbandoned.bit ∧
      (∀ c ∈ t.zones, (∀ x ∈ c.slot, ∀ i ∈ x.ref, i.hide ≠ n) ∧
        (∀ m ∈ c.flight, ∀ i ∈ m.target.ref, i.hide ≠ n)) ∧
      (s.ctl.phase ≠ .clearing →
        t.zones.map (fun c => (c.slot.map Target.gap, c.flight.map fun m => m.target.gap)) =
          s.zones.map (fun c => (c.slot.map Target.gap, c.flight.map fun m => m.target.gap)))) ∧
    (r.state.unfinished = false → exec (.release n) s = .next (answerLine 0x28 .ok (be16 n) { s with
      hides := { s.hides with
        records := s.hides.records.filter fun q => q.number ≠ n
        completion := s.hides.completion.filter fun m => m ≠ n
        cursor := if n ∈ s.hides.completion.take s.hides.cursor then s.hides.cursor - 1
          else s.hides.cursor } })) ∧
    (s.hides.completion[s.hides.cursor]? = some n → exec .readReport s =
      .next (answerLine 0x2A .ok (hideReport s.ctl.activeZones r) { s with
        hides := { s.hides with cursor := s.hides.cursor + 1 } }))

/-- ZONE_MOVE places its clamped target in a MANUAL zone's slot (R127). ZONE_MODE sets the mode, removes the
base, drops a waiting TRACK target and the entry mark of a zone that leaves TRACK, and flags the converting
hides (R66, R128). A target replaced or dropped is reported SKIPPED (R75), and a free link is granted in
turn (R111). ZONE_RESET returns a FAULT zone to MANUAL (R129). The mode shown for a zone above 15 is a free
value (log 14). -/
def Obligations.ZoneRequestsActOnTheirZone : Prop :=
  ∀ (z : Nat) (s : State), s.zones.length = 16 →
    (15 < z →
      (∀ target, exec (.zoneMove z target) s = .next (answerLine 0x2C .badValue [0, 0, 0] s)) ∧
      (∀ code, exec (.zoneMode z code) s =
        .next (answerLine 0x2D .badValue [Config.noZoneMode z, 0] s)) ∧
      exec (.zoneReset z) s = .next (answerLine 0x2E .badValue [] s)) ∧
    (z < 16 →
    (∀ target : Int, s.ctl.phase = .halt ∨ (channel s z).mode ≠ .manual →
      exec (.zoneMove z target) s = .next (answerLine 0x2C .wrongState [0, 0, 0] s)) ∧
    (∀ (code : BitVec 8) (st : Status), ((st = .badValue ∧ code ≠ 1 ∧ code ≠ 2) ∨
        (st = .wrongState ∧ ((code = 1 ∨ code = 2) ∧ (channel s z).mode.inService = false ∨
          code = 1 ∧ s.ctl.strap = .fixed))) →
      exec (.zoneMode z code) s = .next (answerLine 0x2D st [(channel s z).mode.code, 0] s)) ∧
    ((channel s z).mode ≠ .fault →
      exec (.zoneReset z) s = .next (answerLine 0x2E .wrongState [] s)) ∧
    (∀ target : Int, s.ctl.phase ≠ .halt → (channel s z).mode = .manual →
      let placed := max 20 (min 900 target)
      ∃ t, exec (.zoneMove z target) s = .next t ∧
        (s.line.hold = false → t.line.port.answer = some
          { kind := 0x2C, status := .ok, fields := int16 placed ++ [flagByte (decide (placed ≠ target))] }) ∧
        t.feed = s.feed ∧ t.intake = s.intake ∧ t.hides = s.hides ∧ t.ctl = s.ctl ∧
        t.settings = s.settings ∧ t.line.notices = s.line.notices ∧
        t.track = { s.track with
          slices := s.track.slices.map (reported .skipped z (channel s z).slot) } ∧
        (s.link.free = true → GrantedInTurn s.link.last t) ∧
        (∀ y, y < 16 → channel t y = if y = z then { channel s z with
          slot := some { gap := placed, cause := .manual, ref := none } } else channel s y)) ∧
    (∀ (code : BitVec 8) (mode : ZoneMode), ((code = 1 ∧ mode = .track ∧ s.ctl.strap = .profile) ∨
        (code = 2 ∧ mode = .manual)) → (channel s z).mode.inService = true →
      let leaves : Bool := decide ((channel s z).mode = .track) && decide (mode ≠ .track)
      let drops : Bool := leaves && (channel s z).slot.any fun x => x.cause = .track
      ∃ t, exec (.zoneMode z code) s = .next t ∧
        (s.line.hold = false → t.line.port.answer = some
          { kind := 0x2D, status := .ok, fields := [code, flagByte drops] }) ∧
        t.intake = s.intake ∧ t.settings = s.settings ∧ t.feed.h = s.feed.h ∧
        t.line.notices = s.line.notices ∧
        t.track = { s.track with
          slices := if drops then s.track.slices.map (reported .skipped z (channel s z).slot)
            else s.track.slices } ∧
        (s.link.free = true → GrantedInTurn s.link.last t) ∧
        t.hides = { s.hides with records := s.hides.records.map fun r =>
          if r.state.converting then { r with flags := { r.flags with manualInfluence := true } } else r } ∧
        (∀ y, y < 16 → channel t y = if y = z then { channel s z with
          mode := mode
          base := none
          entryMark := (channel s z).entryMark && !leaves
          slot := if drops then none else (channel s z).slot } else channel s y) ∧
        t.ctl.phase = (if s.ctl.phase = .resuming ∧ t.zones.any Channel.entryMark = false then .run
          else s.ctl.phase)) ∧
    ((channel s z).mode = .fault → exec (.zoneReset z) s = .next (answerLine 0x2E .ok [] { s with
      zones := s.zones.set z { channel s z with
        mode := .manual, misses := 0, timeouts := 0, lagging := false } })))

/-- WRITE_ARTICLE replaces one row (R157), SELECT_ARTICLE chooses it (R159), WRITE_KNIFE is applied or held
pending (R83, R161), LOCK_GEOMETRY locks (R166), SET_SPEED, SET_TRIM and SET_DWELL store their values (R167
to R169), CLEAR_WAKE and CLEAR_NOTICES clear what they name (R135, R179), and each changes nothing else.
Values out of range are refused, with the first item or zone that fails, or clamped by SET_TRIM; a refused
SET_SPEED shows the values held (R180, R195). -/
def Obligations.SettingWritesStoreTheirValues : Prop :=
  ∀ s : State,
    (∀ row a, (∀ n, ArticleItemMet row a n) → exec (.writeArticle row a) s =
      .next (answerLine 0x30 .ok [0]
        { s with settings := { s.settings with articles := s.settings.articles.set row a } })) ∧
    (∀ row a n, ¬ ArticleItemMet row a n → (∀ m, m < n → ArticleItemMet row a m) →
      exec (.writeArticle row a) s = .next (answerLine 0x30 .badValue (nat8 n) s)) ∧
    (∀ row, row < 32 → exec (.selectArticle row) s = .next (answerLine 0x31 .ok (nat8 row)
      { s with settings := { s.settings with current := row } })) ∧
    (∀ row, 31 < row → exec (.selectArticle row) s =
      .next (answerLine 0x31 .badValue (nat8 s.settings.current) s)) ∧
    (∀ k : List Int, OffsetsOk k →
      (anyConverting s = true → exec (.writeKnife k) s = .next (answerLine 0x33 .ok [2, 0]
        { s with track := { s.track with pendingKnife := some k } })) ∧
      (anyConverting s = false → exec (.writeKnife k) s = .next (answerLine 0x33 .ok [1, 0] { s with
        settings := { s.settings with knife := k }
        track := { s.track with pendingKnife := none }
        line := { s.line with notices := s.line.notices ||| LineNotice.knifeApplied.bit } }))) ∧
    (∀ (k : List Int) (z : Nat), z < 16 → k.length = 16 → (k.getD z 0 < -100 ∨ 100 < k.getD z 0) →
      (∀ y, y < z → -100 ≤ k.getD y 0 ∧ k.getD y 0 ≤ 100) →
      exec (.writeKnife k) s = .next (answerLine 0x33 .badValue ([0] ++ nat8 z) s)) ∧
    exec .lockGeometry s = .next (answerLine 0x36 .ok []
      { s with settings := { s.settings with locked := true } }) ∧
    (∀ period duty, 99 ≤ period → period ≤ 4095 → exec (.setSpeed period duty) s =
      .next (answerLine 0x37 .ok (nat16 period ++ nat16 duty ++ [flagByte (decide (period + 1 < duty))]
        ++ nat16 (min duty (period + 1) / 2 ^ s.feed.trim))
        { s with feed := { s.feed with period := period, duty := duty } })) ∧
    (∀ period duty, period < 99 ∨ 4095 < period → exec (.setSpeed period duty) s =
      .next (answerLine 0x37 .badValue (nat16 s.feed.period ++ nat16 s.feed.duty ++ [0]
        ++ nat16 (min s.feed.duty (s.feed.period + 1) / 2 ^ s.feed.trim)) s)) ∧
    (∀ trim, exec (.setTrim trim) s =
      .next (answerLine 0x38 .ok (nat8 (min trim 4) ++ [flagByte (decide (4 < trim))])
        { s with feed := { s.feed with trim := min trim 4 } })) ∧
    (∀ time, 1 ≤ time → time ≤ 65535 → exec (.setDwell time) s =
      .next (answerLine 0x39 .ok (nat16 time)
        { s with settings := { s.settings with dwellTime := time } })) ∧
    exec (.setDwell 0) s = .next (answerLine 0x39 .badValue (nat16 s.settings.dwellTime) s) ∧
    (∀ named : BitVec 8,
      let flags := s.ctl.flags &&& ~~~(named.setWidth 4)
      exec (.clearWake named) s = .next (answerLine 0x24 .ok
        [wakeByte flags, wakeByte s.ctl.enables, s.ctl.phase.code]
        { s with ctl := { s.ctl with flags := flags } })) ∧
    (∀ (named : BitVec 24) (mask : Option (BitVec 24)),
      let notices := s.line.notices &&& ~~~(named.setWidth 18)
      let mask' := (mask.map fun m => m.setWidth 18).getD s.line.mask
      exec (.clearNotices named mask) s = .next (answerLine 0x3D .ok (lineBytes notices ++ lineBytes mask')
        { s with line := { s.line with notices := notices, mask := mask' } }))

/-- SET_GEOMETRY in STANDBY with the lock clear replaces the fifteen values where all eighteen items are
met, and is refused with the number of the first that is not; it sets the next strobe position to H plus the
new pitch and restarts the slip window (R13, R16, R163, R164); SET_SCALE with the lock clear replaces the
scale, clears the accumulators and the capture slot, puts sync into SETTLING at H, flushes, which abandons
the unfinished hides in the order of their first strobes (R61, R198), and restarts the slip window (R9, R11,
R165). -/
def Obligations.GeometryAndScaleRestartTheMeasurement : Prop :=
  ∀ s : State,
    (∀ (g : Geometry) (st : Status) (item : Nat),
      ((st = .locked ∧ item = 0 ∧ s.settings.locked = true) ∨ (s.settings.locked = false ∧
        ((st = .wrongState ∧ item = 0 ∧ s.ctl.phase ≠ .standby) ∨
          (st = .badValue ∧ ¬ GeometryItemMet g item ∧ (∀ m, m < item → GeometryItemMet g m) ∧
            s.ctl.phase = .standby)))) →
      exec (.setGeometry g) s = .next (answerLine 0x34 st (nat8 item) s)) ∧
    (∀ g : Geometry, s.settings.locked = false → s.ctl.phase = .standby →
      (∀ n, GeometryItemMet g n) →
      exec (.setGeometry g) s = .next (answerLine 0x34 .ok [0] { s with
        settings := { s.settings with geometry := g }
        feed := { s.feed with
          nextPos := s.feed.h + BitVec.ofNat 32 g.pitch
          slip := ⟨s.feed.h, 0, 0⟩ } })) ∧
    (∀ (scale : Nat) (st : Status), ((st = .locked ∧ s.settings.locked = true) ∨
        (st = .badValue ∧ s.settings.locked = false ∧ (scale < 10 ∨ 4000 < scale))) →
      exec (.setScale scale) s = .next (answerLine 0x35 st (nat16 s.settings.scale) s)) ∧
    (∀ scale : Nat, s.settings.locked = false → 10 ≤ scale → scale ≤ 4000 →
      ∃ t, exec (.setScale scale) s = .next t ∧ t.settings.scale = scale ∧
        (s.line.hold = false → t.line.port.answer =
          some { kind := 0x35, status := .ok, fields := nat16 scale }) ∧
        t.feed.botAcc = 0 ∧ t.feed.topAcc = 0 ∧ t.feed.f = s.feed.f ∧ t.feed.h = s.feed.h ∧
        t.feed.sync = .settling ∧ t.feed.settleStart = s.feed.h ∧ t.feed.newest = none ∧
        t.feed.slip = ⟨s.feed.h, 0, 0⟩ ∧ t.feed.capture = none ∧ t.feed.overwrite = false ∧
        t.intake.list = [] ∧ t.track.slices = [] ∧ anyUnfinished t = false ∧
        EmptiedBy .scale s t ∧ AbandonedJoined s t ∧
        t.settings.geometry = s.settings.geometry ∧ t.settings.articles = s.settings.articles ∧
        (s.feed.sync = .locked →
          t.line.notices &&& LineNotice.syncLost.bit = LineNotice.syncLost.bit))
end
end

