-- ==== Sys2Proof/Laws/State.lean ====
section
/-! SUPPORT. One lemma per field for each elementary update of `State`, so that no proof unfolds a record
update: the fields that an update leaves as they were. -/

namespace Sys2Proof.Machine

/-! ## raiseLine -/

@[simp] theorem raiseLine_pending (n : LineNotice) (s : State) :
    (raiseLine n s).pending = s.pending := rfl
@[simp] theorem raiseLine_now (n : LineNotice) (s : State) :
    (raiseLine n s).now = s.now := rfl
@[simp] theorem raiseLine_pins (n : LineNotice) (s : State) :
    (raiseLine n s).pins = s.pins := rfl
@[simp] theorem raiseLine_feed (n : LineNotice) (s : State) :
    (raiseLine n s).feed = s.feed := rfl
@[simp] theorem raiseLine_intake (n : LineNotice) (s : State) :
    (raiseLine n s).intake = s.intake := rfl
@[simp] theorem raiseLine_hides (n : LineNotice) (s : State) :
    (raiseLine n s).hides = s.hides := rfl
@[simp] theorem raiseLine_track (n : LineNotice) (s : State) :
    (raiseLine n s).track = s.track := rfl
@[simp] theorem raiseLine_zones (n : LineNotice) (s : State) :
    (raiseLine n s).zones = s.zones := rfl
@[simp] theorem raiseLine_link (n : LineNotice) (s : State) :
    (raiseLine n s).link = s.link := rfl
@[simp] theorem raiseLine_ctl (n : LineNotice) (s : State) :
    (raiseLine n s).ctl = s.ctl := rfl
@[simp] theorem raiseLine_settings (n : LineNotice) (s : State) :
    (raiseLine n s).settings = s.settings := rfl

/-! ## updChannel -/

@[simp] theorem updChannel_pending (f : Channel → Channel) (z : Nat) (s : State) :
    (updChannel f z s).pending = s.pending := rfl
@[simp] theorem updChannel_now (f : Channel → Channel) (z : Nat) (s : State) :
    (updChannel f z s).now = s.now := rfl
@[simp] theorem updChannel_pins (f : Channel → Channel) (z : Nat) (s : State) :
    (updChannel f z s).pins = s.pins := rfl
@[simp] theorem updChannel_feed (f : Channel → Channel) (z : Nat) (s : State) :
    (updChannel f z s).feed = s.feed := rfl
@[simp] theorem updChannel_intake (f : Channel → Channel) (z : Nat) (s : State) :
    (updChannel f z s).intake = s.intake := rfl
@[simp] theorem updChannel_hides (f : Channel → Channel) (z : Nat) (s : State) :
    (updChannel f z s).hides = s.hides := rfl
@[simp] theorem updChannel_track (f : Channel → Channel) (z : Nat) (s : State) :
    (updChannel f z s).track = s.track := rfl
@[simp] theorem updChannel_link (f : Channel → Channel) (z : Nat) (s : State) :
    (updChannel f z s).link = s.link := rfl
@[simp] theorem updChannel_ctl (f : Channel → Channel) (z : Nat) (s : State) :
    (updChannel f z s).ctl = s.ctl := rfl
@[simp] theorem updChannel_settings (f : Channel → Channel) (z : Nat) (s : State) :
    (updChannel f z s).settings = s.settings := rfl
@[simp] theorem updChannel_line (f : Channel → Channel) (z : Nat) (s : State) :
    (updChannel f z s).line = s.line := rfl

/-! ## reportSlice -/

@[simp] theorem reportSlice_pending (r : SliceRef) (z : Nat) (p : Progress) (s : State) :
    (reportSlice r z p s).pending = s.pending := rfl
@[simp] theorem reportSlice_now (r : SliceRef) (z : Nat) (p : Progress) (s : State) :
    (reportSlice r z p s).now = s.now := rfl
@[simp] theorem reportSlice_pins (r : SliceRef) (z : Nat) (p : Progress) (s : State) :
    (reportSlice r z p s).pins = s.pins := rfl
@[simp] theorem reportSlice_feed (r : SliceRef) (z : Nat) (p : Progress) (s : State) :
    (reportSlice r z p s).feed = s.feed := rfl
@[simp] theorem reportSlice_intake (r : SliceRef) (z : Nat) (p : Progress) (s : State) :
    (reportSlice r z p s).intake = s.intake := rfl
@[simp] theorem reportSlice_hides (r : SliceRef) (z : Nat) (p : Progress) (s : State) :
    (reportSlice r z p s).hides = s.hides := rfl
@[simp] theorem reportSlice_zones (r : SliceRef) (z : Nat) (p : Progress) (s : State) :
    (reportSlice r z p s).zones = s.zones := rfl
@[simp] theorem reportSlice_link (r : SliceRef) (z : Nat) (p : Progress) (s : State) :
    (reportSlice r z p s).link = s.link := rfl
@[simp] theorem reportSlice_ctl (r : SliceRef) (z : Nat) (p : Progress) (s : State) :
    (reportSlice r z p s).ctl = s.ctl := rfl
@[simp] theorem reportSlice_settings (r : SliceRef) (z : Nat) (p : Progress) (s : State) :
    (reportSlice r z p s).settings = s.settings := rfl
@[simp] theorem reportSlice_line (r : SliceRef) (z : Nat) (p : Progress) (s : State) :
    (reportSlice r z p s).line = s.line := rfl

/-! ## setSlot -/

@[simp] theorem setSlot_pending (t : Option Target) (z : Nat) (s : State) :
    (setSlot t z s).pending = s.pending := rfl
@[simp] theorem setSlot_now (t : Option Target) (z : Nat) (s : State) :
    (setSlot t z s).now = s.now := rfl
@[simp] theorem setSlot_pins (t : Option Target) (z : Nat) (s : State) :
    (setSlot t z s).pins = s.pins := rfl
@[simp] theorem setSlot_feed (t : Option Target) (z : Nat) (s : State) :
    (setSlot t z s).feed = s.feed := rfl
@[simp] theorem setSlot_intake (t : Option Target) (z : Nat) (s : State) :
    (setSlot t z s).intake = s.intake := rfl
@[simp] theorem setSlot_hides (t : Option Target) (z : Nat) (s : State) :
    (setSlot t z s).hides = s.hides := rfl
@[simp] theorem setSlot_track (t : Option Target) (z : Nat) (s : State) :
    (setSlot t z s).track = s.track := rfl
@[simp] theorem setSlot_ctl (t : Option Target) (z : Nat) (s : State) :
    (setSlot t z s).ctl = s.ctl := rfl
@[simp] theorem setSlot_settings (t : Option Target) (z : Nat) (s : State) :
    (setSlot t z s).settings = s.settings := rfl
@[simp] theorem setSlot_line (t : Option Target) (z : Nat) (s : State) :
    (setSlot t z s).line = s.line := rfl

/-! ## detach -/

@[simp] theorem detach_pending (leaving : SliceRef → Bool) (s : State) :
    (detach leaving s).pending = s.pending := rfl
@[simp] theorem detach_now (leaving : SliceRef → Bool) (s : State) :
    (detach leaving s).now = s.now := rfl
@[simp] theorem detach_pins (leaving : SliceRef → Bool) (s : State) :
    (detach leaving s).pins = s.pins := rfl
@[simp] theorem detach_feed (leaving : SliceRef → Bool) (s : State) :
    (detach leaving s).feed = s.feed := rfl
@[simp] theorem detach_intake (leaving : SliceRef → Bool) (s : State) :
    (detach leaving s).intake = s.intake := rfl
@[simp] theorem detach_hides (leaving : SliceRef → Bool) (s : State) :
    (detach leaving s).hides = s.hides := rfl
@[simp] theorem detach_track (leaving : SliceRef → Bool) (s : State) :
    (detach leaving s).track = s.track := rfl
@[simp] theorem detach_ctl (leaving : SliceRef → Bool) (s : State) :
    (detach leaving s).ctl = s.ctl := rfl
@[simp] theorem detach_settings (leaving : SliceRef → Bool) (s : State) :
    (detach leaving s).settings = s.settings := rfl
@[simp] theorem detach_line (leaving : SliceRef → Bool) (s : State) :
    (detach leaving s).line = s.line := rfl

/-! ## arbitrate -/

@[simp] theorem arbitrate_pending (s : State) :
    (arbitrate s).pending = s.pending := rfl
@[simp] theorem arbitrate_now (s : State) :
    (arbitrate s).now = s.now := rfl
@[simp] theorem arbitrate_pins (s : State) :
    (arbitrate s).pins = s.pins := rfl
@[simp] theorem arbitrate_feed (s : State) :
    (arbitrate s).feed = s.feed := rfl
@[simp] theorem arbitrate_intake (s : State) :
    (arbitrate s).intake = s.intake := rfl
@[simp] theorem arbitrate_hides (s : State) :
    (arbitrate s).hides = s.hides := rfl
@[simp] theorem arbitrate_track (s : State) :
    (arbitrate s).track = s.track := rfl
@[simp] theorem arbitrate_zones (s : State) :
    (arbitrate s).zones = s.zones := rfl
@[simp] theorem arbitrate_ctl (s : State) :
    (arbitrate s).ctl = s.ctl := rfl
@[simp] theorem arbitrate_settings (s : State) :
    (arbitrate s).settings = s.settings := rfl
@[simp] theorem arbitrate_line (s : State) :
    (arbitrate s).line = s.line := rfl

/-! ## advanceTo -/

@[simp] theorem advanceTo_pending (n : Nat) (s : State) :
    (advanceTo n s).pending = s.pending := rfl
@[simp] theorem advanceTo_pins (n : Nat) (s : State) :
    (advanceTo n s).pins = s.pins := rfl
@[simp] theorem advanceTo_feed (n : Nat) (s : State) :
    (advanceTo n s).feed = s.feed := rfl
@[simp] theorem advanceTo_intake (n : Nat) (s : State) :
    (advanceTo n s).intake = s.intake := rfl
@[simp] theorem advanceTo_hides (n : Nat) (s : State) :
    (advanceTo n s).hides = s.hides := rfl
@[simp] theorem advanceTo_track (n : Nat) (s : State) :
    (advanceTo n s).track = s.track := rfl
@[simp] theorem advanceTo_zones (n : Nat) (s : State) :
    (advanceTo n s).zones = s.zones := rfl
@[simp] theorem advanceTo_link (n : Nat) (s : State) :
    (advanceTo n s).link = s.link := rfl
@[simp] theorem advanceTo_ctl (n : Nat) (s : State) :
    (advanceTo n s).ctl = s.ctl := rfl
@[simp] theorem advanceTo_settings (n : Nat) (s : State) :
    (advanceTo n s).settings = s.settings := rfl
@[simp] theorem advanceTo_line (n : Nat) (s : State) :
    (advanceTo n s).line = s.line := rfl

/-! ## startPeriod -/

@[simp] theorem startPeriod_pending (s : State) :
    (startPeriod s).pending = s.pending := rfl
@[simp] theorem startPeriod_now (s : State) :
    (startPeriod s).now = s.now := rfl
@[simp] theorem startPeriod_pins (s : State) :
    (startPeriod s).pins = s.pins := rfl
@[simp] theorem startPeriod_intake (s : State) :
    (startPeriod s).intake = s.intake := rfl
@[simp] theorem startPeriod_hides (s : State) :
    (startPeriod s).hides = s.hides := rfl
@[simp] theorem startPeriod_track (s : State) :
    (startPeriod s).track = s.track := rfl
@[simp] theorem startPeriod_zones (s : State) :
    (startPeriod s).zones = s.zones := rfl
@[simp] theorem startPeriod_link (s : State) :
    (startPeriod s).link = s.link := rfl
@[simp] theorem startPeriod_ctl (s : State) :
    (startPeriod s).ctl = s.ctl := rfl
@[simp] theorem startPeriod_settings (s : State) :
    (startPeriod s).settings = s.settings := rfl
@[simp] theorem startPeriod_line (s : State) :
    (startPeriod s).line = s.line := rfl

/-! ## startDwell -/

@[simp] theorem startDwell_pending (s : State) :
    (startDwell s).pending = s.pending := rfl
@[simp] theorem startDwell_now (s : State) :
    (startDwell s).now = s.now := rfl
@[simp] theorem startDwell_pins (s : State) :
    (startDwell s).pins = s.pins := rfl
@[simp] theorem startDwell_feed (s : State) :
    (startDwell s).feed = s.feed := rfl
@[simp] theorem startDwell_intake (s : State) :
    (startDwell s).intake = s.intake := rfl
@[simp] theorem startDwell_hides (s : State) :
    (startDwell s).hides = s.hides := rfl
@[simp] theorem startDwell_track (s : State) :
    (startDwell s).track = s.track := rfl
@[simp] theorem startDwell_zones (s : State) :
    (startDwell s).zones = s.zones := rfl
@[simp] theorem startDwell_link (s : State) :
    (startDwell s).link = s.link := rfl
@[simp] theorem startDwell_settings (s : State) :
    (startDwell s).settings = s.settings := rfl
@[simp] theorem startDwell_line (s : State) :
    (startDwell s).line = s.line := rfl

/-! ## stopDwell -/

@[simp] theorem stopDwell_pending (s : State) :
    (stopDwell s).pending = s.pending := rfl
@[simp] theorem stopDwell_now (s : State) :
    (stopDwell s).now = s.now := rfl
@[simp] theorem stopDwell_pins (s : State) :
    (stopDwell s).pins = s.pins := rfl
@[simp] theorem stopDwell_feed (s : State) :
    (stopDwell s).feed = s.feed := rfl
@[simp] theorem stopDwell_intake (s : State) :
    (stopDwell s).intake = s.intake := rfl
@[simp] theorem stopDwell_hides (s : State) :
    (stopDwell s).hides = s.hides := rfl
@[simp] theorem stopDwell_track (s : State) :
    (stopDwell s).track = s.track := rfl
@[simp] theorem stopDwell_zones (s : State) :
    (stopDwell s).zones = s.zones := rfl
@[simp] theorem stopDwell_link (s : State) :
    (stopDwell s).link = s.link := rfl
@[simp] theorem stopDwell_settings (s : State) :
    (stopDwell s).settings = s.settings := rfl
@[simp] theorem stopDwell_line (s : State) :
    (stopDwell s).line = s.line := rfl

/-! ## updRecords -/

@[simp] theorem updRecords_pending (f : HideRecord → HideRecord) (s : State) :
    (updRecords f s).pending = s.pending := rfl
@[simp] theorem updRecords_now (f : HideRecord → HideRecord) (s : State) :
    (updRecords f s).now = s.now := rfl
@[simp] theorem updRecords_pins (f : HideRecord → HideRecord) (s : State) :
    (updRecords f s).pins = s.pins := rfl
@[simp] theorem updRecords_feed (f : HideRecord → HideRecord) (s : State) :
    (updRecords f s).feed = s.feed := rfl
@[simp] theorem updRecords_intake (f : HideRecord → HideRecord) (s : State) :
    (updRecords f s).intake = s.intake := rfl
@[simp] theorem updRecords_track (f : HideRecord → HideRecord) (s : State) :
    (updRecords f s).track = s.track := rfl
@[simp] theorem updRecords_zones (f : HideRecord → HideRecord) (s : State) :
    (updRecords f s).zones = s.zones := rfl
@[simp] theorem updRecords_link (f : HideRecord → HideRecord) (s : State) :
    (updRecords f s).link = s.link := rfl
@[simp] theorem updRecords_ctl (f : HideRecord → HideRecord) (s : State) :
    (updRecords f s).ctl = s.ctl := rfl
@[simp] theorem updRecords_settings (f : HideRecord → HideRecord) (s : State) :
    (updRecords f s).settings = s.settings := rfl
@[simp] theorem updRecords_line (f : HideRecord → HideRecord) (s : State) :
    (updRecords f s).line = s.line := rfl

/-! ## updHide -/

@[simp] theorem updHide_pending (f : HideRecord → HideRecord) (n : Num) (s : State) :
    (updHide f n s).pending = s.pending := rfl
@[simp] theorem updHide_now (f : HideRecord → HideRecord) (n : Num) (s : State) :
    (updHide f n s).now = s.now := rfl
@[simp] theorem updHide_pins (f : HideRecord → HideRecord) (n : Num) (s : State) :
    (updHide f n s).pins = s.pins := rfl
@[simp] theorem updHide_feed (f : HideRecord → HideRecord) (n : Num) (s : State) :
    (updHide f n s).feed = s.feed := rfl
@[simp] theorem updHide_intake (f : HideRecord → HideRecord) (n : Num) (s : State) :
    (updHide f n s).intake = s.intake := rfl
@[simp] theorem updHide_track (f : HideRecord → HideRecord) (n : Num) (s : State) :
    (updHide f n s).track = s.track := rfl
@[simp] theorem updHide_zones (f : HideRecord → HideRecord) (n : Num) (s : State) :
    (updHide f n s).zones = s.zones := rfl
@[simp] theorem updHide_link (f : HideRecord → HideRecord) (n : Num) (s : State) :
    (updHide f n s).link = s.link := rfl
@[simp] theorem updHide_ctl (f : HideRecord → HideRecord) (n : Num) (s : State) :
    (updHide f n s).ctl = s.ctl := rfl
@[simp] theorem updHide_settings (f : HideRecord → HideRecord) (n : Num) (s : State) :
    (updHide f n s).settings = s.settings := rfl
@[simp] theorem updHide_line (f : HideRecord → HideRecord) (n : Num) (s : State) :
    (updHide f n s).line = s.line := rfl

/-! ## joinCompletion -/

@[simp] theorem joinCompletion_pending (n : Num) (s : State) :
    (joinCompletion n s).pending = s.pending := rfl
@[simp] theorem joinCompletion_now (n : Num) (s : State) :
    (joinCompletion n s).now = s.now := rfl
@[simp] theorem joinCompletion_pins (n : Num) (s : State) :
    (joinCompletion n s).pins = s.pins := rfl
@[simp] theorem joinCompletion_feed (n : Num) (s : State) :
    (joinCompletion n s).feed = s.feed := rfl
@[simp] theorem joinCompletion_intake (n : Num) (s : State) :
    (joinCompletion n s).intake = s.intake := rfl
@[simp] theorem joinCompletion_track (n : Num) (s : State) :
    (joinCompletion n s).track = s.track := rfl
@[simp] theorem joinCompletion_zones (n : Num) (s : State) :
    (joinCompletion n s).zones = s.zones := rfl
@[simp] theorem joinCompletion_link (n : Num) (s : State) :
    (joinCompletion n s).link = s.link := rfl
@[simp] theorem joinCompletion_ctl (n : Num) (s : State) :
    (joinCompletion n s).ctl = s.ctl := rfl
@[simp] theorem joinCompletion_settings (n : Num) (s : State) :
    (joinCompletion n s).settings = s.settings := rfl
@[simp] theorem joinCompletion_line (n : Num) (s : State) :
    (joinCompletion n s).line = s.line := rfl

/-! ## closeRanges -/

@[simp] theorem closeRanges_pending (s : State) :
    (closeRanges s).pending = s.pending := rfl
@[simp] theorem closeRanges_now (s : State) :
    (closeRanges s).now = s.now := rfl
@[simp] theorem closeRanges_pins (s : State) :
    (closeRanges s).pins = s.pins := rfl
@[simp] theorem closeRanges_feed (s : State) :
    (closeRanges s).feed = s.feed := rfl
@[simp] theorem closeRanges_intake (s : State) :
    (closeRanges s).intake = s.intake := rfl
@[simp] theorem closeRanges_track (s : State) :
    (closeRanges s).track = s.track := rfl
@[simp] theorem closeRanges_zones (s : State) :
    (closeRanges s).zones = s.zones := rfl
@[simp] theorem closeRanges_link (s : State) :
    (closeRanges s).link = s.link := rfl
@[simp] theorem closeRanges_ctl (s : State) :
    (closeRanges s).ctl = s.ctl := rfl
@[simp] theorem closeRanges_settings (s : State) :
    (closeRanges s).settings = s.settings := rfl
@[simp] theorem closeRanges_line (s : State) :
    (closeRanges s).line = s.line := rfl

/-! ## openWindow -/

@[simp] theorem openWindow_pending (n : Nat) (s : State) :
    (openWindow n s).pending = s.pending := rfl
@[simp] theorem openWindow_now (n : Nat) (s : State) :
    (openWindow n s).now = s.now := rfl
@[simp] theorem openWindow_pins (n : Nat) (s : State) :
    (openWindow n s).pins = s.pins := rfl
@[simp] theorem openWindow_intake (n : Nat) (s : State) :
    (openWindow n s).intake = s.intake := rfl
@[simp] theorem openWindow_hides (n : Nat) (s : State) :
    (openWindow n s).hides = s.hides := rfl
@[simp] theorem openWindow_track (n : Nat) (s : State) :
    (openWindow n s).track = s.track := rfl
@[simp] theorem openWindow_zones (n : Nat) (s : State) :
    (openWindow n s).zones = s.zones := rfl
@[simp] theorem openWindow_link (n : Nat) (s : State) :
    (openWindow n s).link = s.link := rfl
@[simp] theorem openWindow_ctl (n : Nat) (s : State) :
    (openWindow n s).ctl = s.ctl := rfl
@[simp] theorem openWindow_settings (n : Nat) (s : State) :
    (openWindow n s).settings = s.settings := rfl
@[simp] theorem openWindow_line (n : Nat) (s : State) :
    (openWindow n s).line = s.line := rfl

/-! ## freeLink -/

@[simp] theorem freeLink_pending (s : State) :
    (freeLink s).pending = s.pending := rfl
@[simp] theorem freeLink_now (s : State) :
    (freeLink s).now = s.now := rfl
@[simp] theorem freeLink_pins (s : State) :
    (freeLink s).pins = s.pins := rfl
@[simp] theorem freeLink_feed (s : State) :
    (freeLink s).feed = s.feed := rfl
@[simp] theorem freeLink_intake (s : State) :
    (freeLink s).intake = s.intake := rfl
@[simp] theorem freeLink_hides (s : State) :
    (freeLink s).hides = s.hides := rfl
@[simp] theorem freeLink_track (s : State) :
    (freeLink s).track = s.track := rfl
@[simp] theorem freeLink_zones (s : State) :
    (freeLink s).zones = s.zones := rfl
@[simp] theorem freeLink_ctl (s : State) :
    (freeLink s).ctl = s.ctl := rfl
@[simp] theorem freeLink_settings (s : State) :
    (freeLink s).settings = s.settings := rfl
@[simp] theorem freeLink_line (s : State) :
    (freeLink s).line = s.line := rfl

/-! ## storeReply -/

@[simp] theorem storeReply_pending (n : Num) (reply : List Reading) (s : State) :
    (storeReply n reply s).pending = s.pending := rfl
@[simp] theorem storeReply_now (n : Num) (reply : List Reading) (s : State) :
    (storeReply n reply s).now = s.now := rfl
@[simp] theorem storeReply_pins (n : Num) (reply : List Reading) (s : State) :
    (storeReply n reply s).pins = s.pins := rfl
@[simp] theorem storeReply_feed (n : Num) (reply : List Reading) (s : State) :
    (storeReply n reply s).feed = s.feed := rfl
@[simp] theorem storeReply_hides (n : Num) (reply : List Reading) (s : State) :
    (storeReply n reply s).hides = s.hides := rfl
@[simp] theorem storeReply_track (n : Num) (reply : List Reading) (s : State) :
    (storeReply n reply s).track = s.track := rfl
@[simp] theorem storeReply_zones (n : Num) (reply : List Reading) (s : State) :
    (storeReply n reply s).zones = s.zones := rfl
@[simp] theorem storeReply_link (n : Num) (reply : List Reading) (s : State) :
    (storeReply n reply s).link = s.link := rfl
@[simp] theorem storeReply_ctl (n : Num) (reply : List Reading) (s : State) :
    (storeReply n reply s).ctl = s.ctl := rfl
@[simp] theorem storeReply_settings (n : Num) (reply : List Reading) (s : State) :
    (storeReply n reply s).settings = s.settings := rfl
@[simp] theorem storeReply_line (n : Num) (reply : List Reading) (s : State) :
    (storeReply n reply s).line = s.line := rfl

/-! ## answerGauge -/

@[simp] theorem answerGauge_pending (k : Byte) (st : Status) (fs : List Byte) (s : State) :
    (answerGauge k st fs s).pending = s.pending := rfl
@[simp] theorem answerGauge_now (k : Byte) (st : Status) (fs : List Byte) (s : State) :
    (answerGauge k st fs s).now = s.now := rfl
@[simp] theorem answerGauge_pins (k : Byte) (st : Status) (fs : List Byte) (s : State) :
    (answerGauge k st fs s).pins = s.pins := rfl
@[simp] theorem answerGauge_feed (k : Byte) (st : Status) (fs : List Byte) (s : State) :
    (answerGauge k st fs s).feed = s.feed := rfl
@[simp] theorem answerGauge_hides (k : Byte) (st : Status) (fs : List Byte) (s : State) :
    (answerGauge k st fs s).hides = s.hides := rfl
@[simp] theorem answerGauge_track (k : Byte) (st : Status) (fs : List Byte) (s : State) :
    (answerGauge k st fs s).track = s.track := rfl
@[simp] theorem answerGauge_zones (k : Byte) (st : Status) (fs : List Byte) (s : State) :
    (answerGauge k st fs s).zones = s.zones := rfl
@[simp] theorem answerGauge_link (k : Byte) (st : Status) (fs : List Byte) (s : State) :
    (answerGauge k st fs s).link = s.link := rfl
@[simp] theorem answerGauge_ctl (k : Byte) (st : Status) (fs : List Byte) (s : State) :
    (answerGauge k st fs s).ctl = s.ctl := rfl
@[simp] theorem answerGauge_settings (k : Byte) (st : Status) (fs : List Byte) (s : State) :
    (answerGauge k st fs s).settings = s.settings := rfl
@[simp] theorem answerGauge_line (k : Byte) (st : Status) (fs : List Byte) (s : State) :
    (answerGauge k st fs s).line = s.line := rfl

/-! ## answerLine -/

@[simp] theorem answerLine_pending (k : Byte) (st : Status) (fs : List Byte) (s : State) :
    (answerLine k st fs s).pending = s.pending := rfl
@[simp] theorem answerLine_now (k : Byte) (st : Status) (fs : List Byte) (s : State) :
    (answerLine k st fs s).now = s.now := rfl
@[simp] theorem answerLine_pins (k : Byte) (st : Status) (fs : List Byte) (s : State) :
    (answerLine k st fs s).pins = s.pins := rfl
@[simp] theorem answerLine_feed (k : Byte) (st : Status) (fs : List Byte) (s : State) :
    (answerLine k st fs s).feed = s.feed := rfl
@[simp] theorem answerLine_intake (k : Byte) (st : Status) (fs : List Byte) (s : State) :
    (answerLine k st fs s).intake = s.intake := rfl
@[simp] theorem answerLine_hides (k : Byte) (st : Status) (fs : List Byte) (s : State) :
    (answerLine k st fs s).hides = s.hides := rfl
@[simp] theorem answerLine_track (k : Byte) (st : Status) (fs : List Byte) (s : State) :
    (answerLine k st fs s).track = s.track := rfl
@[simp] theorem answerLine_zones (k : Byte) (st : Status) (fs : List Byte) (s : State) :
    (answerLine k st fs s).zones = s.zones := rfl
@[simp] theorem answerLine_link (k : Byte) (st : Status) (fs : List Byte) (s : State) :
    (answerLine k st fs s).link = s.link := rfl
@[simp] theorem answerLine_ctl (k : Byte) (st : Status) (fs : List Byte) (s : State) :
    (answerLine k st fs s).ctl = s.ctl := rfl
@[simp] theorem answerLine_settings (k : Byte) (st : Status) (fs : List Byte) (s : State) :
    (answerLine k st fs s).settings = s.settings := rfl

/-! ## holdSync -/

@[simp] theorem holdSync_pending (s : State) :
    (holdSync s).pending = s.pending := rfl
@[simp] theorem holdSync_now (s : State) :
    (holdSync s).now = s.now := rfl
@[simp] theorem holdSync_pins (s : State) :
    (holdSync s).pins = s.pins := rfl
@[simp] theorem holdSync_intake (s : State) :
    (holdSync s).intake = s.intake := rfl
@[simp] theorem holdSync_hides (s : State) :
    (holdSync s).hides = s.hides := rfl
@[simp] theorem holdSync_track (s : State) :
    (holdSync s).track = s.track := rfl
@[simp] theorem holdSync_zones (s : State) :
    (holdSync s).zones = s.zones := rfl
@[simp] theorem holdSync_link (s : State) :
    (holdSync s).link = s.link := rfl
@[simp] theorem holdSync_ctl (s : State) :
    (holdSync s).ctl = s.ctl := rfl
@[simp] theorem holdSync_settings (s : State) :
    (holdSync s).settings = s.settings := rfl
@[simp] theorem holdSync_line (s : State) :
    (holdSync s).line = s.line := rfl

/-! ## captureInfeed -/

@[simp] theorem captureInfeed_pending (s : State) :
    (captureInfeed s).pending = s.pending := rfl
@[simp] theorem captureInfeed_now (s : State) :
    (captureInfeed s).now = s.now := rfl
@[simp] theorem captureInfeed_pins (s : State) :
    (captureInfeed s).pins = s.pins := rfl
@[simp] theorem captureInfeed_intake (s : State) :
    (captureInfeed s).intake = s.intake := rfl
@[simp] theorem captureInfeed_hides (s : State) :
    (captureInfeed s).hides = s.hides := rfl
@[simp] theorem captureInfeed_track (s : State) :
    (captureInfeed s).track = s.track := rfl
@[simp] theorem captureInfeed_zones (s : State) :
    (captureInfeed s).zones = s.zones := rfl
@[simp] theorem captureInfeed_link (s : State) :
    (captureInfeed s).link = s.link := rfl
@[simp] theorem captureInfeed_ctl (s : State) :
    (captureInfeed s).ctl = s.ctl := rfl
@[simp] theorem captureInfeed_settings (s : State) :
    (captureInfeed s).settings = s.settings := rfl
@[simp] theorem captureInfeed_line (s : State) :
    (captureInfeed s).line = s.line := rfl

/-! ## The parts that an update sets -/

@[simp] theorem raiseLine_notices (n : LineNotice) (s : State) :
    (raiseLine n s).line.notices = s.line.notices ||| n.bit := rfl
@[simp] theorem raiseLine_port (n : LineNotice) (s : State) :
    (raiseLine n s).line.port = s.line.port := rfl
@[simp] theorem raiseLine_mask (n : LineNotice) (s : State) :
    (raiseLine n s).line.mask = s.line.mask := rfl
@[simp] theorem raiseLine_hold (n : LineNotice) (s : State) :
    (raiseLine n s).line.hold = s.line.hold := rfl
@[simp] theorem updChannel_zones (f : Channel → Channel) (z : Nat) (s : State) :
    (updChannel f z s).zones = updAt f z s.zones := rfl
@[simp] theorem setSlot_zones (t : Option Target) (z : Nat) (s : State) :
    (setSlot t z s).zones = updAt (fun c => { c with slot := t }) z s.zones := rfl
@[simp] theorem detach_zones (leaving : SliceRef → Bool) (s : State) :
    (detach leaving s).zones = s.zones.map (Channel.detach leaving) := rfl
@[simp] theorem arbitrate_link (s : State) : (arbitrate s).link = granted s := rfl
@[simp] theorem advanceTo_now (n : Nat) (s : State) : (advanceTo n s).now = max s.now n := rfl
@[simp] theorem startDwell_phase (s : State) : (startDwell s).ctl.phase = s.ctl.phase := rfl
@[simp] theorem startDwell_flags (s : State) : (startDwell s).ctl.flags = s.ctl.flags := rfl
@[simp] theorem startDwell_enables (s : State) : (startDwell s).ctl.enables = s.ctl.enables := rfl
@[simp] theorem stopDwell_phase (s : State) : (stopDwell s).ctl.phase = s.ctl.phase := rfl
@[simp] theorem stopDwell_flags (s : State) : (stopDwell s).ctl.flags = s.ctl.flags := rfl
@[simp] theorem stopDwell_enables (s : State) : (stopDwell s).ctl.enables = s.ctl.enables := rfl
@[simp] theorem updRecords_records (f : HideRecord → HideRecord) (s : State) :
    (updRecords f s).hides.records = s.hides.records.map f := rfl
@[simp] theorem updRecords_completion (f : HideRecord → HideRecord) (s : State) :
    (updRecords f s).hides.completion = s.hides.completion := rfl
@[simp] theorem updHide_records (f : HideRecord → HideRecord) (n : Num) (s : State) :
    (updHide f n s).hides.records = s.hides.records.map fun r => if r.number = n then f r else r := rfl
@[simp] theorem updHide_completion (f : HideRecord → HideRecord) (n : Num) (s : State) :
    (updHide f n s).hides.completion = s.hides.completion := rfl
@[simp] theorem joinCompletion_records (n : Num) (s : State) :
    (joinCompletion n s).hides.records = s.hides.records := rfl
@[simp] theorem joinCompletion_completion (n : Num) (s : State) :
    (joinCompletion n s).hides.completion = s.hides.completion ++ [n] := rfl
@[simp] theorem openWindow_slip (n : Nat) (s : State) :
    (openWindow n s).feed.slip = { start := s.feed.h, advance := 0, count := n } := rfl
@[simp] theorem startPeriod_h (s : State) : (startPeriod s).feed.h = s.feed.h := rfl
@[simp] theorem startPeriod_f (s : State) : (startPeriod s).feed.f = s.feed.f := rfl
@[simp] theorem startPeriod_sync (s : State) : (startPeriod s).feed.sync = s.feed.sync := rfl
@[simp] theorem answerGauge_list (k : Byte) (st : Status) (fs : List Byte) (s : State) :
    (answerGauge k st fs s).intake.list = s.intake.list := rfl
@[simp] theorem answerGauge_notices (k : Byte) (st : Status) (fs : List Byte) (s : State) :
    (answerGauge k st fs s).intake.notices = s.intake.notices := rfl
@[simp] theorem answerLine_notices (k : Byte) (st : Status) (fs : List Byte) (s : State) :
    (answerLine k st fs s).line.notices = s.line.notices := rfl
@[simp] theorem answerLine_mask (k : Byte) (st : Status) (fs : List Byte) (s : State) :
    (answerLine k st fs s).line.mask = s.line.mask := rfl

/-! ## Ports -/

@[simp] theorem Port.emptyTx_rdy (p : Port) :
    (p.emptyTx).rdy = p.rdy := rfl
@[simp] theorem Port.emptyTx_rx (p : Port) :
    (p.emptyTx).rx = p.rx := rfl
@[simp] theorem Port.emptyTx_answer (p : Port) :
    (p.emptyTx).answer = p.answer := rfl
@[simp] theorem Port.emptyTx_tx (p : Port) :
    (p.emptyTx).tx = none := rfl
@[simp] theorem Port.emptyTx_cut (p : Port) :
    (p.emptyTx).cut = p.tx.or p.cut := rfl
@[simp] theorem Port.emptyTx_sdo (p : Port) :
    (p.emptyTx).sdo = p.sdo := rfl

@[simp] theorem Port.recordSdo_rdy (n : Nat) (lead : Lead) (p : Port) :
    (p.recordSdo n lead).rdy = p.rdy := rfl
@[simp] theorem Port.recordSdo_rx (n : Nat) (lead : Lead) (p : Port) :
    (p.recordSdo n lead).rx = p.rx := rfl
@[simp] theorem Port.recordSdo_answer (n : Nat) (lead : Lead) (p : Port) :
    (p.recordSdo n lead).answer = p.answer := rfl
@[simp] theorem Port.recordSdo_tx (n : Nat) (lead : Lead) (p : Port) :
    (p.recordSdo n lead).tx = p.tx := rfl
@[simp] theorem Port.recordSdo_cut (n : Nat) (lead : Lead) (p : Port) :
    (p.recordSdo n lead).cut = none := rfl
@[simp] theorem Port.recordSdo_sdo (n : Nat) (lead : Lead) (p : Port) :
    (p.recordSdo n lead).sdo = sdoBytes p.cut p.tx n lead := rfl

@[simp] theorem Port.take_rdy (sdi : List Byte) (p : Port) :
    (p.take sdi).rdy = false := rfl
@[simp] theorem Port.take_rx (sdi : List Byte) (p : Port) :
    (p.take sdi).rx = some { bytes := frameExtent sdi, acted := false } := rfl
@[simp] theorem Port.take_answer (sdi : List Byte) (p : Port) :
    (p.take sdi).answer = p.answer := rfl
@[simp] theorem Port.take_tx (sdi : List Byte) (p : Port) :
    (p.take sdi).tx = none := rfl
@[simp] theorem Port.take_cut (sdi : List Byte) (p : Port) :
    (p.take sdi).cut = p.cut := rfl
@[simp] theorem Port.take_sdo (sdi : List Byte) (p : Port) :
    (p.take sdi).sdo = p.sdo := rfl

@[simp] theorem Port.place_rdy (r : Response) (p : Port) :
    (p.place r).rdy = true := rfl
@[simp] theorem Port.place_rx (r : Response) (p : Port) :
    (p.place r).rx = none := rfl
@[simp] theorem Port.place_answer (r : Response) (p : Port) :
    (p.place r).answer = none := rfl
@[simp] theorem Port.place_tx (r : Response) (p : Port) :
    (p.place r).tx = some r := rfl
@[simp] theorem Port.place_cut (r : Response) (p : Port) :
    (p.place r).cut = p.cut := rfl
@[simp] theorem Port.place_sdo (r : Response) (p : Port) :
    (p.place r).sdo = p.sdo := rfl

end Sys2Proof.Machine
end

