-- ==== Sys2Proof/Laws/Frames.lean ====
section
/-! SUPPORT. The frames of the shared operations: for each, the blocks it leaves as they were. -/

namespace Sys2Proof.Machine

/-- What each zone's step keeps, `forZones` keeps. -/
theorem forZones_keeps {α : Type} (g : State → α) (f : Nat → State → State)
    (h : ∀ z t, g (f z t) = g t) (s : State) : g (forZones f s) = g s := by
  have run : ∀ (l : List Nat) (t : State), g (l.foldl (fun t z => f z t) t) = g t := by
    intro l
    induction l with
    | nil => intro t; rfl
    | cons z l ih => intro t; rw [List.foldl_cons, ih, h]
  exact run zoneList s

/-! ## raiseLineIf -/

@[simp] theorem raiseLineIf_pending (c : Bool) (n : LineNotice) (s : State) :
    (raiseLineIf c n s).pending = s.pending := by
  cases c <;> rfl
@[simp] theorem raiseLineIf_now (c : Bool) (n : LineNotice) (s : State) :
    (raiseLineIf c n s).now = s.now := by
  cases c <;> rfl
@[simp] theorem raiseLineIf_pins (c : Bool) (n : LineNotice) (s : State) :
    (raiseLineIf c n s).pins = s.pins := by
  cases c <;> rfl
@[simp] theorem raiseLineIf_feed (c : Bool) (n : LineNotice) (s : State) :
    (raiseLineIf c n s).feed = s.feed := by
  cases c <;> rfl
@[simp] theorem raiseLineIf_intake (c : Bool) (n : LineNotice) (s : State) :
    (raiseLineIf c n s).intake = s.intake := by
  cases c <;> rfl
@[simp] theorem raiseLineIf_hides (c : Bool) (n : LineNotice) (s : State) :
    (raiseLineIf c n s).hides = s.hides := by
  cases c <;> rfl
@[simp] theorem raiseLineIf_track (c : Bool) (n : LineNotice) (s : State) :
    (raiseLineIf c n s).track = s.track := by
  cases c <;> rfl
@[simp] theorem raiseLineIf_zones (c : Bool) (n : LineNotice) (s : State) :
    (raiseLineIf c n s).zones = s.zones := by
  cases c <;> rfl
@[simp] theorem raiseLineIf_link (c : Bool) (n : LineNotice) (s : State) :
    (raiseLineIf c n s).link = s.link := by
  cases c <;> rfl
@[simp] theorem raiseLineIf_ctl (c : Bool) (n : LineNotice) (s : State) :
    (raiseLineIf c n s).ctl = s.ctl := by
  cases c <;> rfl
@[simp] theorem raiseLineIf_settings (c : Bool) (n : LineNotice) (s : State) :
    (raiseLineIf c n s).settings = s.settings := by
  cases c <;> rfl

/-! ## raiseGauge -/

@[simp] theorem raiseGauge_pending (n : GaugeNotice) (s : State) :
    (raiseGauge n s).pending = s.pending := by
  unfold raiseGauge
  split <;> rfl
@[simp] theorem raiseGauge_now (n : GaugeNotice) (s : State) :
    (raiseGauge n s).now = s.now := by
  unfold raiseGauge
  split <;> rfl
@[simp] theorem raiseGauge_pins (n : GaugeNotice) (s : State) :
    (raiseGauge n s).pins = s.pins := by
  unfold raiseGauge
  split <;> rfl
@[simp] theorem raiseGauge_feed (n : GaugeNotice) (s : State) :
    (raiseGauge n s).feed = s.feed := by
  unfold raiseGauge
  split <;> rfl
@[simp] theorem raiseGauge_hides (n : GaugeNotice) (s : State) :
    (raiseGauge n s).hides = s.hides := by
  unfold raiseGauge
  split <;> rfl
@[simp] theorem raiseGauge_track (n : GaugeNotice) (s : State) :
    (raiseGauge n s).track = s.track := by
  unfold raiseGauge
  split <;> rfl
@[simp] theorem raiseGauge_zones (n : GaugeNotice) (s : State) :
    (raiseGauge n s).zones = s.zones := by
  unfold raiseGauge
  split <;> rfl
@[simp] theorem raiseGauge_link (n : GaugeNotice) (s : State) :
    (raiseGauge n s).link = s.link := by
  unfold raiseGauge
  split <;> rfl
@[simp] theorem raiseGauge_ctl (n : GaugeNotice) (s : State) :
    (raiseGauge n s).ctl = s.ctl := by
  unfold raiseGauge
  split <;> rfl
@[simp] theorem raiseGauge_settings (n : GaugeNotice) (s : State) :
    (raiseGauge n s).settings = s.settings := by
  unfold raiseGauge
  split <;> rfl
@[simp] theorem raiseGauge_line (n : GaugeNotice) (s : State) :
    (raiseGauge n s).line = s.line := by
  unfold raiseGauge
  split <;> rfl

/-! ## report -/

@[simp] theorem report_pending (t : Option Target) (z : Nat) (p : Progress) (s : State) :
    (report t z p s).pending = s.pending := by
  unfold report
  split <;> rfl
@[simp] theorem report_now (t : Option Target) (z : Nat) (p : Progress) (s : State) :
    (report t z p s).now = s.now := by
  unfold report
  split <;> rfl
@[simp] theorem report_pins (t : Option Target) (z : Nat) (p : Progress) (s : State) :
    (report t z p s).pins = s.pins := by
  unfold report
  split <;> rfl
@[simp] theorem report_feed (t : Option Target) (z : Nat) (p : Progress) (s : State) :
    (report t z p s).feed = s.feed := by
  unfold report
  split <;> rfl
@[simp] theorem report_intake (t : Option Target) (z : Nat) (p : Progress) (s : State) :
    (report t z p s).intake = s.intake := by
  unfold report
  split <;> rfl
@[simp] theorem report_hides (t : Option Target) (z : Nat) (p : Progress) (s : State) :
    (report t z p s).hides = s.hides := by
  unfold report
  split <;> rfl
@[simp] theorem report_zones (t : Option Target) (z : Nat) (p : Progress) (s : State) :
    (report t z p s).zones = s.zones := by
  unfold report
  split <;> rfl
@[simp] theorem report_link (t : Option Target) (z : Nat) (p : Progress) (s : State) :
    (report t z p s).link = s.link := by
  unfold report
  split <;> rfl
@[simp] theorem report_ctl (t : Option Target) (z : Nat) (p : Progress) (s : State) :
    (report t z p s).ctl = s.ctl := by
  unfold report
  split <;> rfl
@[simp] theorem report_settings (t : Option Target) (z : Nat) (p : Progress) (s : State) :
    (report t z p s).settings = s.settings := by
  unfold report
  split <;> rfl
@[simp] theorem report_line (t : Option Target) (z : Nat) (p : Progress) (s : State) :
    (report t z p s).line = s.line := by
  unfold report
  split <;> rfl

/-! ## place -/

@[simp] theorem place_pending (t : Target) (z : Nat) (s : State) :
    (place t z s).pending = s.pending := by
  simp [place]
@[simp] theorem place_now (t : Target) (z : Nat) (s : State) :
    (place t z s).now = s.now := by
  simp [place]
@[simp] theorem place_pins (t : Target) (z : Nat) (s : State) :
    (place t z s).pins = s.pins := by
  simp [place]
@[simp] theorem place_feed (t : Target) (z : Nat) (s : State) :
    (place t z s).feed = s.feed := by
  simp [place]
@[simp] theorem place_intake (t : Target) (z : Nat) (s : State) :
    (place t z s).intake = s.intake := by
  simp [place]
@[simp] theorem place_hides (t : Target) (z : Nat) (s : State) :
    (place t z s).hides = s.hides := by
  simp [place]
@[simp] theorem place_ctl (t : Target) (z : Nat) (s : State) :
    (place t z s).ctl = s.ctl := by
  simp [place]
@[simp] theorem place_settings (t : Target) (z : Nat) (s : State) :
    (place t z s).settings = s.settings := by
  simp [place]
@[simp] theorem place_line (t : Target) (z : Nat) (s : State) :
    (place t z s).line = s.line := by
  simp [place]

/-! ## discardSlot -/

@[simp] theorem discardSlot_pending (z : Nat) (s : State) :
    (discardSlot z s).pending = s.pending := by
  simp [discardSlot]
@[simp] theorem discardSlot_now (z : Nat) (s : State) :
    (discardSlot z s).now = s.now := by
  simp [discardSlot]
@[simp] theorem discardSlot_pins (z : Nat) (s : State) :
    (discardSlot z s).pins = s.pins := by
  simp [discardSlot]
@[simp] theorem discardSlot_feed (z : Nat) (s : State) :
    (discardSlot z s).feed = s.feed := by
  simp [discardSlot]
@[simp] theorem discardSlot_intake (z : Nat) (s : State) :
    (discardSlot z s).intake = s.intake := by
  simp [discardSlot]
@[simp] theorem discardSlot_hides (z : Nat) (s : State) :
    (discardSlot z s).hides = s.hides := by
  simp [discardSlot]
@[simp] theorem discardSlot_ctl (z : Nat) (s : State) :
    (discardSlot z s).ctl = s.ctl := by
  simp [discardSlot]
@[simp] theorem discardSlot_settings (z : Nat) (s : State) :
    (discardSlot z s).settings = s.settings := by
  simp [discardSlot]
@[simp] theorem discardSlot_line (z : Nat) (s : State) :
    (discardSlot z s).line = s.line := by
  simp [discardSlot]

/-! ## endFlight -/

@[simp] theorem endFlight_pending (p : Progress) (z : Nat) (s : State) :
    (endFlight p z s).pending = s.pending := by
  simp [endFlight]
@[simp] theorem endFlight_now (p : Progress) (z : Nat) (s : State) :
    (endFlight p z s).now = s.now := by
  simp [endFlight]
@[simp] theorem endFlight_pins (p : Progress) (z : Nat) (s : State) :
    (endFlight p z s).pins = s.pins := by
  simp [endFlight]
@[simp] theorem endFlight_feed (p : Progress) (z : Nat) (s : State) :
    (endFlight p z s).feed = s.feed := by
  simp [endFlight]
@[simp] theorem endFlight_intake (p : Progress) (z : Nat) (s : State) :
    (endFlight p z s).intake = s.intake := by
  simp [endFlight]
@[simp] theorem endFlight_hides (p : Progress) (z : Nat) (s : State) :
    (endFlight p z s).hides = s.hides := by
  simp [endFlight]
@[simp] theorem endFlight_link (p : Progress) (z : Nat) (s : State) :
    (endFlight p z s).link = s.link := by
  simp [endFlight]
@[simp] theorem endFlight_ctl (p : Progress) (z : Nat) (s : State) :
    (endFlight p z s).ctl = s.ctl := by
  simp [endFlight]
@[simp] theorem endFlight_settings (p : Progress) (z : Nat) (s : State) :
    (endFlight p z s).settings = s.settings := by
  simp [endFlight]
@[simp] theorem endFlight_line (p : Progress) (z : Nat) (s : State) :
    (endFlight p z s).line = s.line := by
  simp [endFlight]

/-! ## enterFault -/

@[simp] theorem enterFault_pending (z : Nat) (s : State) :
    (enterFault z s).pending = s.pending := by
  simp [enterFault]
@[simp] theorem enterFault_now (z : Nat) (s : State) :
    (enterFault z s).now = s.now := by
  simp [enterFault]
@[simp] theorem enterFault_pins (z : Nat) (s : State) :
    (enterFault z s).pins = s.pins := by
  simp [enterFault]
@[simp] theorem enterFault_feed (z : Nat) (s : State) :
    (enterFault z s).feed = s.feed := by
  simp [enterFault]
@[simp] theorem enterFault_intake (z : Nat) (s : State) :
    (enterFault z s).intake = s.intake := by
  simp [enterFault]
@[simp] theorem enterFault_hides (z : Nat) (s : State) :
    (enterFault z s).hides = s.hides := by
  simp [enterFault]
@[simp] theorem enterFault_ctl (z : Nat) (s : State) :
    (enterFault z s).ctl = s.ctl := by
  simp [enterFault]
@[simp] theorem enterFault_settings (z : Nat) (s : State) :
    (enterFault z s).settings = s.settings := by
  simp [enterFault]

/-! ## countMiss -/

@[simp] theorem countMiss_pending (z : Nat) (s : State) :
    (countMiss z s).pending = s.pending := by
  unfold countMiss
  dsimp only
  split
  split
  all_goals simp
@[simp] theorem countMiss_now (z : Nat) (s : State) :
    (countMiss z s).now = s.now := by
  unfold countMiss
  dsimp only
  split
  split
  all_goals simp
@[simp] theorem countMiss_pins (z : Nat) (s : State) :
    (countMiss z s).pins = s.pins := by
  unfold countMiss
  dsimp only
  split
  split
  all_goals simp
@[simp] theorem countMiss_feed (z : Nat) (s : State) :
    (countMiss z s).feed = s.feed := by
  unfold countMiss
  dsimp only
  split
  split
  all_goals simp
@[simp] theorem countMiss_intake (z : Nat) (s : State) :
    (countMiss z s).intake = s.intake := by
  unfold countMiss
  dsimp only
  split
  split
  all_goals simp
@[simp] theorem countMiss_hides (z : Nat) (s : State) :
    (countMiss z s).hides = s.hides := by
  unfold countMiss
  dsimp only
  split
  split
  all_goals simp
@[simp] theorem countMiss_ctl (z : Nat) (s : State) :
    (countMiss z s).ctl = s.ctl := by
  unfold countMiss
  dsimp only
  split
  split
  all_goals simp
@[simp] theorem countMiss_settings (z : Nat) (s : State) :
    (countMiss z s).settings = s.settings := by
  unfold countMiss
  dsimp only
  split
  split
  all_goals simp

/-! ## clearMisses -/

@[simp] theorem clearMisses_pending (z : Nat) (s : State) :
    (clearMisses z s).pending = s.pending := by
  unfold clearMisses
  split <;> simp
@[simp] theorem clearMisses_now (z : Nat) (s : State) :
    (clearMisses z s).now = s.now := by
  unfold clearMisses
  split <;> simp
@[simp] theorem clearMisses_pins (z : Nat) (s : State) :
    (clearMisses z s).pins = s.pins := by
  unfold clearMisses
  split <;> simp
@[simp] theorem clearMisses_feed (z : Nat) (s : State) :
    (clearMisses z s).feed = s.feed := by
  unfold clearMisses
  split <;> simp
@[simp] theorem clearMisses_intake (z : Nat) (s : State) :
    (clearMisses z s).intake = s.intake := by
  unfold clearMisses
  split <;> simp
@[simp] theorem clearMisses_hides (z : Nat) (s : State) :
    (clearMisses z s).hides = s.hides := by
  unfold clearMisses
  split <;> simp
@[simp] theorem clearMisses_track (z : Nat) (s : State) :
    (clearMisses z s).track = s.track := by
  unfold clearMisses
  split <;> simp
@[simp] theorem clearMisses_link (z : Nat) (s : State) :
    (clearMisses z s).link = s.link := by
  unfold clearMisses
  split <;> simp
@[simp] theorem clearMisses_ctl (z : Nat) (s : State) :
    (clearMisses z s).ctl = s.ctl := by
  unfold clearMisses
  split <;> simp
@[simp] theorem clearMisses_settings (z : Nat) (s : State) :
    (clearMisses z s).settings = s.settings := by
  unfold clearMisses
  split <;> simp
@[simp] theorem clearMisses_line (z : Nat) (s : State) :
    (clearMisses z s).line = s.line := by
  unfold clearMisses
  split <;> simp

/-! ## faultReply -/

@[simp] theorem faultReply_pending (z : Nat) (s : State) :
    (faultReply z s).pending = s.pending := by
  unfold faultReply
  split <;> simp
@[simp] theorem faultReply_now (z : Nat) (s : State) :
    (faultReply z s).now = s.now := by
  unfold faultReply
  split <;> simp
@[simp] theorem faultReply_pins (z : Nat) (s : State) :
    (faultReply z s).pins = s.pins := by
  unfold faultReply
  split <;> simp
@[simp] theorem faultReply_feed (z : Nat) (s : State) :
    (faultReply z s).feed = s.feed := by
  unfold faultReply
  split <;> simp
@[simp] theorem faultReply_intake (z : Nat) (s : State) :
    (faultReply z s).intake = s.intake := by
  unfold faultReply
  split <;> simp
@[simp] theorem faultReply_hides (z : Nat) (s : State) :
    (faultReply z s).hides = s.hides := by
  unfold faultReply
  split <;> simp
@[simp] theorem faultReply_ctl (z : Nat) (s : State) :
    (faultReply z s).ctl = s.ctl := by
  unfold faultReply
  split <;> simp
@[simp] theorem faultReply_settings (z : Nat) (s : State) :
    (faultReply z s).settings = s.settings := by
  unfold faultReply
  split <;> simp

/-! ## completeMove -/

@[simp] theorem completeMove_pending (z : Nat) (s : State) :
    (completeMove z s).pending = s.pending := by
  unfold completeMove
  split <;> simp
@[simp] theorem completeMove_now (z : Nat) (s : State) :
    (completeMove z s).now = s.now := by
  unfold completeMove
  split <;> simp
@[simp] theorem completeMove_pins (z : Nat) (s : State) :
    (completeMove z s).pins = s.pins := by
  unfold completeMove
  split <;> simp
@[simp] theorem completeMove_feed (z : Nat) (s : State) :
    (completeMove z s).feed = s.feed := by
  unfold completeMove
  split <;> simp
@[simp] theorem completeMove_intake (z : Nat) (s : State) :
    (completeMove z s).intake = s.intake := by
  unfold completeMove
  split <;> simp
@[simp] theorem completeMove_hides (z : Nat) (s : State) :
    (completeMove z s).hides = s.hides := by
  unfold completeMove
  split <;> simp
@[simp] theorem completeMove_link (z : Nat) (s : State) :
    (completeMove z s).link = s.link := by
  unfold completeMove
  split <;> simp
@[simp] theorem completeMove_ctl (z : Nat) (s : State) :
    (completeMove z s).ctl = s.ctl := by
  unfold completeMove
  split <;> simp
@[simp] theorem completeMove_settings (z : Nat) (s : State) :
    (completeMove z s).settings = s.settings := by
  unfold completeMove
  split <;> simp
@[simp] theorem completeMove_line (z : Nat) (s : State) :
    (completeMove z s).line = s.line := by
  unfold completeMove
  split <;> simp

/-! ## applyGate -/

@[simp] theorem applyGate_pending (s : State) :
    (applyGate s).pending = s.pending := by
  unfold applyGate
  split
  rfl
  split <;> rfl
@[simp] theorem applyGate_now (s : State) :
    (applyGate s).now = s.now := by
  unfold applyGate
  split
  rfl
  split <;> rfl
@[simp] theorem applyGate_pins (s : State) :
    (applyGate s).pins = s.pins := by
  unfold applyGate
  split
  rfl
  split <;> rfl
@[simp] theorem applyGate_intake (s : State) :
    (applyGate s).intake = s.intake := by
  unfold applyGate
  split
  rfl
  split <;> rfl
@[simp] theorem applyGate_hides (s : State) :
    (applyGate s).hides = s.hides := by
  unfold applyGate
  split
  rfl
  split <;> rfl
@[simp] theorem applyGate_track (s : State) :
    (applyGate s).track = s.track := by
  unfold applyGate
  split
  rfl
  split <;> rfl
@[simp] theorem applyGate_zones (s : State) :
    (applyGate s).zones = s.zones := by
  unfold applyGate
  split
  rfl
  split <;> rfl
@[simp] theorem applyGate_link (s : State) :
    (applyGate s).link = s.link := by
  unfold applyGate
  split
  rfl
  split <;> rfl
@[simp] theorem applyGate_ctl (s : State) :
    (applyGate s).ctl = s.ctl := by
  unfold applyGate
  split
  rfl
  split <;> rfl
@[simp] theorem applyGate_settings (s : State) :
    (applyGate s).settings = s.settings := by
  unfold applyGate
  split
  rfl
  split <;> rfl
@[simp] theorem applyGate_line (s : State) :
    (applyGate s).line = s.line := by
  unfold applyGate
  split
  rfl
  split <;> rfl

/-! ## enterPhase -/

@[simp] theorem enterPhase_pending (p : Phase) (s : State) :
    (enterPhase p s).pending = s.pending := by
  simp [enterPhase]
@[simp] theorem enterPhase_now (p : Phase) (s : State) :
    (enterPhase p s).now = s.now := by
  simp [enterPhase]
@[simp] theorem enterPhase_pins (p : Phase) (s : State) :
    (enterPhase p s).pins = s.pins := by
  simp [enterPhase]
@[simp] theorem enterPhase_intake (p : Phase) (s : State) :
    (enterPhase p s).intake = s.intake := by
  simp [enterPhase]
@[simp] theorem enterPhase_hides (p : Phase) (s : State) :
    (enterPhase p s).hides = s.hides := by
  simp [enterPhase]
@[simp] theorem enterPhase_track (p : Phase) (s : State) :
    (enterPhase p s).track = s.track := by
  simp [enterPhase]
@[simp] theorem enterPhase_zones (p : Phase) (s : State) :
    (enterPhase p s).zones = s.zones := by
  simp [enterPhase]
@[simp] theorem enterPhase_link (p : Phase) (s : State) :
    (enterPhase p s).link = s.link := by
  simp [enterPhase]
@[simp] theorem enterPhase_settings (p : Phase) (s : State) :
    (enterPhase p s).settings = s.settings := by
  simp [enterPhase]
@[simp] theorem enterPhase_line (p : Phase) (s : State) :
    (enterPhase p s).line = s.line := by
  simp [enterPhase]

/-! ## enterRun -/

@[simp] theorem enterRun_pending (s : State) :
    (enterRun s).pending = s.pending := by
  simp [enterRun]
@[simp] theorem enterRun_now (s : State) :
    (enterRun s).now = s.now := by
  simp [enterRun]
@[simp] theorem enterRun_pins (s : State) :
    (enterRun s).pins = s.pins := by
  simp [enterRun]
@[simp] theorem enterRun_intake (s : State) :
    (enterRun s).intake = s.intake := by
  simp [enterRun]
@[simp] theorem enterRun_hides (s : State) :
    (enterRun s).hides = s.hides := by
  simp [enterRun]
@[simp] theorem enterRun_track (s : State) :
    (enterRun s).track = s.track := by
  simp [enterRun]
@[simp] theorem enterRun_zones (s : State) :
    (enterRun s).zones = s.zones := by
  simp [enterRun]
@[simp] theorem enterRun_link (s : State) :
    (enterRun s).link = s.link := by
  simp [enterRun]
@[simp] theorem enterRun_settings (s : State) :
    (enterRun s).settings = s.settings := by
  simp [enterRun]
@[simp] theorem enterRun_line (s : State) :
    (enterRun s).line = s.line := by
  simp [enterRun]

/-! ## passResuming -/

@[simp] theorem passResuming_pending (s : State) :
    (passResuming s).pending = s.pending := by
  unfold passResuming
  split <;> simp
@[simp] theorem passResuming_now (s : State) :
    (passResuming s).now = s.now := by
  unfold passResuming
  split <;> simp
@[simp] theorem passResuming_pins (s : State) :
    (passResuming s).pins = s.pins := by
  unfold passResuming
  split <;> simp
@[simp] theorem passResuming_intake (s : State) :
    (passResuming s).intake = s.intake := by
  unfold passResuming
  split <;> simp
@[simp] theorem passResuming_hides (s : State) :
    (passResuming s).hides = s.hides := by
  unfold passResuming
  split <;> simp
@[simp] theorem passResuming_track (s : State) :
    (passResuming s).track = s.track := by
  unfold passResuming
  split <;> simp
@[simp] theorem passResuming_zones (s : State) :
    (passResuming s).zones = s.zones := by
  unfold passResuming
  split <;> simp
@[simp] theorem passResuming_link (s : State) :
    (passResuming s).link = s.link := by
  unfold passResuming
  split <;> simp
@[simp] theorem passResuming_settings (s : State) :
    (passResuming s).settings = s.settings := by
  unfold passResuming
  split <;> simp
@[simp] theorem passResuming_line (s : State) :
    (passResuming s).line = s.line := by
  unfold passResuming
  split <;> simp

/-! ## placeEntry -/

@[simp] theorem placeEntry_pending (z : Nat) (s : State) :
    (placeEntry z s).pending = s.pending := by
  unfold placeEntry
  split <;> simp
@[simp] theorem placeEntry_now (z : Nat) (s : State) :
    (placeEntry z s).now = s.now := by
  unfold placeEntry
  split <;> simp
@[simp] theorem placeEntry_pins (z : Nat) (s : State) :
    (placeEntry z s).pins = s.pins := by
  unfold placeEntry
  split <;> simp
@[simp] theorem placeEntry_feed (z : Nat) (s : State) :
    (placeEntry z s).feed = s.feed := by
  unfold placeEntry
  split <;> simp
@[simp] theorem placeEntry_intake (z : Nat) (s : State) :
    (placeEntry z s).intake = s.intake := by
  unfold placeEntry
  split <;> simp
@[simp] theorem placeEntry_hides (z : Nat) (s : State) :
    (placeEntry z s).hides = s.hides := by
  unfold placeEntry
  split <;> simp
@[simp] theorem placeEntry_ctl (z : Nat) (s : State) :
    (placeEntry z s).ctl = s.ctl := by
  unfold placeEntry
  split <;> simp
@[simp] theorem placeEntry_settings (z : Nat) (s : State) :
    (placeEntry z s).settings = s.settings := by
  unfold placeEntry
  split <;> simp
@[simp] theorem placeEntry_line (z : Nat) (s : State) :
    (placeEntry z s).line = s.line := by
  unfold placeEntry
  split <;> simp

/-! ## placePark -/

@[simp] theorem placePark_pending (z : Nat) (s : State) :
    (placePark z s).pending = s.pending := by
  unfold placePark
  split <;> simp
@[simp] theorem placePark_now (z : Nat) (s : State) :
    (placePark z s).now = s.now := by
  unfold placePark
  split <;> simp
@[simp] theorem placePark_pins (z : Nat) (s : State) :
    (placePark z s).pins = s.pins := by
  unfold placePark
  split <;> simp
@[simp] theorem placePark_feed (z : Nat) (s : State) :
    (placePark z s).feed = s.feed := by
  unfold placePark
  split <;> simp
@[simp] theorem placePark_intake (z : Nat) (s : State) :
    (placePark z s).intake = s.intake := by
  unfold placePark
  split <;> simp
@[simp] theorem placePark_hides (z : Nat) (s : State) :
    (placePark z s).hides = s.hides := by
  unfold placePark
  split <;> simp
@[simp] theorem placePark_ctl (z : Nat) (s : State) :
    (placePark z s).ctl = s.ctl := by
  unfold placePark
  split <;> simp
@[simp] theorem placePark_settings (z : Nat) (s : State) :
    (placePark z s).settings = s.settings := by
  unfold placePark
  split <;> simp
@[simp] theorem placePark_line (z : Nat) (s : State) :
    (placePark z s).line = s.line := by
  unfold placePark
  split <;> simp

/-! ## enterResuming -/

@[simp] theorem enterResuming_pending (s : State) :
    (enterResuming s).pending = s.pending := by
  simp [enterResuming, forZones_keeps State.pending placeEntry placeEntry_pending]
@[simp] theorem enterResuming_now (s : State) :
    (enterResuming s).now = s.now := by
  simp [enterResuming, forZones_keeps State.now placeEntry placeEntry_now]
@[simp] theorem enterResuming_pins (s : State) :
    (enterResuming s).pins = s.pins := by
  simp [enterResuming, forZones_keeps State.pins placeEntry placeEntry_pins]
@[simp] theorem enterResuming_intake (s : State) :
    (enterResuming s).intake = s.intake := by
  simp [enterResuming, forZones_keeps State.intake placeEntry placeEntry_intake]
@[simp] theorem enterResuming_hides (s : State) :
    (enterResuming s).hides = s.hides := by
  simp [enterResuming, forZones_keeps State.hides placeEntry placeEntry_hides]
@[simp] theorem enterResuming_settings (s : State) :
    (enterResuming s).settings = s.settings := by
  simp [enterResuming, forZones_keeps State.settings placeEntry placeEntry_settings]
@[simp] theorem enterResuming_line (s : State) :
    (enterResuming s).line = s.line := by
  simp [enterResuming, forZones_keeps State.line placeEntry placeEntry_line]

/-! ## applyKnife -/

@[simp] theorem applyKnife_pending (k : List Int) (s : State) :
    (applyKnife k s).pending = s.pending := by
  simp [applyKnife]
@[simp] theorem applyKnife_now (k : List Int) (s : State) :
    (applyKnife k s).now = s.now := by
  simp [applyKnife]
@[simp] theorem applyKnife_pins (k : List Int) (s : State) :
    (applyKnife k s).pins = s.pins := by
  simp [applyKnife]
@[simp] theorem applyKnife_feed (k : List Int) (s : State) :
    (applyKnife k s).feed = s.feed := by
  simp [applyKnife]
@[simp] theorem applyKnife_intake (k : List Int) (s : State) :
    (applyKnife k s).intake = s.intake := by
  simp [applyKnife]
@[simp] theorem applyKnife_hides (k : List Int) (s : State) :
    (applyKnife k s).hides = s.hides := by
  simp [applyKnife]
@[simp] theorem applyKnife_zones (k : List Int) (s : State) :
    (applyKnife k s).zones = s.zones := by
  simp [applyKnife]
@[simp] theorem applyKnife_link (k : List Int) (s : State) :
    (applyKnife k s).link = s.link := by
  simp [applyKnife]
@[simp] theorem applyKnife_ctl (k : List Int) (s : State) :
    (applyKnife k s).ctl = s.ctl := by
  simp [applyKnife]

/-! ## applyPending -/

@[simp] theorem applyPending_pending (s : State) :
    (applyPending s).pending = s.pending := by
  unfold applyPending
  split
  rfl
  split <;> simp
@[simp] theorem applyPending_now (s : State) :
    (applyPending s).now = s.now := by
  unfold applyPending
  split
  rfl
  split <;> simp
@[simp] theorem applyPending_pins (s : State) :
    (applyPending s).pins = s.pins := by
  unfold applyPending
  split
  rfl
  split <;> simp
@[simp] theorem applyPending_feed (s : State) :
    (applyPending s).feed = s.feed := by
  unfold applyPending
  split
  rfl
  split <;> simp
@[simp] theorem applyPending_intake (s : State) :
    (applyPending s).intake = s.intake := by
  unfold applyPending
  split
  rfl
  split <;> simp
@[simp] theorem applyPending_hides (s : State) :
    (applyPending s).hides = s.hides := by
  unfold applyPending
  split
  rfl
  split <;> simp
@[simp] theorem applyPending_zones (s : State) :
    (applyPending s).zones = s.zones := by
  unfold applyPending
  split
  rfl
  split <;> simp
@[simp] theorem applyPending_link (s : State) :
    (applyPending s).link = s.link := by
  unfold applyPending
  split
  rfl
  split <;> simp
@[simp] theorem applyPending_ctl (s : State) :
    (applyPending s).ctl = s.ctl := by
  unfold applyPending
  split
  rfl
  split <;> simp

/-! ## becomeDone -/

@[simp] theorem becomeDone_pending (n : Num) (s : State) :
    (becomeDone n s).pending = s.pending := by
  simp [becomeDone]
@[simp] theorem becomeDone_now (n : Num) (s : State) :
    (becomeDone n s).now = s.now := by
  simp [becomeDone]
@[simp] theorem becomeDone_pins (n : Num) (s : State) :
    (becomeDone n s).pins = s.pins := by
  simp [becomeDone]
@[simp] theorem becomeDone_feed (n : Num) (s : State) :
    (becomeDone n s).feed = s.feed := by
  simp [becomeDone]
@[simp] theorem becomeDone_intake (n : Num) (s : State) :
    (becomeDone n s).intake = s.intake := by
  simp [becomeDone]
@[simp] theorem becomeDone_zones (n : Num) (s : State) :
    (becomeDone n s).zones = s.zones := by
  simp [becomeDone]
@[simp] theorem becomeDone_link (n : Num) (s : State) :
    (becomeDone n s).link = s.link := by
  simp [becomeDone]
@[simp] theorem becomeDone_ctl (n : Num) (s : State) :
    (becomeDone n s).ctl = s.ctl := by
  simp [becomeDone]

/-! ## tryDone -/

@[simp] theorem tryDone_pending (n : Num) (s : State) :
    (tryDone n s).pending = s.pending := by
  unfold tryDone
  split
  split
  all_goals simp
@[simp] theorem tryDone_now (n : Num) (s : State) :
    (tryDone n s).now = s.now := by
  unfold tryDone
  split
  split
  all_goals simp
@[simp] theorem tryDone_pins (n : Num) (s : State) :
    (tryDone n s).pins = s.pins := by
  unfold tryDone
  split
  split
  all_goals simp
@[simp] theorem tryDone_feed (n : Num) (s : State) :
    (tryDone n s).feed = s.feed := by
  unfold tryDone
  split
  split
  all_goals simp
@[simp] theorem tryDone_intake (n : Num) (s : State) :
    (tryDone n s).intake = s.intake := by
  unfold tryDone
  split
  split
  all_goals simp
@[simp] theorem tryDone_zones (n : Num) (s : State) :
    (tryDone n s).zones = s.zones := by
  unfold tryDone
  split
  split
  all_goals simp
@[simp] theorem tryDone_link (n : Num) (s : State) :
    (tryDone n s).link = s.link := by
  unfold tryDone
  split
  split
  all_goals simp
@[simp] theorem tryDone_ctl (n : Num) (s : State) :
    (tryDone n s).ctl = s.ctl := by
  unfold tryDone
  split
  split
  all_goals simp

/-! ## endAt -/

@[simp] theorem endAt_pending (n e : Num) (forced : Bool) (s : State) :
    (endAt n e forced s).pending = s.pending := by
  simp [endAt]
@[simp] theorem endAt_now (n e : Num) (forced : Bool) (s : State) :
    (endAt n e forced s).now = s.now := by
  simp [endAt]
@[simp] theorem endAt_pins (n e : Num) (forced : Bool) (s : State) :
    (endAt n e forced s).pins = s.pins := by
  simp [endAt]
@[simp] theorem endAt_feed (n e : Num) (forced : Bool) (s : State) :
    (endAt n e forced s).feed = s.feed := by
  simp [endAt]
@[simp] theorem endAt_intake (n e : Num) (forced : Bool) (s : State) :
    (endAt n e forced s).intake = s.intake := by
  simp [endAt]
@[simp] theorem endAt_zones (n e : Num) (forced : Bool) (s : State) :
    (endAt n e forced s).zones = s.zones := by
  simp [endAt]
@[simp] theorem endAt_link (n e : Num) (forced : Bool) (s : State) :
    (endAt n e forced s).link = s.link := by
  simp [endAt]
@[simp] theorem endAt_ctl (n e : Num) (forced : Bool) (s : State) :
    (endAt n e forced s).ctl = s.ctl := by
  simp [endAt]

/-! ## abandonAll -/

@[simp] theorem abandonAll_pending (cause : AbandonCause) (s : State) :
    (abandonAll cause s).pending = s.pending := by
  simp [abandonAll]
@[simp] theorem abandonAll_now (cause : AbandonCause) (s : State) :
    (abandonAll cause s).now = s.now := by
  simp [abandonAll]
@[simp] theorem abandonAll_pins (cause : AbandonCause) (s : State) :
    (abandonAll cause s).pins = s.pins := by
  simp [abandonAll]
@[simp] theorem abandonAll_feed (cause : AbandonCause) (s : State) :
    (abandonAll cause s).feed = s.feed := by
  simp [abandonAll]
@[simp] theorem abandonAll_intake (cause : AbandonCause) (s : State) :
    (abandonAll cause s).intake = s.intake := by
  simp [abandonAll]
@[simp] theorem abandonAll_track (cause : AbandonCause) (s : State) :
    (abandonAll cause s).track = s.track := by
  simp [abandonAll]
@[simp] theorem abandonAll_zones (cause : AbandonCause) (s : State) :
    (abandonAll cause s).zones = s.zones := by
  simp [abandonAll]
@[simp] theorem abandonAll_link (cause : AbandonCause) (s : State) :
    (abandonAll cause s).link = s.link := by
  simp [abandonAll]
@[simp] theorem abandonAll_ctl (cause : AbandonCause) (s : State) :
    (abandonAll cause s).ctl = s.ctl := by
  simp [abandonAll]
@[simp] theorem abandonAll_settings (cause : AbandonCause) (s : State) :
    (abandonAll cause s).settings = s.settings := by
  simp [abandonAll]

/-! ## emptyTrack -/

@[simp] theorem emptyTrack_pending (cause : AbandonCause) (s : State) :
    (emptyTrack cause s).pending = s.pending := by
  simp [emptyTrack]
@[simp] theorem emptyTrack_now (cause : AbandonCause) (s : State) :
    (emptyTrack cause s).now = s.now := by
  simp [emptyTrack]
@[simp] theorem emptyTrack_pins (cause : AbandonCause) (s : State) :
    (emptyTrack cause s).pins = s.pins := by
  simp [emptyTrack]
@[simp] theorem emptyTrack_feed (cause : AbandonCause) (s : State) :
    (emptyTrack cause s).feed = s.feed := by
  simp [emptyTrack]
@[simp] theorem emptyTrack_ctl (cause : AbandonCause) (s : State) :
    (emptyTrack cause s).ctl = s.ctl := by
  simp [emptyTrack]

/-! ## flush -/

@[simp] theorem flush_pending (cause : AbandonCause) (s : State) :
    (flush cause s).pending = s.pending := by
  simp [flush]
@[simp] theorem flush_now (cause : AbandonCause) (s : State) :
    (flush cause s).now = s.now := by
  simp [flush]
@[simp] theorem flush_pins (cause : AbandonCause) (s : State) :
    (flush cause s).pins = s.pins := by
  simp [flush]
@[simp] theorem flush_ctl (cause : AbandonCause) (s : State) :
    (flush cause s).ctl = s.ctl := by
  simp [flush]

/-! ## enterDwell -/

@[simp] theorem enterDwell_pending (s : State) :
    (enterDwell s).pending = s.pending := by
  simp [enterDwell]
@[simp] theorem enterDwell_now (s : State) :
    (enterDwell s).now = s.now := by
  simp [enterDwell]
@[simp] theorem enterDwell_pins (s : State) :
    (enterDwell s).pins = s.pins := by
  simp [enterDwell]
@[simp] theorem enterDwell_intake (s : State) :
    (enterDwell s).intake = s.intake := by
  simp [enterDwell]
@[simp] theorem enterDwell_hides (s : State) :
    (enterDwell s).hides = s.hides := by
  simp [enterDwell]
@[simp] theorem enterDwell_track (s : State) :
    (enterDwell s).track = s.track := by
  simp [enterDwell]
@[simp] theorem enterDwell_zones (s : State) :
    (enterDwell s).zones = s.zones := by
  simp [enterDwell]
@[simp] theorem enterDwell_link (s : State) :
    (enterDwell s).link = s.link := by
  simp [enterDwell]
@[simp] theorem enterDwell_settings (s : State) :
    (enterDwell s).settings = s.settings := by
  simp [enterDwell]

/-! ## enterPark -/

@[simp] theorem enterPark_pending (s : State) :
    (enterPark s).pending = s.pending := by
  simp [enterPark, forZones_keeps State.pending placePark placePark_pending]
@[simp] theorem enterPark_now (s : State) :
    (enterPark s).now = s.now := by
  simp [enterPark, forZones_keeps State.now placePark placePark_now]
@[simp] theorem enterPark_pins (s : State) :
    (enterPark s).pins = s.pins := by
  simp [enterPark, forZones_keeps State.pins placePark placePark_pins]

/-! ## enterRest -/

@[simp] theorem enterRest_pending (s : State) :
    (enterRest s).pending = s.pending := by
  unfold enterRest
  split <;> simp
@[simp] theorem enterRest_now (s : State) :
    (enterRest s).now = s.now := by
  unfold enterRest
  split <;> simp
@[simp] theorem enterRest_pins (s : State) :
    (enterRest s).pins = s.pins := by
  unfold enterRest
  split <;> simp

/-! ## enterBraking -/

@[simp] theorem enterBraking_pending (s : State) :
    (enterBraking s).pending = s.pending := by
  unfold enterBraking
  dsimp only
  split <;> simp
@[simp] theorem enterBraking_now (s : State) :
    (enterBraking s).now = s.now := by
  unfold enterBraking
  dsimp only
  split <;> simp
@[simp] theorem enterBraking_pins (s : State) :
    (enterBraking s).pins = s.pins := by
  unfold enterBraking
  dsimp only
  split <;> simp

/-! ## passClearing -/

@[simp] theorem passClearing_pending (s : State) :
    (passClearing s).pending = s.pending := by
  unfold passClearing
  split <;> simp
@[simp] theorem passClearing_now (s : State) :
    (passClearing s).now = s.now := by
  unfold passClearing
  split <;> simp
@[simp] theorem passClearing_pins (s : State) :
    (passClearing s).pins = s.pins := by
  unfold passClearing
  split <;> simp

/-! ## settle -/

@[simp] theorem settle_pending (s : State) :
    (settle s).pending = s.pending := by
  simp [settle]
@[simp] theorem settle_now (s : State) :
    (settle s).now = s.now := by
  simp [settle]
@[simp] theorem settle_pins (s : State) :
    (settle s).pins = s.pins := by
  simp [settle]

/-! ## stillZone -/

@[simp] theorem stillZone_pending (z : Nat) (s : State) :
    (stillZone z s).pending = s.pending := by
  simp [stillZone]
@[simp] theorem stillZone_now (z : Nat) (s : State) :
    (stillZone z s).now = s.now := by
  simp [stillZone]
@[simp] theorem stillZone_pins (z : Nat) (s : State) :
    (stillZone z s).pins = s.pins := by
  simp [stillZone]
@[simp] theorem stillZone_feed (z : Nat) (s : State) :
    (stillZone z s).feed = s.feed := by
  simp [stillZone]
@[simp] theorem stillZone_intake (z : Nat) (s : State) :
    (stillZone z s).intake = s.intake := by
  simp [stillZone]
@[simp] theorem stillZone_hides (z : Nat) (s : State) :
    (stillZone z s).hides = s.hides := by
  simp [stillZone]
@[simp] theorem stillZone_ctl (z : Nat) (s : State) :
    (stillZone z s).ctl = s.ctl := by
  simp [stillZone]
@[simp] theorem stillZone_settings (z : Nat) (s : State) :
    (stillZone z s).settings = s.settings := by
  simp [stillZone]
@[simp] theorem stillZone_line (z : Nat) (s : State) :
    (stillZone z s).line = s.line := by
  simp [stillZone]

/-! ## stillZones -/

@[simp] theorem stillZones_pending (s : State) :
    (stillZones s).pending = s.pending := by
  simp [stillZones, forZones_keeps State.pending stillZone stillZone_pending]
@[simp] theorem stillZones_now (s : State) :
    (stillZones s).now = s.now := by
  simp [stillZones, forZones_keeps State.now stillZone stillZone_now]
@[simp] theorem stillZones_pins (s : State) :
    (stillZones s).pins = s.pins := by
  simp [stillZones, forZones_keeps State.pins stillZone stillZone_pins]
@[simp] theorem stillZones_feed (s : State) :
    (stillZones s).feed = s.feed := by
  simp [stillZones, forZones_keeps State.feed stillZone stillZone_feed]
@[simp] theorem stillZones_intake (s : State) :
    (stillZones s).intake = s.intake := by
  simp [stillZones, forZones_keeps State.intake stillZone stillZone_intake]
@[simp] theorem stillZones_hides (s : State) :
    (stillZones s).hides = s.hides := by
  simp [stillZones, forZones_keeps State.hides stillZone stillZone_hides]
@[simp] theorem stillZones_ctl (s : State) :
    (stillZones s).ctl = s.ctl := by
  simp [stillZones, forZones_keeps State.ctl stillZone stillZone_ctl]
@[simp] theorem stillZones_settings (s : State) :
    (stillZones s).settings = s.settings := by
  simp [stillZones, forZones_keeps State.settings stillZone stillZone_settings]
@[simp] theorem stillZones_line (s : State) :
    (stillZones s).line = s.line := by
  simp [stillZones, forZones_keeps State.line stillZone stillZone_line]

/-! ## enterHalt -/

@[simp] theorem enterHalt_pending (s : State) :
    (enterHalt s).pending = s.pending := by
  simp [enterHalt]
@[simp] theorem enterHalt_now (s : State) :
    (enterHalt s).now = s.now := by
  simp [enterHalt]
@[simp] theorem enterHalt_pins (s : State) :
    (enterHalt s).pins = s.pins := by
  simp [enterHalt]

/-! ## wakeEvent -/

@[simp] theorem wakeEvent_pending (s : State) :
    (wakeEvent s).pending = s.pending := by
  unfold wakeEvent
  split <;> simp
@[simp] theorem wakeEvent_now (s : State) :
    (wakeEvent s).now = s.now := by
  unfold wakeEvent
  split <;> simp
@[simp] theorem wakeEvent_pins (s : State) :
    (wakeEvent s).pins = s.pins := by
  unfold wakeEvent
  split <;> simp
@[simp] theorem wakeEvent_intake (s : State) :
    (wakeEvent s).intake = s.intake := by
  unfold wakeEvent
  split <;> simp
@[simp] theorem wakeEvent_hides (s : State) :
    (wakeEvent s).hides = s.hides := by
  unfold wakeEvent
  split <;> simp
@[simp] theorem wakeEvent_settings (s : State) :
    (wakeEvent s).settings = s.settings := by
  unfold wakeEvent
  split <;> simp

/-! ## changeWake -/

@[simp] theorem changeWake_pending (f : Controller → Controller) (s : State) :
    (changeWake f s).pending = s.pending := by
  unfold changeWake
  dsimp only
  split <;> simp
@[simp] theorem changeWake_now (f : Controller → Controller) (s : State) :
    (changeWake f s).now = s.now := by
  unfold changeWake
  dsimp only
  split <;> simp
@[simp] theorem changeWake_pins (f : Controller → Controller) (s : State) :
    (changeWake f s).pins = s.pins := by
  unfold changeWake
  dsimp only
  split <;> simp
@[simp] theorem changeWake_intake (f : Controller → Controller) (s : State) :
    (changeWake f s).intake = s.intake := by
  unfold changeWake
  dsimp only
  split <;> simp
@[simp] theorem changeWake_hides (f : Controller → Controller) (s : State) :
    (changeWake f s).hides = s.hides := by
  unfold changeWake
  dsimp only
  split <;> simp
@[simp] theorem changeWake_settings (f : Controller → Controller) (s : State) :
    (changeWake f s).settings = s.settings := by
  unfold changeWake
  dsimp only
  split <;> simp

/-! ## setWakeFlag -/

@[simp] theorem setWakeFlag_pending (w : WakeFlag) (s : State) :
    (setWakeFlag w s).pending = s.pending := by
  simp [setWakeFlag]
@[simp] theorem setWakeFlag_now (w : WakeFlag) (s : State) :
    (setWakeFlag w s).now = s.now := by
  simp [setWakeFlag]
@[simp] theorem setWakeFlag_pins (w : WakeFlag) (s : State) :
    (setWakeFlag w s).pins = s.pins := by
  simp [setWakeFlag]
@[simp] theorem setWakeFlag_intake (w : WakeFlag) (s : State) :
    (setWakeFlag w s).intake = s.intake := by
  simp [setWakeFlag]
@[simp] theorem setWakeFlag_hides (w : WakeFlag) (s : State) :
    (setWakeFlag w s).hides = s.hides := by
  simp [setWakeFlag]
@[simp] theorem setWakeFlag_settings (w : WakeFlag) (s : State) :
    (setWakeFlag w s).settings = s.settings := by
  simp [setWakeFlag]

/-! ## enterTrack -/

@[simp] theorem enterTrack_pending (e : Entry) (r : HideRecord) (s : State) :
    (enterTrack e r s).pending = s.pending := by
  simp [enterTrack]
@[simp] theorem enterTrack_now (e : Entry) (r : HideRecord) (s : State) :
    (enterTrack e r s).now = s.now := by
  simp [enterTrack]
@[simp] theorem enterTrack_pins (e : Entry) (r : HideRecord) (s : State) :
    (enterTrack e r s).pins = s.pins := by
  simp [enterTrack]
@[simp] theorem enterTrack_feed (e : Entry) (r : HideRecord) (s : State) :
    (enterTrack e r s).feed = s.feed := by
  simp [enterTrack]
@[simp] theorem enterTrack_intake (e : Entry) (r : HideRecord) (s : State) :
    (enterTrack e r s).intake = s.intake := by
  simp [enterTrack]
@[simp] theorem enterTrack_zones (e : Entry) (r : HideRecord) (s : State) :
    (enterTrack e r s).zones = s.zones := by
  simp [enterTrack]
@[simp] theorem enterTrack_link (e : Entry) (r : HideRecord) (s : State) :
    (enterTrack e r s).link = s.link := by
  simp [enterTrack]
@[simp] theorem enterTrack_ctl (e : Entry) (r : HideRecord) (s : State) :
    (enterTrack e r s).ctl = s.ctl := by
  simp [enterTrack]
@[simp] theorem enterTrack_settings (e : Entry) (r : HideRecord) (s : State) :
    (enterTrack e r s).settings = s.settings := by
  simp [enterTrack]

/-! ## dropOrphan -/

@[simp] theorem dropOrphan_pending (e : Entry) (s : State) :
    (dropOrphan e s).pending = s.pending := by
  unfold dropOrphan
  split <;> simp
@[simp] theorem dropOrphan_now (e : Entry) (s : State) :
    (dropOrphan e s).now = s.now := by
  unfold dropOrphan
  split <;> simp
@[simp] theorem dropOrphan_pins (e : Entry) (s : State) :
    (dropOrphan e s).pins = s.pins := by
  unfold dropOrphan
  split <;> simp
@[simp] theorem dropOrphan_feed (e : Entry) (s : State) :
    (dropOrphan e s).feed = s.feed := by
  unfold dropOrphan
  split <;> simp
@[simp] theorem dropOrphan_hides (e : Entry) (s : State) :
    (dropOrphan e s).hides = s.hides := by
  unfold dropOrphan
  split <;> simp
@[simp] theorem dropOrphan_track (e : Entry) (s : State) :
    (dropOrphan e s).track = s.track := by
  unfold dropOrphan
  split <;> simp
@[simp] theorem dropOrphan_zones (e : Entry) (s : State) :
    (dropOrphan e s).zones = s.zones := by
  unfold dropOrphan
  split <;> simp
@[simp] theorem dropOrphan_link (e : Entry) (s : State) :
    (dropOrphan e s).link = s.link := by
  unfold dropOrphan
  split <;> simp
@[simp] theorem dropOrphan_ctl (e : Entry) (s : State) :
    (dropOrphan e s).ctl = s.ctl := by
  unfold dropOrphan
  split <;> simp
@[simp] theorem dropOrphan_settings (e : Entry) (s : State) :
    (dropOrphan e s).settings = s.settings := by
  unfold dropOrphan
  split <;> simp
@[simp] theorem dropOrphan_line (e : Entry) (s : State) :
    (dropOrphan e s).line = s.line := by
  unfold dropOrphan
  split <;> simp

/-! ## handOn -/

@[simp] theorem handOn_pending (e : Entry) (s : State) :
    (handOn e s).pending = s.pending := by
  unfold handOn
  split
  split
  all_goals simp
@[simp] theorem handOn_now (e : Entry) (s : State) :
    (handOn e s).now = s.now := by
  unfold handOn
  split
  split
  all_goals simp
@[simp] theorem handOn_pins (e : Entry) (s : State) :
    (handOn e s).pins = s.pins := by
  unfold handOn
  split
  split
  all_goals simp
@[simp] theorem handOn_feed (e : Entry) (s : State) :
    (handOn e s).feed = s.feed := by
  unfold handOn
  split
  split
  all_goals simp
@[simp] theorem handOn_zones (e : Entry) (s : State) :
    (handOn e s).zones = s.zones := by
  unfold handOn
  split
  split
  all_goals simp
@[simp] theorem handOn_link (e : Entry) (s : State) :
    (handOn e s).link = s.link := by
  unfold handOn
  split
  split
  all_goals simp
@[simp] theorem handOn_ctl (e : Entry) (s : State) :
    (handOn e s).ctl = s.ctl := by
  unfold handOn
  split
  split
  all_goals simp
@[simp] theorem handOn_settings (e : Entry) (s : State) :
    (handOn e s).settings = s.settings := by
  unfold handOn
  split
  split
  all_goals simp

/-! ## departHead -/

@[simp] theorem departHead_pending (s : State) :
    (departHead s).pending = s.pending := by
  unfold departHead
  split <;> simp
@[simp] theorem departHead_now (s : State) :
    (departHead s).now = s.now := by
  unfold departHead
  split <;> simp
@[simp] theorem departHead_pins (s : State) :
    (departHead s).pins = s.pins := by
  unfold departHead
  split <;> simp
@[simp] theorem departHead_feed (s : State) :
    (departHead s).feed = s.feed := by
  unfold departHead
  split <;> simp
@[simp] theorem departHead_zones (s : State) :
    (departHead s).zones = s.zones := by
  unfold departHead
  split <;> simp
@[simp] theorem departHead_link (s : State) :
    (departHead s).link = s.link := by
  unfold departHead
  split <;> simp
@[simp] theorem departHead_ctl (s : State) :
    (departHead s).ctl = s.ctl := by
  unfold departHead
  split <;> simp
@[simp] theorem departHead_settings (s : State) :
    (departHead s).settings = s.settings := by
  unfold departHead
  split <;> simp

/-! ## lockSync -/

@[simp] theorem lockSync_pending (s : State) :
    (lockSync s).pending = s.pending := by
  unfold lockSync
  split <;> simp
@[simp] theorem lockSync_now (s : State) :
    (lockSync s).now = s.now := by
  unfold lockSync
  split <;> simp
@[simp] theorem lockSync_pins (s : State) :
    (lockSync s).pins = s.pins := by
  unfold lockSync
  split <;> simp
@[simp] theorem lockSync_hides (s : State) :
    (lockSync s).hides = s.hides := by
  unfold lockSync
  split <;> simp
@[simp] theorem lockSync_track (s : State) :
    (lockSync s).track = s.track := by
  unfold lockSync
  split <;> simp
@[simp] theorem lockSync_zones (s : State) :
    (lockSync s).zones = s.zones := by
  unfold lockSync
  split <;> simp
@[simp] theorem lockSync_link (s : State) :
    (lockSync s).link = s.link := by
  unfold lockSync
  split <;> simp
@[simp] theorem lockSync_ctl (s : State) :
    (lockSync s).ctl = s.ctl := by
  unfold lockSync
  split <;> simp
@[simp] theorem lockSync_settings (s : State) :
    (lockSync s).settings = s.settings := by
  unfold lockSync
  split <;> simp

/-! ## slipFound -/

@[simp] theorem slipFound_pending (s : State) :
    (slipFound s).pending = s.pending := by
  unfold slipFound
  dsimp only
  split <;> simp
@[simp] theorem slipFound_now (s : State) :
    (slipFound s).now = s.now := by
  unfold slipFound
  dsimp only
  split <;> simp
@[simp] theorem slipFound_pins (s : State) :
    (slipFound s).pins = s.pins := by
  unfold slipFound
  dsimp only
  split <;> simp
@[simp] theorem slipFound_intake (s : State) :
    (slipFound s).intake = s.intake := by
  unfold slipFound
  dsimp only
  split <;> simp
@[simp] theorem slipFound_track (s : State) :
    (slipFound s).track = s.track := by
  unfold slipFound
  dsimp only
  split <;> simp
@[simp] theorem slipFound_zones (s : State) :
    (slipFound s).zones = s.zones := by
  unfold slipFound
  dsimp only
  split <;> simp
@[simp] theorem slipFound_link (s : State) :
    (slipFound s).link = s.link := by
  unfold slipFound
  dsimp only
  split <;> simp
@[simp] theorem slipFound_ctl (s : State) :
    (slipFound s).ctl = s.ctl := by
  unfold slipFound
  dsimp only
  split <;> simp
@[simp] theorem slipFound_settings (s : State) :
    (slipFound s).settings = s.settings := by
  unfold slipFound
  dsimp only
  split <;> simp

/-! ## riseSlip -/

@[simp] theorem riseSlip_pending (s : State) :
    (riseSlip s).pending = s.pending := by
  unfold riseSlip
  split
  split
  all_goals simp
@[simp] theorem riseSlip_now (s : State) :
    (riseSlip s).now = s.now := by
  unfold riseSlip
  split
  split
  all_goals simp
@[simp] theorem riseSlip_pins (s : State) :
    (riseSlip s).pins = s.pins := by
  unfold riseSlip
  split
  split
  all_goals simp
@[simp] theorem riseSlip_intake (s : State) :
    (riseSlip s).intake = s.intake := by
  unfold riseSlip
  split
  split
  all_goals simp
@[simp] theorem riseSlip_track (s : State) :
    (riseSlip s).track = s.track := by
  unfold riseSlip
  split
  split
  all_goals simp
@[simp] theorem riseSlip_zones (s : State) :
    (riseSlip s).zones = s.zones := by
  unfold riseSlip
  split
  split
  all_goals simp
@[simp] theorem riseSlip_link (s : State) :
    (riseSlip s).link = s.link := by
  unfold riseSlip
  split
  split
  all_goals simp
@[simp] theorem riseSlip_ctl (s : State) :
    (riseSlip s).ctl = s.ctl := by
  unfold riseSlip
  split
  split
  all_goals simp
@[simp] theorem riseSlip_settings (s : State) :
    (riseSlip s).settings = s.settings := by
  unfold riseSlip
  split
  split
  all_goals simp

/-! ## enterSettling -/

@[simp] theorem enterSettling_pending (s : State) :
    (enterSettling s).pending = s.pending := by
  simp [enterSettling]
@[simp] theorem enterSettling_now (s : State) :
    (enterSettling s).now = s.now := by
  simp [enterSettling]
@[simp] theorem enterSettling_pins (s : State) :
    (enterSettling s).pins = s.pins := by
  simp [enterSettling]
@[simp] theorem enterSettling_intake (s : State) :
    (enterSettling s).intake = s.intake := by
  simp [enterSettling]
@[simp] theorem enterSettling_hides (s : State) :
    (enterSettling s).hides = s.hides := by
  simp [enterSettling]
@[simp] theorem enterSettling_track (s : State) :
    (enterSettling s).track = s.track := by
  simp [enterSettling]
@[simp] theorem enterSettling_zones (s : State) :
    (enterSettling s).zones = s.zones := by
  simp [enterSettling]
@[simp] theorem enterSettling_link (s : State) :
    (enterSettling s).link = s.link := by
  simp [enterSettling]
@[simp] theorem enterSettling_ctl (s : State) :
    (enterSettling s).ctl = s.ctl := by
  simp [enterSettling]
@[simp] theorem enterSettling_settings (s : State) :
    (enterSettling s).settings = s.settings := by
  simp [enterSettling]

/-! ## haltIfAsserted -/

@[simp] theorem haltIfAsserted_pending (s : State) :
    (haltIfAsserted s).pending = s.pending := by
  unfold haltIfAsserted
  split <;> simp
@[simp] theorem haltIfAsserted_now (s : State) :
    (haltIfAsserted s).now = s.now := by
  unfold haltIfAsserted
  split <;> simp
@[simp] theorem haltIfAsserted_pins (s : State) :
    (haltIfAsserted s).pins = s.pins := by
  unfold haltIfAsserted
  split <;> simp

/-! ## deliverTarget -/

@[simp] theorem deliverTarget_pending (sl : Slice) (z : Nat) (gap : Int) (s : State) :
    (deliverTarget sl z gap s).pending = s.pending := by
  simp [deliverTarget]
@[simp] theorem deliverTarget_now (sl : Slice) (z : Nat) (gap : Int) (s : State) :
    (deliverTarget sl z gap s).now = s.now := by
  simp [deliverTarget]
@[simp] theorem deliverTarget_pins (sl : Slice) (z : Nat) (gap : Int) (s : State) :
    (deliverTarget sl z gap s).pins = s.pins := by
  simp [deliverTarget]
@[simp] theorem deliverTarget_feed (sl : Slice) (z : Nat) (gap : Int) (s : State) :
    (deliverTarget sl z gap s).feed = s.feed := by
  simp [deliverTarget]
@[simp] theorem deliverTarget_intake (sl : Slice) (z : Nat) (gap : Int) (s : State) :
    (deliverTarget sl z gap s).intake = s.intake := by
  simp [deliverTarget]
@[simp] theorem deliverTarget_hides (sl : Slice) (z : Nat) (gap : Int) (s : State) :
    (deliverTarget sl z gap s).hides = s.hides := by
  simp [deliverTarget]
@[simp] theorem deliverTarget_ctl (sl : Slice) (z : Nat) (gap : Int) (s : State) :
    (deliverTarget sl z gap s).ctl = s.ctl := by
  simp [deliverTarget]
@[simp] theorem deliverTarget_settings (sl : Slice) (z : Nat) (gap : Int) (s : State) :
    (deliverTarget sl z gap s).settings = s.settings := by
  simp [deliverTarget]
@[simp] theorem deliverTarget_line (sl : Slice) (z : Nat) (gap : Int) (s : State) :
    (deliverTarget sl z gap s).line = s.line := by
  simp [deliverTarget]

end Sys2Proof.Machine
end

