-- ==== Sys2Proof/Laws/Lists.lean ====
section
/-! SUPPORT. The list update by place, saturating counts and repetition. -/

namespace Sys2Proof.Machine

@[simp] theorem updAt_length {α : Type} (f : α → α) (i : Nat) (l : List α) :
    (updAt f i l).length = l.length := by
  induction l generalizing i with
  | nil => simp [updAt]
  | cons x xs ih => cases i <;> simp [updAt, ih]

/-- The update changes place i alone. -/
theorem updAt_getElem? {α : Type} (f : α → α) (i j : Nat) (l : List α) :
    (updAt f i l)[j]? = if j = i then l[j]?.map f else l[j]? := by
  induction l generalizing i j with
  | nil => simp [updAt]
  | cons x xs ih =>
    cases i with
    | zero => cases j <;> simp [updAt]
    | succ i => cases j <;> simp [updAt, ih]

/-- Writing one value at a place is the list's own `set`. -/
theorem updAt_const {α : Type} (a : α) (i : Nat) (l : List α) :
    updAt (fun _ => a) i l = l.set i a := by
  induction l generalizing i with
  | nil => simp [updAt]
  | cons x xs ih => cases i <;> simp [updAt, ih]

theorem mem_updAt {α : Type} {f : α → α} {i : Nat} {l : List α} {x : α} (h : x ∈ updAt f i l) :
    x ∈ l ∨ ∃ y ∈ l, x = f y := by
  induction l generalizing i with
  | nil => simp [updAt] at h
  | cons y ys ih =>
    cases i with
    | zero =>
      simp only [updAt, List.mem_cons] at h
      rcases h with rfl | h
      · exact .inr ⟨y, by simp, rfl⟩
      · exact .inl (by simp [h])
    | succ i =>
      simp only [updAt, List.mem_cons] at h
      rcases h with rfl | h
      · exact .inl (by simp)
      · rcases ih h with h | ⟨z, hz, rfl⟩
        · exact .inl (by simp [h])
        · exact .inr ⟨z, by simp [hz], rfl⟩

/-- A saturating count stays within its limit and does not fall from within it. -/
theorem addTo_le (limit n k : Nat) : addTo limit n k ≤ limit := Nat.min_le_left _ _

theorem le_addTo (limit n k : Nat) (h : n ≤ limit) : n ≤ addTo limit n k := by
  unfold addTo; omega

end Sys2Proof.Machine
end

