-- ==== Sys2Proof/Laws/Channels.lean ====
section
/-! SUPPORT. What the shared operations do to the zone channels: for each, the channel of every zone
afterwards. -/

namespace Sys2Proof.Machine

theorem channel_congr {s t : State} (h : t.zones = s.zones) (y : Nat) : channel t y = channel s y := by
  simp [channel, h]

/-- A change of one channel: that channel where it exists, and no other. -/
theorem channel_updChannel (f : Channel → Channel) (z y : Nat) (s : State) :
    channel (updChannel f z s) y =
      if y = z ∧ z < s.zones.length then f (channel s y) else channel s y := by
  simp only [channel, updChannel_zones, List.getD_eq_getElem?_getD, updAt_getElem?]
  by_cases h : y = z
  · subst h
    by_cases hl : y < s.zones.length
    · simp [hl]
    · simp [hl]
  · simp [h]

@[simp] theorem channel_report (t : Option Target) (z : Nat) (p : Progress) (s : State) (y : Nat) :
    channel (report t z p s) y = channel s y := channel_congr (report_zones t z p s) y

@[simp] theorem channel_raiseLine (n : LineNotice) (s : State) (y : Nat) :
    channel (raiseLine n s) y = channel s y := rfl

@[simp] theorem channel_arbitrate (s : State) (y : Nat) : channel (arbitrate s) y = channel s y := rfl

@[simp] theorem channel_passResuming (s : State) (y : Nat) :
    channel (passResuming s) y = channel s y := channel_congr (passResuming_zones s) y

@[simp] theorem channel_enterPhase (p : Phase) (s : State) (y : Nat) :
    channel (enterPhase p s) y = channel s y := channel_congr (enterPhase_zones p s) y

/-- A slot is set in its own channel. -/
theorem channel_setSlot (t : Option Target) (z y : Nat) (s : State) :
    channel (setSlot t z s) y =
      if y = z ∧ z < s.zones.length then { channel s y with slot := t } else channel s y :=
  channel_updChannel (fun c => { c with slot := t }) z y s

/-- A placement fills the slot (R109). -/
theorem channel_place (t : Target) (z y : Nat) (s : State) :
    channel (place t z s) y =
      if y = z ∧ z < s.zones.length then { channel s y with slot := some t } else channel s y := by
  simp [place, channel_setSlot]

/-- A discard empties the slot. -/
theorem channel_discardSlot (z y : Nat) (s : State) :
    channel (discardSlot z s) y =
      if y = z ∧ z < s.zones.length then { channel s y with slot := none } else channel s y := by
  simp [discardSlot, channel_setSlot]

/-- The end of a move. -/
theorem channel_endFlight (p : Progress) (z y : Nat) (s : State) :
    channel (endFlight p z s) y =
      if y = z ∧ z < s.zones.length then { channel s y with flight := none } else channel s y := by
  simp [endFlight, channel_updChannel]

@[simp] theorem updChannel_count (f : Channel → Channel) (z : Nat) (s : State) :
    (updChannel f z s).zones.length = s.zones.length := by simp

@[simp] theorem setSlot_count (t : Option Target) (z : Nat) (s : State) :
    (setSlot t z s).zones.length = s.zones.length := by simp

@[simp] theorem place_count (t : Target) (z : Nat) (s : State) :
    (place t z s).zones.length = s.zones.length := by simp [place]

@[simp] theorem discardSlot_count (z : Nat) (s : State) :
    (discardSlot z s).zones.length = s.zones.length := by simp [discardSlot]

@[simp] theorem endFlight_count (p : Progress) (z : Nat) (s : State) :
    (endFlight p z s).zones.length = s.zones.length := by simp [endFlight]

/-- FAULT entry stops the channel (R119). -/
theorem channel_enterFault (z y : Nat) (s : State) :
    channel (enterFault z s) y =
      if y = z ∧ z < s.zones.length then
        { channel s y with mode := .fault, slot := none, flight := none, entryMark := false }
      else channel s y := by
  by_cases h : y = z ∧ z < s.zones.length
  · simp [enterFault, channel_updChannel, channel_endFlight, channel_discardSlot, h]
  · simp [enterFault, channel_updChannel, channel_endFlight, channel_discardSlot, h]

@[simp] theorem enterFault_count (z : Nat) (s : State) :
    (enterFault z s).zones.length = s.zones.length := by simp [enterFault]

/-- The entry gap with its mark, into a TRACK zone (R121). -/
theorem channel_placeEntry (z y : Nat) (s : State) :
    channel (placeEntry z s) y =
      if (y = z ∧ z < s.zones.length) ∧ (channel s z).mode = .track then
        { channel s y with
          slot := some { gap := s.settings.geometry.entryGap, cause := .entry, ref := none }
          entryMark := true }
      else channel s y := by
  unfold placeEntry
  by_cases hm : (channel s z).mode = .track
  · by_cases h : y = z ∧ z < s.zones.length
    · simp [hm, channel_updChannel, channel_place, h]
    · simp [hm, channel_updChannel, channel_place, h]
  · simp [hm]

/-- The park gap, into a TRACK zone (R122). -/
theorem channel_placePark (z y : Nat) (s : State) :
    channel (placePark z s) y =
      if (y = z ∧ z < s.zones.length) ∧ (channel s z).mode = .track then
        { channel s y with
          slot := some { gap := s.settings.geometry.parkGap, cause := .park, ref := none } }
      else channel s y := by
  unfold placePark
  by_cases hm : (channel s z).mode = .track
  · by_cases h : y = z ∧ z < s.zones.length
    · simp [hm, channel_place, h]
    · simp [hm, channel_place, h]
  · simp [hm]

/-- HALT stills a channel (R123). -/
theorem channel_stillZone (z y : Nat) (s : State) :
    channel (stillZone z s) y =
      if y = z ∧ z < s.zones.length then
        { channel s y with
          position := none, slot := none, flight := none, entryMark := false, clearPoll := false }
      else channel s y := by
  by_cases h : y = z ∧ z < s.zones.length
  · simp [stillZone, channel_updChannel, channel_endFlight, channel_discardSlot, h]
  · simp [stillZone, channel_updChannel, channel_endFlight, channel_discardSlot, h]

/-! ## Replies (R113) -/

/-- The transaction that a frame answers: the one on the link, of a kind that the frame answers and of the
frame's zone, within its reply window. -/
theorem answered_eq_some_iff (kinds : List TxnKind) (zone : Byte) (s : State) (x : Txn) :
    answered kinds zone s = some x ↔
      s.link.txn = some x ∧ x.kind ∈ kinds ∧ x.zone = zone.toNat ∧ s.now < x.start + 400 := by
  unfold answered
  cases h : s.link.txn with
  | none => simp
  | some t =>
    simp only [Option.some.injEq, Option.ite_none_right_eq_some, Bool.and_eq_true, decide_eq_true_eq,
      List.contains_iff_mem, Txn.windowOpen, Config.replyWindow]
    constructor
    · rintro ⟨⟨⟨hk, hz⟩, hw⟩, rfl⟩
      exact ⟨rfl, hk, hz, of_decide_eq_true hw⟩
    · rintro ⟨rfl, hk, hz, hw⟩
      exact ⟨⟨⟨hk, hz⟩, decide_eq_true hw⟩, rfl⟩

/-- After its reply window a transaction has no reply. -/
theorem answered_late (kinds : List TxnKind) (zone : Byte) (s : State) (x : Txn)
    (h : s.link.txn = some x) (late : x.start + 400 ≤ s.now) : answered kinds zone s = none := by
  rw [Option.eq_none_iff_forall_ne_some]
  intro y hy
  obtain ⟨hx, -, -, hw⟩ := (answered_eq_some_iff kinds zone s y).1 hy
  obtain rfl : x = y := Option.some.inj (h.symm.trans hx)
  omega

end Sys2Proof.Machine
end

