-- ==== Sys2Proof/Laws/Layout.lean ====
section
/-! SUPPORT. What a list of bytes spells at its places: one lemma per field width of chapter 10, and how
the places of a joined list are counted. -/

namespace Sys2Proof.Machine

/-- The places behind a front part are counted from its end. -/
theorem valueAt_append (front l : List Byte) (place width : Nat) :
    valueAt (front ++ l) (front.length + place) width = valueAt l place width := by
  simp [valueAt, List.drop_append, List.drop_eq_nil_of_le (Nat.le_add_right front.length place)]

/-- A field that lies within the front part is read there. -/
theorem valueAt_append_left (front l : List Byte) (place width : Nat) (h : place + width ≤ front.length) :
    valueAt (front ++ l) place width = valueAt front place width := by
  have : width - (front.length - place) = 0 := by omega
  simp [valueAt, List.drop_append, List.take_append, this]

theorem valueAt_drop (l : List Byte) (k place width : Nat) :
    valueAt (l.drop k) place width = valueAt l (k + place) width := by simp [valueAt]

@[simp] theorem valueAt_byte (b : Byte) (l : List Byte) : valueAt (b :: l) 0 1 = b.toNat := by
  simp [valueAt]

@[simp] theorem valueAt_be16 (w : BitVec 16) (l : List Byte) : valueAt (be16 w ++ l) 0 2 = w.toNat := by
  simp only [valueAt, be16, List.cons_append, List.nil_append, List.drop_zero, List.take_succ_cons,
    List.take_zero, List.foldl_cons, List.foldl_nil, BitVec.extractLsb'_toNat]
  have := w.isLt
  omega

@[simp] theorem valueAt_be24 (w : BitVec 24) (l : List Byte) : valueAt (be24 w ++ l) 0 3 = w.toNat := by
  simp only [valueAt, be24, List.cons_append, List.nil_append, List.drop_zero, List.take_succ_cons,
    List.take_zero, List.foldl_cons, List.foldl_nil, BitVec.extractLsb'_toNat]
  have := w.isLt
  omega

@[simp] theorem valueAt_be32 (w : BitVec 32) (l : List Byte) : valueAt (be32 w ++ l) 0 4 = w.toNat := by
  simp only [valueAt, be32, List.cons_append, List.nil_append, List.drop_zero, List.take_succ_cons,
    List.take_zero, List.foldl_cons, List.foldl_nil, BitVec.extractLsb'_toNat]
  have := w.isLt
  omega

@[simp] theorem valueAt_nat8 (n : Nat) (l : List Byte) : valueAt (nat8 n ++ l) 0 1 = n % 256 := by
  simp [nat8]

@[simp] theorem valueAt_nat16 (n : Nat) (l : List Byte) : valueAt (nat16 n ++ l) 0 2 = n % 65536 := by
  simp [nat16]

@[simp] theorem valueAt_nat32 (n : Nat) (l : List Byte) :
    valueAt (nat32 n ++ l) 0 4 = n % 4294967296 := by
  simp [nat32]

@[simp] theorem valueAt_int16 (i : Int) (l : List Byte) : valueAt (int16 i ++ l) 0 2 = signedWord i := by
  simp [int16, signedWord, BitVec.toNat_ofInt]

@[simp] theorem valueAt_zeros (k place width : Nat) : valueAt (List.replicate k 0) place width = 0 := by
  have fold : ∀ n : Nat, (List.replicate n (0 : Byte)).foldl (fun v b => 256 * v + b.toNat) 0 = 0 := by
    intro n
    induction n with
    | zero => rfl
    | succ n ih => simpa [List.replicate_succ] using ih
  simpa [valueAt, List.drop_replicate, List.take_replicate] using fold (min width (k - place))

end Sys2Proof.Machine
end

