-- ==== Sys2Proof/Laws/Transitions.lean ====
section
/-! SUPPORT. What the transitions of the machine state controller set and keep inside the blocks they
touch (07), what the departures do to the outstanding strobe list (02), and the order in which abandoned
hides join the completion order list (03). -/

namespace Sys2Proof.Machine

/-! ## The gate of FEED REF -/

theorem applyGate_feed (s : State) : ∃ r : FeedRef, (applyGate s).feed = { s.feed with ref := r } := by
  unfold applyGate
  split
  · exact ⟨_, rfl⟩
  · split
    · exact ⟨_, rfl⟩
    · exact ⟨s.feed.ref, rfl⟩

/-- After the gate has been applied it agrees with the machine state and the HALT input (R20). -/
theorem applyGate_agrees (s : State) : (applyGate s).feed.ref.gated = gateClosed s := by
  unfold applyGate
  split
  · simp_all
  · split
    · rfl
    · simp_all

/-! ## Transitions -/

@[simp] theorem enterPhase_phase (p : Phase) (s : State) : (enterPhase p s).ctl.phase = p := by
  simp [enterPhase]

@[simp] theorem enterPhase_feedStop (p : Phase) (s : State) :
    (enterPhase p s).ctl.feedStop = !p.drives := by
  simp [enterPhase]

/-- A transition changes the machine state, FEED-STOP and FEED REF, and nothing else. -/
theorem enterPhase_spec (p : Phase) (s : State) : ∃ r : FeedRef,
    enterPhase p s = { s with
      ctl := { s.ctl with phase := p, feedStop := !p.drives }
      feed := { s.feed with ref := r } } := by
  unfold enterPhase applyGate
  split
  · exact ⟨_, rfl⟩
  · split
    · exact ⟨_, rfl⟩
    · exact ⟨s.feed.ref, rfl⟩

@[simp] theorem enterRun_phase (s : State) : (enterRun s).ctl.phase = .run := by
  simp [enterRun]

@[simp] theorem enterDwell_phase (s : State) : (enterDwell s).ctl.phase = .dwell := by
  simp [enterDwell]

@[simp] theorem enterRun_flags (s : State) : (enterRun s).ctl.flags = s.ctl.flags := by
  obtain ⟨r, h⟩ := enterPhase_spec .run s
  simp [enterRun, h]

/-- RESUMING is left for RUN where no channel holds an entry mark (R139). -/
theorem passResuming_phase (s : State) : (passResuming s).ctl.phase =
    if s.ctl.phase = .resuming ∧ anyEntryMark s = false then .run else s.ctl.phase := by
  unfold passResuming
  by_cases h : s.ctl.phase = .resuming ∧ anyEntryMark s = false
  · simp [h]
  · have : ¬((decide (s.ctl.phase = .resuming) && !anyEntryMark s) = true) := by
      simpa using h
    simp [h, this]

/-! ## Wake -/

/-- A wake flag is set whatever its enable (R133). -/
theorem wakeEvent_flags (s : State) : (wakeEvent s).ctl.flags = s.ctl.flags := by
  unfold wakeEvent
  split
  · simp
  · simp
  · simp
  · have h : ∀ (z : Nat) (t : State), (placeEntry z t).ctl.flags = t.ctl.flags := fun z t => by simp
    obtain ⟨r, e⟩ := enterPhase_spec .resuming (stopDwell s)
    simp only [raiseLine_ctl, arbitrate_ctl, enterResuming]
    unfold passResuming
    split
    · simp [forZones_keeps State.ctl placeEntry placeEntry_ctl, e]
    · simp [forZones_keeps State.ctl placeEntry placeEntry_ctl, e]
  all_goals rfl

/-! ## Departures -/

/-- What a departing entry is handed to does not touch the list. -/
theorem handOn_list (e : Entry) (s : State) : (handOn e s).intake.list = s.intake.list := by
  unfold handOn
  split
  · split
    · simp
    · rfl
  · unfold dropOrphan
    split
    · unfold raiseGauge
      split <;> rfl
    · rfl

/-- The head alone leaves (R33). -/
theorem departHead_list (s : State) : (departHead s).intake.list = s.intake.list.tail := by
  unfold departHead
  split
  · simp [*]
  · simp [handOn_list, *]

/-- The departures of R32 take the entries before the first that lacks a reply. -/
theorem departReplied_list (fuel : Nat) (s : State) : ∃ k,
    (departReplied fuel s).intake.list = s.intake.list.drop k ∧
      ∀ e ∈ s.intake.list.take k, e.reply.isSome = true := by
  induction fuel generalizing s with
  | zero => exact ⟨0, by simp [departReplied]⟩
  | succ fuel ih =>
    unfold departReplied
    split
    · exact ⟨0, by simp⟩
    · next e rest h =>
      split
      · next hr =>
        obtain ⟨k, hk, ht⟩ := ih (departHead s)
        have tail : (departHead s).intake.list = rest := by simp [departHead_list, h]
        rw [tail] at hk ht
        refine ⟨k + 1, by simp [hk, h], ?_⟩
        intro x hx
        simp only [h, List.take_succ_cons, List.mem_cons] at hx
        rcases hx with rfl | hx
        · exact hr
        · exact ht x hx
      · exact ⟨0, by simp⟩

/-! ## The order of the abandoned (R61) -/

/-- Of two strobes at most one is the older. -/
theorem older_asymm {a b : Num} (h : older a b = true) : older b a = false := by
  simp only [older, decide_eq_true_eq, decide_eq_false_iff_not] at *
  have : (a - b).toInt = (-(b - a)).toInt := by congr 1; ring
  rw [this, BitVec.toInt_neg]
  have := BitVec.toInt_lt (x := b - a)
  rw [Int.bmod_def]
  omega

theorem insertByFirst_perm (r : HideRecord) (l : List HideRecord) : (insertByFirst r l).Perm (r :: l) := by
  induction l with
  | nil => exact .refl _
  | cons q rest ih =>
    simp only [insertByFirst]
    split
    · exact .refl _
    · exact (ih.cons q).trans (.swap r q rest)

theorem sortByFirst_perm (l : List HideRecord) : (sortByFirst l).Perm l := by
  induction l with
  | nil => exact .refl _
  | cons r rest ih => exact (insertByFirst_perm r _).trans (ih.cons r)

theorem insertByFirst_isChain (r : HideRecord) (l : List HideRecord)
    (h : l.IsChain fun a b => older b.first.num a.first.num = false) :
    (insertByFirst r l).IsChain fun a b => older b.first.num a.first.num = false := by
  induction l with
  | nil => exact .singleton _
  | cons q rest ih =>
    simp only [insertByFirst]
    split
    case isTrue c => exact .cons_cons (older_asymm c) h
    case isFalse c =>
      cases rest with
      | nil => exact .cons_cons (by simpa using c) (.singleton _)
      | cons p rest =>
        have hi := ih h.tail
        have hq : older p.first.num q.first.num = false := by cases h; assumption
        simp only [insertByFirst] at hi ⊢
        split at hi
        · rename_i d; simp only [d, if_true]; exact .cons_cons (by simpa using c) hi
        · rename_i d; simp only [d]; exact .cons_cons hq hi

theorem sortByFirst_isChain (l : List HideRecord) :
    (sortByFirst l).IsChain fun a b => older b.first.num a.first.num = false := by
  induction l with
  | nil => exact .nil
  | cons r rest ih => exact insertByFirst_isChain r _ ih

/-- What abandoning every unfinished hide does to the hide table: the records, and the numbers that join the
completion order list. -/
theorem abandonAll_hides (cause : AbandonCause) (s : State) : ∃ leaving : List HideRecord,
    leaving.Perm (s.hides.records.filter fun r => r.state.unfinished) ∧
    leaving.IsChain (fun a b => older b.first.num a.first.num = false) ∧
    (abandonAll cause s).hides = { s.hides with
      records := s.hides.records.map (HideRecord.emptied cause)
      completion := s.hides.completion ++ leaving.map HideRecord.number } := by
  refine ⟨_, sortByFirst_perm _, sortByFirst_isChain _, ?_⟩
  unfold abandonAll raiseLineIf
  dsimp only
  split <;> rfl

end Sys2Proof.Machine
end

