-- ==== Sys2Proof/Laws/Vocabulary.lean ====
section
/-! SUPPORT. The model's own tests and updates in the vocabulary of the claims: for each, the one lemma that a
proof cites in place of unfolding it. -/

namespace Sys2Proof.Machine

/-- The lead crossing's test is that H has reached p + D − L (R72). -/
theorem leadReached_iff (p : Pos) (s : State) : leadReached p s = true ↔ AtLeadPoint p s := by
  simp [leadReached, AtLeadPoint, reaches, posDiff, posPlus]

/-- The knife crossing's test is that H has reached p + D (R76). -/
theorem knifeReached_iff (p : Pos) (s : State) : knifeReached p s = true ↔ AtKnifePoint p s := by
  simp [knifeReached, AtKnifePoint, reaches, posDiff, posPlus]

/-- A record that a flush or a PARK entry passes over, field by field (R61, R198). -/
theorem HideRecord.emptied_eq (cause : AbandonCause) (r : HideRecord) : r.emptied cause =
    if r.state = .done ∨ r.state = .abandoned then { r with rangeOpen := false }
    else { r with
      state := .abandoned
      cause := some cause
      rangeOpen := false
      inTrack := 0
      last := if r.state = .scanning ∨ r.state = .scanSplit then r.newestEntered else r.last } := by
  unfold HideRecord.emptied
  cases h : r.state <;> simp [HideState.unfinished, HideState.isOpen]

/-- The records that abandoning every unfinished hide leaves (R61, R198). -/
theorem abandonAll_emptiedBy (cause : AbandonCause) (s : State) :
    EmptiedBy cause s (abandonAll cause s) := by
  have : (abandonAll cause s).hides.records = s.hides.records.map (HideRecord.emptied cause) := by
    unfold abandonAll raiseLineIf
    dsimp only
    split <;> rfl
  rw [EmptiedBy, this]
  exact List.map_congr_left fun r _ => r.emptied_eq cause

/-- A response of which the whole was shifted out is read (R28, R176). -/
theorem Port.readOut_tx (n : Nat) (lead : Lead) (p : Port) :
    (p.readOut n lead).tx = leftUnread p.tx n lead := by
  unfold Port.readOut leftUnread
  cases p.tx with
  | none => rfl
  | some r =>
    by_cases h : lead.before + lead.shown + r.frame.length ≤ n
    · simp [Option.filter, Response.shiftedOut, Lead.total, h]
    · simp [Option.filter, Response.shiftedOut, Lead.total, h]

end Sys2Proof.Machine
end

