-- ==== Sys2Proof/Tests/Slice0.lean ====
section
/-! SUPPORT. Tests: ill-formed commands that `wellFormed` refuses, the manual's frame example, single
commands on small states with results taken from the manual's worked examples and tables, and a witness
for the hypotheses of each statement in Certificates/Slice0/Obligations.lean. -/

namespace Sys2Proof.Tests

set_option Elab.async false

open Sys2Proof Sys2Proof.Machine

/-! ## Helpers -/

/-- The state after one command. -/
def after (c : Instr) (s : State) : State :=
  match exec c s with
  | .next t => t
  | .fault _ => s
  | .refused _ => s

/-- The response composed at the line port, and at the gauge port. -/
def lineAnswer (s : State) : Option (Status × List Byte) :=
  s.line.port.answer.map fun r => (r.status, r.fields)

def gaugeAnswer (s : State) : Option (Status × List Byte) :=
  s.intake.port.answer.map fun r => (r.status, r.fields)

/-- `s` in another machine state, with FEED-STOP and the gate of FEED REF to match. -/
def inPhase (p : Phase) (s : State) : State :=
  { s with
    ctl := { s.ctl with phase := p, feedStop := !p.drives }
    feed := { s.feed with ref := { s.feed.ref with gated := !p.drives, high := false } } }

def pulse (s : State) : Instr :=
  .bottomPulse s.feed.botRef.next.a s.feed.botRef.next.b []

/-- A reverse pulse from the levels 00 leads to 01. -/
def backPulse : Instr := .bottomPulse false true []

/-! ## WellFormed refuses what no frame or event can carry -/

theorem test_order_named_twice_refused :
    (Instr.bottomPulse true false [.lead, .lead]).wellFormed = false := by decide
theorem test_zone_16_has_no_move : (Instr.moveTimeout 16).wellFormed = false := by decide
theorem test_gauge_lead_past_transfer_refused :
    (Instr.gaugeTransferEnd [0xA5] ⟨1, 1⟩).wellFormed = false := by decide
theorem test_line_lead_past_transfer_refused :
    (Instr.lineTransferEnd [] ⟨1, 0⟩).wellFormed = false := by decide
theorem test_slice_of_256_readings_refused :
    (Instr.slice 0 (List.replicate 256 0)).wellFormed = false := by decide +kernel
theorem test_byte_fields_hold_a_byte :
    (Instr.bind 1 256).wellFormed = false ∧ (Instr.readTrack 0 256).wellFormed = false ∧
    (Instr.zoneMove 256 0).wellFormed = false ∧ (Instr.zoneMode 256 1).wellFormed = false ∧
    (Instr.zoneReset 256).wellFormed = false ∧ (Instr.selectArticle 256).wellFormed = false ∧
    (Instr.readArticle 256).wellFormed = false ∧ (Instr.setTrim 256).wellFormed = false ∧
    (Instr.writeArticle 256 Config.factoryArticle).wellFormed = false := by decide
theorem test_word_fields_hold_a_word :
    (Instr.readTrack 65536 1).wellFormed = false ∧ (Instr.setScale 65536).wellFormed = false ∧
    (Instr.setSpeed 65536 0).wellFormed = false ∧ (Instr.setSpeed 999 65536).wellFormed = false ∧
    (Instr.setDwell 65536).wellFormed = false ∧
    (Instr.setGeometry { Config.defaultGeometry with pitch := 65536 }).wellFormed = false := by decide
theorem test_signed_fields_hold_a_signed_word :
    (Instr.zoneMove 0 32768).wellFormed = false ∧ (Instr.zoneMove 0 (-32769)).wellFormed = false ∧
    (Instr.writeArticle 0 { Config.factoryArticle with s := 32768 }).wellFormed = false ∧
    (Instr.writeKnife (List.replicate 16 32768)).wellFormed = false := by decide
theorem test_knife_of_15_offsets_refused :
    (Instr.writeKnife (List.replicate 15 0)).wellFormed = false := by decide

/-! ## Frames (R190 to R194) -/

/-- The check value of the CRC with polynomial 1021, register FFFF, most significant bit first. -/
theorem test_crc_of_123456789 :
    crc16 [0x31, 0x32, 0x33, 0x34, 0x35, 0x36, 0x37, 0x38, 0x39] = 0x29B1 := by decide +kernel

/-- The SLICE of R194: strobe 41, zones 0 to 2 of 410, doubtful and absent. -/
def slice41 : Instr := .slice 41 [0x019A, 0x8001, 0x8000]

theorem test_slice_payload :
    slice41.payload = [0x00, 0x29, 0x03, 0x01, 0x9A, 0x80, 0x01, 0x80, 0x00] := by decide
theorem test_slice_frame_is_15_bytes : slice41.frame.map List.length = some 15 := by decide +kernel
theorem test_slice_frame_is_read :
    PortName.gauge.examine ([0x00, 0xFF] ++ slice41.frame.getD [] ++ [0xFF]) = .request slice41 := by
  decide +kernel
theorem test_line_request_is_unknown_at_the_gauge_port :
    PortName.gauge.examine ((Instr.start).frame.getD []) = .unknownKind 0x20 := by decide +kernel
theorem test_readings_are_read :
    replyOf 12 [410, 0x8001, 0x8000, 3001, 3000] =
      [.thickness 410, .doubtful, .absent, .doubtful, .thickness 3000] ++ List.replicate 11 .absent := by
  decide +kernel
theorem test_no_table_word_spells_a_command : decodeTableWord 8 0x20 = none := rfl

/-! ## Feed unit (01) -/

/-- Scale 250, F = H = 1000, as in the example of scale arithmetic. -/
def scaled (acc : Nat) : State :=
  { State.reset with
    settings := { State.reset.settings with scale := 250 }
    feed := { State.reset.feed with f := 1000, h := 1000, botAcc := acc, topAcc := acc } }

theorem test_forward_from_200 : (after (pulse (scaled 200)) (scaled 200)).feed.f = 1001 ∧
    (after (pulse (scaled 200)) (scaled 200)).feed.botAcc = 50 := by decide +kernel
theorem test_reverse_from_0 : (after backPulse (scaled 0)).feed.f = 999 ∧
    (after backPulse (scaled 0)).feed.botAcc = 150 := by decide +kernel
theorem test_top_pulse_counts : (after (.topPulse true false) (scaled 200)).feed.slip.advance = 1 ∧
    (after (.topPulse false true) (scaled 0)).feed.slip.advance = -1 := by decide +kernel
theorem test_both_lines_change_is_no_pulse :
    (after (.bottomPulse true true []) (scaled 200)).feed.botAcc = 200 := by decide +kernel

/-- A running machine at scale 100 with F and H given, LOCKED, and the next strobe position. -/
def running (f h next : Pos) : State :=
  let s := inPhase .run State.reset
  { s with
    settings := { s.settings with scale := 100 }
    feed := { s.feed with f := f, h := h, nextPos := next } }

theorem test_strobe_at_52010 :
    (after (pulse (running 52009 52009 52010)) (running 52009 52009 52010)).feed.newest =
      some { num := 0, pos := 52010 } ∧
    (after (pulse (running 52009 52009 52010)) (running 52009 52009 52010)).feed.nextPos = 52110 := by
  decide +kernel
theorem test_25_back_is_within_tolerance :
    (after backPulse (running 51976 52000 52010)).feed.h = 52000 ∧
    (after backPulse (running 51976 52000 52010)).feed.sync = .locked := by decide +kernel
theorem test_31_back_is_a_discontinuity :
    (after backPulse (running 51980 52010 52110)).feed.h = 51979 ∧
    (after backPulse (running 51980 52010 52110)).feed.sync = .settling ∧
    (after backPulse (running 51980 52010 52110)).feed.settleStart = 51979 := by decide +kernel
theorem test_effective_counts : effectiveCount 999 1200 1 = 500 ∧ effectiveCount 999 1200 2 = 250 ∧
    effectiveCount 999 1200 4 = 62 ∧ effectiveCount 999 700 3 = 87 := by decide
theorem test_third_slip_window_trims :
    let s := running 2000 2000 2050
    let s := { s with feed := { s.feed with slip := ⟨1000, 979, 2⟩ } }
    (riseSlip s).feed.trim = 1 ∧ (riseSlip s).feed.slip = ⟨2000, 0, 0⟩ ∧
      (riseSlip s).line.notices = 0b11000000 := by decide +kernel
theorem test_slip_limit_itself_is_clean :
    let s := running 2000 2000 2050
    let s := { s with feed := { s.feed with slip := ⟨1000, 980, 2⟩ } }
    (riseSlip s).feed.slip.count = 0 ∧ (riseSlip s).feed.trim = 0 := by decide +kernel

/-! ## A hide under way: states for the intake, the hide table and the track -/

/-- A record in use, nothing counted. -/
def record (n : Num) (st : HideState) (first last : Option Num) : HideRecord :=
  { number := n, tag := 77, state := st, cause := none, row := 0, article := Config.factoryArticle,
    edge := none, first := { num := first.getD 0, pos := 14000 }, last := last, rangeOpen := true,
    newestEntered := none, inTrack := 0, sliceCount := 0, gapCount := 0, gapRun := 0, area := 0,
    tMin := none, tMax := none, counts := List.replicate 16 ZoneCounts.zero, deviation := 0,
    flags := { edgeMismatch := false, noEdge := false, gaugeLost := false, forcedEnd := false,
               manualInfluence := false, slip := false } }

def readings : List Reading := List.replicate 3 (.thickness 350) ++ List.replicate 13 .absent

/-- Outstanding strobes from `n` on; true marks a stored reply. -/
def outstanding (n : Num) : List Bool → List Entry
  | [] => []
  | r :: rest =>
    { num := n, pos := 10000 + 100 * n.setWidth 32, reply := if r then some readings else none }
      :: outstanding (n + 1) rest

/-- A running machine with an outstanding list and records. -/
def intaking (n : Num) (replies : List Bool) (records : List HideRecord) : State :=
  let s := running 14800 14800 14900
  { s with
    intake := { s.intake with list := outstanding n replies }
    hides := { s.hides with records := records, nextNumber := 8 }
    feed := { s.feed with
      newest := some { num := n + BitVec.ofNat 16 (replies.length - 1), pos := 14800 }
      nextNum := n + BitVec.ofNat 16 replies.length } }

def hide7 : HideRecord := record 7 .scanning (some 40) none

/-- The example of reordering: 40 –, 41 R, 42 –, 43 R. -/
def reorder : State := intaking 40 [false, true, false, true] [hide7]

theorem test_slice_40_brings_in_40_and_41 :
    (after (.slice 40 [350]) reorder).intake.list.map Entry.num = [42, 43] ∧
    (after (.slice 40 [350]) reorder).track.slices.map Slice.strobe = [40, 41] := by decide +kernel
theorem test_slice_46_is_newer_than_issued :
    gaugeAnswer (after (.slice 46 [350]) reorder) = some (.badValue, [4]) ∧
    (after (.slice 46 [350]) reorder).intake.notices = 0b100 := by decide +kernel

/-- Strobe 47 held its place, its hide begins at 47; strobe 46 belongs to no hide. -/
def betweenHides : State :=
  intaking 44 [false, true, true, false, false]
    [record 7 .scanned (some 40) (some 45), record 8 .scanning (some 47) none]

theorem test_slice_44_drops_46_as_an_orphan :
    (after (.slice 44 [350]) betweenHides).track.slices.map Slice.hide = [7, 7] ∧
    (after (.slice 44 [350]) betweenHides).intake.orphan = 1 ∧
    (after (.slice 44 [350]) betweenHides).intake.list.map Entry.num = [47, 48] := by decide +kernel

/-- Sixteen outstanding strobes, 100 to 115, with replies to 101 and 103. -/
def full : State :=
  intaking 100 ([false, true, false, true] ++ List.replicate 12 false) [record 9 .scanning (some 90) none]

theorem test_seventeenth_strobe_forces_the_head_out :
    (joinList 116 0 full).intake.list.map Entry.num =
      [102, 103, 104, 105, 106, 107, 108, 109, 110, 111, 112, 113, 114, 115, 116] ∧
    (joinList 116 0 full).track.slices.map (fun sl => (sl.strobe, sl.readings.isSome)) =
      [(100, false), (101, true)] := by decide +kernel

/-- Hide 12 from strobe 200 on, slices 200 to 208 entered, 209 to 211 outstanding. -/
def lateEnd : State :=
  intaking 209 [false, false, false]
    [{ record 12 .scanSplit (some 200) none with newestEntered := some 208, inTrack := 9 }]

theorem test_late_end_is_forced_at_208 :
    gaugeAnswer (after (.endHide 206) lateEnd) = some (.ok, [0, 12, 0, 208]) ∧
    (after (.endHide 206) lateEnd).hides.records.map
      (fun r => (r.state, r.last, r.flags.forcedEnd)) = [(.splitting, some 208, true)] := by decide +kernel

theorem test_announce_fills_a_record :
    gaugeAnswer (after (.announce 43 9) reorder) = some (.ok, [0, 8]) ∧
    (after (.announce 43 9) reorder).hides.records.map (fun r => (r.number, r.state, r.last)) =
      [(7, .scanned, some 42), (8, .scanning, none)] := by decide +kernel
theorem test_announce_again_replaces :
    (after (.announce 40 9) reorder).hides.records.map HideRecord.number = [8] := by decide +kernel

theorem test_gauge_reset_departs_all :
    gaugeAnswer (after .gaugeReset reorder) = some (.ok, [4]) ∧
    (after .gaugeReset reorder).track.gapCount = 2 ∧
    (after .gaugeReset reorder).hides.records.map (fun r => (r.state, r.last)) =
      [(.scanned, some 43)] := by decide +kernel

theorem test_gauge_status_record :
    gaugeStatusRecord reorder = [1, 1, 0, 43, 0, 0, 0x39, 0xD0, 4, 0, 7, 0, 0] := by decide +kernel
theorem test_gauge_setup_record : gaugeSetupRecord State.reset = [12, 0, 100, 0, 187, 0] := by
  decide +kernel

/-! ## Hide table (03): the example of the cursor -/

def finished (ns : List Num) (k : Nat) : State :=
  let s := running 100 100 200
  { s with hides := { s.hides with
      records := ns.map fun n => record n .done (some 1) (some 2)
      completion := ns, cursor := k, nextNumber := 9 } }

theorem test_release_before_the_cursor :
    (after (.release 3) (finished [3, 4, 5] 1)).hides.completion = [4, 5] ∧
    (after (.release 3) (finished [3, 4, 5] 1)).hides.cursor = 0 := by decide +kernel
theorem test_release_at_the_cursor :
    (after (.release 5) (finished [4, 5, 6] 1)).hides.completion = [4, 6] ∧
    (after (.release 5) (finished [4, 5, 6] 1)).hides.cursor = 1 := by decide +kernel
theorem test_read_report_past_the_end :
    (lineAnswer (after .readReport (finished [4, 6] 2))).map Prod.fst = some .empty := by decide +kernel
theorem test_read_report_advances :
    (lineAnswer (after .readReport (finished [4, 6] 1))).map (fun a => a.2.take 2) = some [0, 6] ∧
    (after .readReport (finished [4, 6] 1)).hides.cursor = 2 := by decide +kernel
theorem test_read_hide_keeps_the_cursor :
    (lineAnswer (after (.readHide 6) (finished [4, 6] 1))).map (fun a => a.2.length) = some 388 ∧
    (after (.readHide 6) (finished [4, 6] 1)).hides.cursor = 1 := by decide +kernel
theorem test_bind_before_the_first_conversion :
    (after (.bind 7 3) reorder).hides.records.map HideRecord.row = [3] := by decide +kernel
theorem test_bind_after_it_is_late :
    (lineAnswer (after (.bind 12 3) lateEnd)) = some (.late, [0, 12, 0]) := by decide +kernel
theorem test_abandon_open_hide :
    (after (.abandon 12) lateEnd).hides.records.map (fun r => (r.state, r.cause, r.last)) =
      [(.abandoned, some .line, some 211)] ∧
    (after (.abandon 12) lateEnd).line.notices = LineNotice.hideAbandoned.bit := by decide +kernel

/-! ## Split target computation (05): the tables of R92 and R93, the donors, the worked case -/

theorem test_allowances :
    [150, 200, 230, 250, 325, 350, 400, 410, 560, 650, 799, 800, 3000].map
      (allowance Config.factoryArticle.points) = [10, 10, 11, 12, 16, 17, 20, 20, 25, 27, 30, 30, 30] := by
  decide +kernel
theorem test_falling_segment :
    [425, 410].map (allowance [⟨400, 20⟩, ⟨500, 14⟩]) = [18, 19] := by decide +kernel
theorem test_grain_goals :
    [350, 240, 230, 90, 40].map (grainGoal Config.factoryArticle) = [180, 180, 170, 30, -20] ∧
    [350, 240, 230].map (residual Config.factoryArticle) = [false, false, true] := by decide +kernel
theorem test_donors :
    [0, 3, 6, 11].map (fun z => nearest z [1, 2, 4]) = [some 1, some 2, some 4, some 4] := by decide +kernel
theorem test_slew_steps :
    [(10, 100), (8, 100), (10, 150), (7, 30), (3, 20), (1, 25)].map (fun p => slewStep p.1 p.2) =
      [10, 8, 15, 2, 1, 1] := by decide
theorem test_areas :
    [sliceArea 3 190 100, sliceArea 12 187 25, sliceArea 3 187 25, sliceArea 16 187 100] =
      [5700, 5610, 1402, 29920] := by decide

/-- Zone 4 with Kz = −3, slew 8 and a base for hide 4. -/
def zone4 (base : Int) (t : Nat) : SplitInput :=
  { readings := some (List.replicate 16 (.thickness t)), hide := 4, article := Config.factoryArticle,
    knife := List.replicate 16 (-3),
    zones := List.replicate 16 { Channel.initial .track with base := some { gap := base, hide := 4 } },
    slew := 8, pitch := 100, active := 12 }

theorem test_two_slices_of_one_zone :
    ((zone4 205 350).zone 4).result.target = some 197 ∧ ((zone4 205 350).zone 4).deviation = 3 ∧
    ((zone4 197 230).zone 4).result.target = some 189 ∧ ((zone4 197 230).zone 4).deviation = 11 ∧
    ((zone4 197 230).zone 4).result.flags =
      { residual := true, floor := false, ceiling := false, slewed := true, extended := false } := by
  decide +kernel

/-! ## Track (04) -/

def entered (n : Num) (pos : Pos) (hide : Num) : Slice :=
  { strobe := n, pos := pos, hide := hide, readings := some readings, stage := .entered, results := [] }

def converted (n : Num) (pos : Pos) (hide : Num) (progress : List Progress) : Slice :=
  { entered n pos hide with
    stage := .converted
    results := progress.map fun p => { target := some 212, flags := ZoneFlags.none, progress := p } }

def newestInTrack (r : HideRecord) (n : Num) (k : Nat) : HideRecord :=
  { r with newestEntered := some n, inTrack := k, sliceCount := k }

/-- Slice 57 of hide 4 at 30000, D = 10000, L = 300: lead point 39700, knife point 40000. -/
def tracking (h : Pos) (sl : Slice) : State :=
  let s := running h h (h + 50)
  { s with
    track := { s.track with slices := [sl] }
    hides := { s.hides with
      records := [newestInTrack (record 4 .splitting (some 50) (some 57)) 57 1], nextNumber := 5 } }

theorem test_lead_crossing_at_39700 :
    (riseLead (tracking 39700 (entered 57 30000 4))).track.slices.map Slice.stage = [.converted] ∧
    (riseLead (tracking 39699 (entered 57 30000 4))).track.slices.map Slice.stage = [.entered] := by
  decide +kernel
theorem test_knife_crossing_at_40000 :
    (riseKnife (tracking 40000 (converted 57 30000 4 [.complete, .skipped, .notTrack, .held]))).hides.records.map
      (fun r => (r.state, (r.counts.take 4).map fun c => [c.onTime, c.skipped, c.notTrack, c.held])) =
      [(.done, [[1, 0, 0, 0], [0, 1, 0, 0], [0, 0, 1, 0], [0, 0, 0, 1]])] := by decide +kernel
theorem test_read_track_header :
    lineAnswer (after (.readTrack 0 1) (tracking 39000 (entered 57 30000 4))) =
      some (.ok, [0, 1, 0, 0, 0, 0, 0, 0, 0, 0, 0, 0, 0, 0, 0, 1, 0, 57, 0, 0, 0x75, 0x30, 0, 4, 1, 1]
        ++ (List.replicate 16 [0xFF, 0xFF, 0]).flatten) := by decide +kernel
theorem test_knife_pending_while_converting :
    lineAnswer (after (.writeKnife (List.replicate 16 5)) lateEnd) = some (.ok, [2, 0]) ∧
    (after (.writeKnife (List.replicate 16 5)) lateEnd).settings.knife = List.replicate 16 0 := by
  decide +kernel
theorem test_pending_knife_applied_at_the_last_crossing :
    let s := tracking 40000 (converted 57 30000 4 [.complete])
    let s := { s with track := { s.track with pendingKnife := some (List.replicate 16 5) } }
    (riseKnife s).settings.knife = List.replicate 16 5 ∧ (riseKnife s).track.pendingKnife = none ∧
      (riseKnife s).line.notices = LineNotice.hideDone.bit ||| LineNotice.knifeApplied.bit := by
  decide +kernel

/-! ## Zone channels and link (06) -/

def target (gap : Int) (cause : Cause) : Target := { gap := gap, cause := cause, ref := none }

/-- `s` with channel z changed. -/
def withChannel (z : Nat) (f : Channel → Channel) (s : State) : State := updChannel f z s

/-- A SEND of zone 2's target on the link. -/
def sending : State :=
  { withChannel 2 (fun c => { c with slot := some (target 203 .track) }) (running 100 100 200) with
    now := 1000
    link := { last := 2, abandoned := none,
              txn := some { zone := 2, kind := .send, start := 900, sent := some (target 203 .track),
                            slotHolds := true, overHalt := false } } }

/-- Zone 2 moving, a POLL on the link. -/
def polling : State :=
  { withChannel 2 (fun c => { c with
      flight := some { target := target 203 .track, accepted := 500, deadline := 150500 } })
      (running 100 100 200) with
    now := 1000
    link := { last := 2, abandoned := none,
              txn := some { zone := 2, kind := .poll, start := 900, sent := none, slotHolds := false,
                            overHalt := false } } }

theorem test_accept_starts_the_move :
    (channel (after (.accept 2 0) sending) 2).flight =
      some { target := target 203 .track, accepted := 1000, deadline := 151000 } ∧
    (channel (after (.accept 2 0) sending) 2).slot = none := by decide +kernel
theorem test_accept_of_another_zone_is_ignored : after (.accept 3 0) sending = sending := by
  decide +kernel
theorem test_late_frames_are_ignored :
    after (.accept 2 0) { sending with now := 1300 } = { sending with now := 1300 } ∧
    after (.statusReply 2 203 1) { polling with now := 1300 } = { polling with now := 1300 } := by
  decide +kernel
theorem test_status_in_position_completes :
    (channel (after (.statusReply 2 203 1) polling) 2).flight = none ∧
    (channel (after (.statusReply 2 203 1) polling) 2).position = some 203 := by decide +kernel
theorem test_status_with_fault_bit_faults :
    (channel (after (.statusReply 2 203 3) polling) 2).mode = .fault := by decide +kernel
theorem test_third_miss_faults :
    let s := withChannel 2 (fun c => { c with misses := 2 }) polling
    (channel (after .miss s) 2).mode = .fault ∧ (after .miss s).now = 1300 ∧
      (after .miss s).line.notices = LineNotice.zoneFault.bit := by decide +kernel
theorem test_timeout_lags :
    (channel (after (.moveTimeout 2) polling) 2).lagging = true ∧
    (after (.moveTimeout 2) polling).now = 150500 ∧
    (after (.moveTimeout 2) polling).line.notices = LineNotice.zoneLagging.bit := by decide +kernel
theorem test_frame_with_a_bad_crc_is_ignored :
    after (.zoneLinkFrameIgnored [some 0x3C, some 2, some 0x81, some 0, some 0, some 0]) sending
      = sending := by decide +kernel

/-- Grants go round from the zone after the last granted (R111). -/
theorem test_round_robin :
    let s := withChannel 1 (fun c => { c with slot := some (target 203 .track) })
      (withChannel 9 (fun c => { c with slot := some (target 210 .track) }) (running 100 100 200))
    (granted { s with link := { s.link with last := 4 } }).last = 9 ∧
    (granted { s with link := { s.link with last := 9 } }).last = 1 := by decide +kernel

def manualZone3 : State := withChannel 3 (fun c => { c with mode := .manual }) (running 100 100 200)

theorem test_zone_move_clamps :
    lineAnswer (after (.zoneMove 3 5) manualZone3) = some (.ok, [0, 20, 1]) ∧
    (channel (after (.zoneMove 3 5) manualZone3) 3).slot = some (target 20 .manual) := by decide +kernel
theorem test_zone_move_of_a_track_zone :
    lineAnswer (after (.zoneMove 2 300) manualZone3) = some (.wrongState, [0, 0, 0]) := by decide +kernel
theorem test_zone_mode_discards_a_track_target :
    lineAnswer (after (.zoneMode 2 2) sending) = some (.ok, [2, 1]) ∧
    (channel (after (.zoneMode 2 2) sending) 2).slot = none := by decide +kernel
theorem test_zone_mode_of_an_off_zone :
    lineAnswer (after (.zoneMode 12 1) sending) = some (.wrongState, [4, 0]) := by decide +kernel
theorem test_zone_reset :
    let s := withChannel 5 (fun c => { c with mode := .fault, misses := 3, lagging := true }) sending
    (channel (after (.zoneReset 5) s) 5) = Channel.initial .manual := by decide +kernel
theorem test_read_zones_link :
    (zonesRecord sending).drop 512 = [2, 2, 1, 2, 1] := by decide +kernel
theorem test_abandoned_window_closes_400_after_the_start :
    let s := { running 100 100 200 with link := { last := 15, txn := none, abandoned := some 900 } }
    (after .abandonedReplyWindowClose s).now = 1300 ∧
      (after .abandonedReplyWindowClose s).link.abandoned = none := by decide +kernel

/-! ## Machine states (07) -/

theorem test_start_enters_resuming :
    lineAnswer (after .start State.reset) = some (.ok, [1]) ∧
    (channel (after .start State.reset) 0).slot = some (target 200 .entry) := by decide +kernel
theorem test_start_with_halt_asserted :
    lineAnswer (after .start { State.reset with pins := ⟨true, false⟩ }) = some (.halted, [0]) := by
  decide +kernel
theorem test_rest_park_with_the_knife_clear :
    lineAnswer (after (.rest 2) (running 100 100 200)) = some (.ok, [4, 0, 8]) := by decide +kernel
theorem test_rest_is_refused_while_a_wake_is_pending :
    let s := running 100 100 200
    let s := { s with ctl := { s.ctl with flags := 0b1001, enables := 0b0001 } }
    lineAnswer (after (.rest 1) s) = some (.wakePending, [2, 9, 1]) := by decide +kernel

/-- BRAKING towards a rest. -/
def braking (r : RestTarget) : State :=
  let s := inPhase .braking (running 100 100 200)
  { s with ctl := { s.ctl with restTarget := r } }

theorem test_feed_still_enters_park :
    (after .feedStillAsserted (braking .park)).ctl.phase = .park ∧
    (channel (after .feedStillAsserted (braking .park)) 0).slot = some (target 800 .park) := by
  decide +kernel
theorem test_feed_still_enters_dwell :
    (after .feedStillAsserted (braking .dwell)).ctl.dwell =
      { running := true, remaining := 600, start := 0 } ∧
    (after .feedStillAsserted (braking .dwell)).line.notices = LineNotice.restEntered.bit := by
  decide +kernel
theorem test_infeed_aborts_braking :
    let s := braking .park
    let s := { s with ctl := { s.ctl with enables := 0b0001 } }
    (after .infeedEdge s).ctl.phase = .run ∧
      (after .infeedEdge s).line.notices = LineNotice.restAborted.bit ∧
      (after .infeedEdge s).feed.capture = some 100 := by decide +kernel

/-- DWELL with the timer running since time 0. -/
def dwelling : State :=
  let s := inPhase .dwell (running 100 100 200)
  { s with ctl := { s.ctl with dwell := { running := true, remaining := 600, start := 0 } } }

theorem test_expiry_without_its_enable_stays :
    (after .dwellTimerExpiry dwelling).ctl.phase = .dwell ∧
    (after .dwellTimerExpiry dwelling).ctl.flags = WakeFlag.timer.bit ∧
    (after .dwellTimerExpiry dwelling).now = 60000000 := by decide +kernel
theorem test_wake_enable_ends_the_dwell :
    let s := { dwelling with ctl := { dwelling.ctl with flags := WakeFlag.timer.bit } }
    lineAnswer (after (.wakeEnable 0b1100) s) = some (.ok, [0b1100, 0b0100, 2]) ∧
      (after (.wakeEnable 0b1100) s).line.notices = LineNotice.wake.bit := by decide +kernel
theorem test_wake_request_with_its_enable_clear :
    (after .wakeRequest dwelling).ctl.phase = .dwell ∧
    (after .wakeRequest dwelling).ctl.flags = WakeFlag.gauge.bit := by decide +kernel
theorem test_wake_ends_the_dwell : (after .wake dwelling).ctl.phase = .run := by decide +kernel
theorem test_clear_wake :
    let s := { dwelling with ctl := { dwelling.ctl with flags := 0b0101 } }
    lineAnswer (after (.clearWake 0b0100) s) = some (.ok, [0b0001, 0b1000, 5]) := by decide +kernel
theorem test_halt_abandons :
    (after .haltAsserted lateEnd).hides.records.map (fun r => (r.state, r.cause)) =
      [(.abandoned, some .halt)] ∧ (after .haltAsserted lateEnd).intake.list = [] ∧
    (after .haltAsserted lateEnd).hides.records.map (fun r => (r.last, r.inTrack, r.rangeOpen)) =
      [(some 208, 0, false)] := by decide +kernel

def halted : State := { inPhase .halt (running 100 100 200) with pins := ⟨true, false⟩ }

theorem test_clear_needs_the_input_released :
    lineAnswer (after .clear halted) = some (.wrongState, [7]) ∧
    lineAnswer (after .clear (after .haltReleased halted)) = some (.ok, [0]) := by decide +kernel
theorem test_clear_polls_every_active_zone :
    (after .clear { halted with pins := ⟨false, false⟩ }).zones.map Channel.clearPoll =
      List.replicate 12 true ++ List.replicate 4 false := by decide +kernel
theorem test_feed_still_is_recorded :
    (after .feedStillAsserted dwelling).pins.feedStill = true ∧
    (after .feedStillReleased (after .feedStillAsserted dwelling)).pins.feedStill = false := by
  decide +kernel

/-- FEED REF with N = 999 and duty 1200 at trim 1. -/
def driven : State :=
  let s := running 100 100 200
  { s with feed := { s.feed with duty := 1200, trim := 1 } }

theorem test_feed_ref_period :
    (after .feedRefPeriodStart driven).feed.ref =
      { period := 999, count := 500, start := 1000, high := true, gated := false } := by decide +kernel
theorem test_feed_ref_high_end :
    (after .feedRefHighEnd (after .feedRefPeriodStart driven)).feed.ref.high = false ∧
    (after .feedRefHighEnd (after .feedRefPeriodStart driven)).now = 1500 := by decide +kernel

/-! ## Settings (08) -/

def badArticle : Article :=
  { s := 210, rmin := 70, p0 := ⟨150, 8⟩, p1 := ⟨250, 12⟩, p2 := ⟨350, 18⟩, p3 := ⟨350, 23⟩,
    p4 := ⟨600, 27⟩, p5 := ⟨900, 160⟩ }

theorem test_refused_article :
    lineAnswer (after (.writeArticle 4 badArticle) State.reset) = some (.badValue, [12]) ∧
    articleItem 4 { badArticle with p3 := ⟨450, 23⟩ } = 20 := by decide +kernel
theorem test_article_is_written_and_read :
    let a := { badArticle with p3 := ⟨450, 23⟩, p5 := ⟨900, 40⟩ }
    (after (.writeArticle 4 a) State.reset).settings.articles[4]? = some a ∧
    (lineAnswer (after (.readArticle 4) (after (.writeArticle 4 a) State.reset))).map
      (fun r => r.2.take 4) = some [0, 210, 0, 70] := by decide +kernel
theorem test_select_article :
    (after (.selectArticle 31) State.reset).settings.current = 31 ∧
    lineAnswer (after (.selectArticle 32) State.reset) = some (.badValue, [0]) := by decide +kernel
theorem test_geometry_items :
    geometryItem { Config.defaultGeometry with pitch := 20 } = 18 ∧
    geometryItem { Config.defaultGeometry with pitch := 40, lead := 30 } = 16 ∧
    geometryItem { Config.defaultGeometry with pitch := 40, distance := 12000, lead := 400 } = 0 := by
  decide
theorem test_set_geometry :
    let g := { Config.defaultGeometry with pitch := 40 }
    (after (.setGeometry g) State.reset).feed.nextPos = 40 ∧
    lineAnswer (after (.setGeometry g) (running 1 1 2)) = some (.wrongState, [0]) := by decide +kernel
theorem test_locked_scale :
    lineAnswer (after (.setScale 300) (after .lockGeometry State.reset)) = some (.locked, [0, 200]) ∧
    (after (.setScale 300) State.reset).feed.sync = .settling := by decide +kernel
theorem test_speed_fields :
    lineAnswer (after (.setSpeed 999 1500) State.reset) =
      some (.ok, [3, 0xE7, 5, 0xDC, 1, 3, 0xE8]) := by decide +kernel
theorem test_trim_clamps : lineAnswer (after (.setTrim 9) State.reset) = some (.ok, [4, 1]) := by
  decide +kernel
theorem test_dwell_of_0_refused :
    lineAnswer (after (.setDwell 0) State.reset) = some (.badValue, [2, 0x58]) := by decide +kernel
theorem test_settings_record_lengths :
    (settingsRecord State.reset).length = 101 ∧ (statusRecord State.reset).length = 71 ∧
    (zonesRecord State.reset).length = 517 ∧ (counterRecord State.reset).length = 22 := by decide +kernel

/-! ## Line port (09) -/

theorem test_clear_notices_keeps_the_mask :
    let s := { State.reset with line := { State.reset.line with notices := 0x401, mask := 0x400 } }
    (after (.clearNotices 1 none) s).line.notices = 0x400 ∧ lineAtn (after (.clearNotices 1 none) s) = false ∧
      lineAtn (after (.clearNotices 1 (some 0)) s) = true := by decide +kernel
theorem test_clear_gauge_notices :
    let s := { State.reset with intake := { State.reset.intake with notices := 0b10100 } }
    gaugeAnswer (after (.clearGaugeNotices 0b100 (some 0xFF)) s) = some (.ok, [0b10000, 0b11111]) := by
  decide +kernel

def readStatusFrame : List Byte := (Instr.readStatus).frame.getD []

theorem test_transfer_takes_the_request :
    (after (.lineTransferEnd readStatusFrame ⟨0, 0⟩) State.reset).line.port.rdy = false := by decide +kernel
theorem test_transfer_with_rdy_low_is_an_overrun :
    let s := after (.lineTransferEnd readStatusFrame ⟨0, 0⟩) State.reset
    (after (.lineTransferEnd readStatusFrame ⟨0, 0⟩) s).line.overrun = 1 ∧
      (after (.lineTransferEnd readStatusFrame ⟨0, 0⟩) s).line.notices = LineNotice.overrun.bit := by
  decide +kernel
theorem test_response_placed_raises_rdy :
    let s := after .readStatus (after (.lineTransferEnd readStatusFrame ⟨0, 0⟩) State.reset)
    (after .lineResponsePlaced s).line.port.rdy = true ∧
      (after .lineResponsePlaced s).line.port.tx.isSome = true := by decide +kernel
theorem test_unread_response_is_discarded :
    let s := after .lineResponsePlaced (after .readStatus State.reset)
    (after (.lineTransferEnd readStatusFrame ⟨0, 0⟩) s).line.unread = 1 ∧
      (after (.lineTransferEnd (readStatusFrame ++ List.replicate 80 0) ⟨0, 0⟩) s).line.unread = 0 := by
  decide +kernel
theorem test_gauge_transfer_and_placing :
    let s := after (.gaugeTransferEnd (slice41.frame.getD []) ⟨0, 0⟩) State.reset
    s.intake.port.rdy = false ∧
      (after .gaugeResponsePlaced (after .gaugeSetup s)).intake.port.rdy = true := by decide +kernel
/-- A RESET two bytes into a response that a gauge transfer shifts out: its start byte and kind, then FF; and
where the response came into the buffer after the first byte, FF before it. -/
theorem test_reset_in_a_gauge_transfer :
    let s := after .gaugeResponsePlaced (after .gaugeSetup State.reset)
    (after (.gaugeTransferEnd [0, 0, 0, 0] ⟨0, 2⟩) (after .reset s)).intake.port.sdo =
      [0x5A, 0x06, 0xFF, 0xFF] ∧
    (after (.gaugeTransferEnd [0, 0, 0, 0] ⟨1, 2⟩) (after .reset s)).intake.port.sdo =
      [0xFF, 0x5A, 0x06, 0xFF] ∧
    (after (.gaugeTransferEnd [0, 0, 0, 0] ⟨0, 0⟩) (after .reset s)).intake.port.sdo = List.replicate 4 0xFF := by
  decide +kernel
theorem test_reset_keeps_the_settings :
    (after .reset { halted with pins := ⟨false, false⟩ }).settings.scale = 100 ∧
    lineAnswer (after .reset { halted with pins := ⟨false, false⟩ }) = some (.ok, [0, 12, 0]) := by
  decide +kernel
theorem test_power_on_with_halt_asserted :
    (after (.powerOnReset { lowPins with halt := true, mode0 := true, mode1 := true }) halted).ctl.phase = .halt ∧
    (after (.powerOnReset { lowPins with mode0 := true, mode1 := true }) halted).ctl.activeZones = 16 ∧
    (after (.powerOnReset { lowPins with mode0 := true, mode1 := true }) halted).ctl.strap = .fixed := by
  decide +kernel
theorem test_reads_of_status_counters_settings :
    lineAnswer (after .readStatus State.reset) = some (.ok, statusRecord State.reset) ∧
    lineAnswer (after .readCounters State.reset) = some (.ok, List.replicate 22 0) ∧
    lineAnswer (after .readSettings State.reset) = some (.ok, settingsRecord State.reset) := by
  decide +kernel
theorem test_empty_queue_lets_a_microsecond_pass :
    (match step State.reset with | .next t => t.now | _ => 0) = 1 := by decide +kernel

/-! ## Witnesses: states and operands that meet the hypotheses of the statements -/

/-- A running machine with a hide in the track, a finished record, outstanding strobes, a waiting target,
a move in flight and a POLL on the link. -/
def busy : State :=
  let s := intaking 43 [false, true, false]
    [record 6 .done (some 10) (some 20), newestInTrack (record 7 .scanSplit (some 40) none) 42 2]
  let s := withChannel 1 (fun c => { c with
    slot := some { gap := 212, cause := .track, ref := some { strobe := 41, hide := 7 } }
    base := some { gap := 212, hide := 7 } }) s
  let s := withChannel 2 (fun c => { c with
    flight := some { target := target 203 .track, accepted := 500, deadline := 150500 } }) s
  { s with
    now := 1000
    hides := { s.hides with completion := [6] }
    track := { s.track with
      slices := [converted 41 14100 7 [.sent, .waiting], entered 42 14200 7], readCount := 2 }
    link := { last := 2, abandoned := none,
              txn := some { zone := 2, kind := .poll, start := 900, sent := none, slotHolds := false,
                            overHalt := false } } }

/-- `busy` with a command at the front of its queue. -/
def busyWith (c : Instr) : State := { busy with pending := [c] }

theorem witness_step_takes_the_front_command : (busyWith .infeedEdge).pending = .infeedEdge :: [] := rfl
theorem witness_step_on_an_empty_queue : busy.pending = [] := rfl

/-- `busy` resting in DWELL with its timer, its FEED REF period and an abandoned window, `now` as given. -/
def ticking (now : Nat) : State :=
  { busy with
    now := now
    link := { busy.link with abandoned := some 900 }
    ctl := { busy.ctl with phase := .dwell, dwell := { running := true, remaining := 1, start := 0 } } }

/-- At 150500 the dwell timer, the move, the reply window, the abandoned window and the period have ended;
at 990 nothing has. -/
theorem witness_timers_due : let s := ticking 150499
    s.ctl.dwell.running = true ∧ s.ctl.dwell.start + s.ctl.dwell.remaining * 100000 ≤ s.now + 1 ∧
    (channel s 2).flight.map Move.deadline = some (s.now + 1) ∧
    s.link.txn.map (fun x => decide (x.start + 400 ≤ s.now + 1)) = some true ∧
    s.link.abandoned.map (fun a => decide (a + 400 ≤ s.now + 1)) = some true ∧
    s.feed.ref.start + s.feed.ref.period + 1 ≤ s.now + 1 := by decide +kernel
theorem witness_no_timer_due : let s := ticking 990
    s.now + 1 < s.ctl.dwell.start + s.ctl.dwell.remaining * 100000 ∧
    (channel s 2).flight.map (fun m => decide (s.now + 1 < m.deadline)) = some true ∧
    s.link.txn.map (fun x => decide (s.now + 1 < x.start + 400)) = some true ∧
    s.link.abandoned.map (fun a => decide (s.now + 1 < a + 400)) = some true ∧
    s.now + 1 < s.feed.ref.start + s.feed.ref.period + 1 ∧ s.feed.ref.high = false := by decide +kernel
theorem witness_high_part_due :
    let s := { after .feedRefPeriodStart driven with now := 1499 }
    s.feed.ref.high = true ∧ s.feed.ref.count < s.feed.ref.period + 1 ∧
    s.feed.ref.start + s.feed.ref.count ≤ s.now + 1 := by decide +kernel
theorem test_tick_takes_the_timers : let t := tick (ticking 150499)
    t.ctl.flags = WakeFlag.timer.bit ∧ (channel t 2).flight = none ∧ (channel t 2).lagging = true ∧
    t.link.abandoned = none ∧ t.feed.ref.start = 150500 := by decide +kernel
theorem witness_request_frames :
    slice41.wellFormed = true ∧ [0x019A, 0x8001, (0x8000 : BitVec 16)].length ≤ 16 ∧
    slice41.kindCode = some 0x01 ∧ slice41.frame.isSome = true ∧
    requestStart ∉ [(0x00 : Byte), 0xFF] := by decide +kernel
theorem witness_damaged_frames :
    slice41.wellFormed = true ∧ 2 ≤ 14 ∧ 14 < (slice41.frame.getD []).length ∧
    (slice41.frame.getD []).drop ((slice41.frame.getD []).length - 2) ≠ [0, 0] := by decide +kernel
theorem witness_drive_frames :
    some (0x3C : Byte) ∉ [some 0xC3, none, some (0x02 : Byte)] := by decide
theorem witness_feed_gate : FeedGateAgrees (busyWith .haltAsserted) ∧
    ∃ t, step (busyWith .haltAsserted) = .next t := by
  refine ⟨?_, _, rfl⟩
  unfold FeedGateAgrees
  decide +kernel
theorem witness_settings_and_counts : SettingsSound (busyWith (.setTrim 4)) ∧
    FeedCountsSound (busyWith (.setTrim 4)) ∧ ∃ t, step (busyWith (.setTrim 4)) = .next t := by
  refine ⟨?_, ?_, _, rfl⟩
  · unfold SettingsSound OffsetsOk
    decide +kernel
  · unfold FeedCountsSound
    decide +kernel
theorem witness_outstanding_list : OutstandingSound (busyWith (.slice 43 [350])) ∧
    ∃ t, step (busyWith (.slice 43 [350])) = .next t := by
  refine ⟨⟨by decide, ⟨by decide, by decide, trivial⟩, ?_⟩, _, rfl⟩
  decide +kernel
/-- `busyWith` between two strobes: H at 14550, the next strobe position at 14600. -/
def trackedWith (c : Instr) : State :=
  { busyWith c with feed := { busy.feed with f := 14550, h := 14550, nextPos := 14600 } }

theorem witness_hide_table : HideTableSound (trackedWith (.announce 45 9)) ∧
    SettingsSound (trackedWith (.announce 45 9)) ∧ OutstandingSound (trackedWith (.announce 45 9)) ∧
    RestEmpty (trackedWith (.announce 45 9)) ∧ TrackSound (trackedWith (.announce 45 9)) ∧
    ∃ t, step (trackedWith (.announce 45 9)) = .next t := by
  refine ⟨?_, ?_, ⟨by decide, ⟨by decide, by decide, trivial⟩, by decide +kernel⟩, ?_, ?_, _, rfl⟩
  · unfold HideTableSound finishedNumbers
    decide +kernel
  · unfold SettingsSound OffsetsOk
    decide +kernel
  · unfold RestEmpty
    decide +kernel
  · unfold TrackSound StrobeBaseSound InNumbering
    decide +kernel
theorem witness_gaps : GapsBounded (busyWith (.moveTimeout 2)) ∧
    ∃ t, step (busyWith (.moveTimeout 2)) = .next t := by
  refine ⟨?_, _, rfl⟩
  unfold GapsBounded TargetOk GapOk
  decide +kernel
theorem witness_channels : ChannelsSound (busyWith (.zoneReset 2)) ∧
    LinkNeverIdles (busyWith (.statusReply 2 203 1)) ∧
    ∃ t, step (busyWith (.statusReply 2 203 1)) = .next t := by
  refine ⟨?_, ?_, _, rfl⟩
  · unfold ChannelsSound ChannelSound
    decide +kernel
  · unfold LinkNeverIdles
    decide +kernel
theorem witness_rest_and_halt : ChannelsSound { halted with pending := [.haltReleased] } ∧
    RestEmpty { halted with pending := [.haltReleased] } ∧
    HaltStill { halted with pending := [.haltReleased] } ∧
    ∃ t, step { halted with pending := [.haltReleased] } = .next t := by
  refine ⟨?_, ?_, ?_, _, rfl⟩
  · unfold ChannelsSound ChannelSound
    decide +kernel
  · unfold RestEmpty
    decide +kernel
  · unfold HaltStill
    decide +kernel

/-- A part strapped FIXED, running, with a strobe outstanding. -/
def fixedMode : State :=
  let s := inPhase .run (State.powerOn { lowPins with mode1 := true })
  { s with
    pending := [.announce 0 9]
    intake := { s.intake with list := [{ num := 0, pos := 100, reply := none }] } }

theorem witness_fixed_mode : FixedQuiet fixedMode ∧ fixedMode.ctl.strap = .fixed ∧
    ∃ t, step fixedMode = .next t := by
  refine ⟨?_, rfl, _, rfl⟩
  unfold FixedQuiet
  decide +kernel

/-- For the rules over all commands: a command that sets a flag, one that moves the machine state, one
that writes a setting, and one that issues a strobe. -/
theorem witness_commands : (∃ t, exec .infeedEdge busy = .next t) ∧ (∃ t, exec .haltAsserted busy = .next t) ∧
    (∃ t, exec (.setTrim 3) busy = .next t) ∧
    (∃ t, exec (.bottomPulse true false []) (running 52009 52009 52010) = .next t) :=
  ⟨⟨_, rfl⟩, ⟨_, rfl⟩, ⟨_, rfl⟩, ⟨_, rfl⟩⟩
theorem witness_strobe_issued :
    (after (.bottomPulse true false []) (running 52009 52009 52010)).feed.strobePulses ≠
      (running 52009 52009 52010).feed.strobePulses := by decide +kernel
theorem witness_rest_taken : (after (.rest 2) (running 100 100 200)).ctl.phase ≠ .run ∧
    (after .start State.reset).ctl.phase ≠ .standby ∧
    (after .clear { halted with pins := ⟨false, false⟩ }).ctl.phase ≠ .halt := by decide +kernel
theorem witness_locked_settings :
    ({ busy with settings := { busy.settings with locked := true } } : State).settings.locked = true := rfl

/-- A hide that stays in SCAN_SPLIT over a command, and a finished record that stays. -/
theorem witness_pending_knife :
    let s := { trackedWith .infeedEdge with
      track := { busy.track with pendingKnife := some (List.replicate 16 5) } }
    PendingKnifeSound s ∧ s.track.pendingKnife = some (List.replicate 16 5) ∧ TrackSound s ∧
      anyConverting s = true := by
  refine ⟨fun _ => by decide +kernel, rfl, ?_, by decide +kernel⟩
  unfold TrackSound StrobeBaseSound InNumbering
  decide +kernel
theorem witness_records_over_a_command : (busy.hides.records.map HideRecord.number).Nodup ∧
    HideTableSound busy ∧
    ((after (.writeKnife (List.replicate 16 5)) busy).hides.records.map
      fun r => (r.number, r.state.converting, r.state.unfinished)) =
      [(6, false, false), (7, true, true)] ∧
    ∀ sl ∈ busy.track.slices, sl.hide ≠ 6 := by
  refine ⟨by decide +kernel, ?_, by decide +kernel, by decide +kernel⟩
  unfold HideTableSound finishedNumbers
  decide +kernel
theorem witness_refused_line_request :
    isLineRequest (.bind 7 3) = true ∧ busy.line.hold = false ∧
    (lineAnswer (after (.bind 7 3) busy)).map Prod.fst = some .late := by decide +kernel
/-- A READ_STATUS that a RESET has interrupted is answered no more (R177). -/
theorem witness_request_in_the_reset_hold :
    let s := after (.lineTransferEnd ((Instr.reset).frame.getD []) ⟨0, 0⟩)
      (after (.lineTransferEnd readStatusFrame ⟨0, 0⟩) State.reset)
    isLineRequest .readStatus = true ∧ Instr.readStatus ≠ .reset ∧ s.line.hold = true ∧
    s.line.port.answer = none ∧ lineAnswer (after .readStatus s) = none := by decide +kernel

theorem witness_bottom_pulse : (scaled 249).feed.botAcc < (scaled 249).settings.scale ∧
    ((scaled 249).feed.botRef, ⟨true, false⟩) ∈ forwardChanges ∧
    ((scaled 249).feed.botRef, ⟨false, true⟩) ∈ reverseChanges ∧
    ((scaled 249).feed.botRef, ⟨true, true⟩) ∉ forwardChanges ++ reverseChanges ∧
    (scaled 249).feed.topAcc < (scaled 249).settings.scale := by decide
/-- At scale 100 every pulse counts one: along 00, 10, 11, 01, 00 forward, the other way back (R2). -/
theorem test_directions_of_the_eight_changes :
    let moved (q : Quad × Quad) : Bool × Bool × Pos :=
      let s := running 1000 1000 1100
      let s := { s with feed := { s.feed with botRef := q.1 } }
      (q.2.a, q.2.b, (after (.bottomPulse q.2.a q.2.b []) s).feed.f)
    forwardChanges.map moved = [(true, false, 1001), (true, true, 1001), (false, true, 1001),
      (false, false, 1001)] ∧
    reverseChanges.map moved = [(false, true, 999), (true, true, 999), (true, false, 999),
      (false, false, 999)] := by decide +kernel
theorem witness_rise_of_h :
    ((running 52009 52009 52010).feed.botRef, ⟨true, false⟩) ∈ forwardChanges ∧
    ((running 52009 52009 52010).settings.scale ≤ (running 52009 52009 52010).feed.botAcc + 100 ∧
      (running 52009 52009 52010).feed.botAcc + 100 < 2 * (running 52009 52009 52010).settings.scale) ∧
    0 < posDiff (running 52009 52009 52010).feed.h ((running 52009 52009 52010).feed.f + 1) ∧
    (running 52009 52009 52010).feed.sync = .locked ∧ (running 52009 52009 52010).ctl.phase ≠ .clearing ∧
    reaches 52010 (running 52009 52009 52010).feed.nextPos = true ∧
    reaches 52010 (running 52009 52009 52011).feed.nextPos = false ∧
    (inPhase .park (running 52009 52009 52010)).ctl.phase.permitsStrobes = false ∧
    [RiseEvent.strobe, .slip].head? = some .strobe := by decide +kernel

/-- `full` at its next strobe position, and the same with fifteen strobes outstanding. -/
def fullDue : State := { full with feed := { full.feed with h := 14900 } }
def roomDue : State := { fullDue with intake := { full.intake with list := full.intake.list.tail } }

theorem witness_strobe_joins : fullDue.feed.sync = .locked ∧ fullDue.ctl.phase.permitsStrobes = true ∧
    reaches fullDue.feed.h fullDue.feed.nextPos = true ∧ 16 ≤ fullDue.intake.list.length ∧
    fullDue.intake.list.head?.map Entry.num = some 100 ∧
    (memberOf 100 fullDue.hides.records).map (fun r => r.state.unfinished) = some true ∧
    reaches roomDue.feed.h roomDue.feed.nextPos = true ∧ roomDue.intake.list.length < 16 := by
  decide +kernel

/-- SETTLING from 1000 with a settle distance of 500. -/
def settling (h : Pos) : State :=
  let s := running h h (h + 100)
  { s with feed := { s.feed with sync := .settling, settleStart := 1000 } }

theorem witness_settling : OutstandingSound (settling 1500) ∧ (settling 1500).feed.sync = .settling ∧
    reaches (settling 1500).feed.h (posPlus (settling 1500).feed.settleStart 500) = true ∧
    OutstandingSound (settling 1499) ∧
    reaches (settling 1499).feed.h (posPlus (settling 1499).feed.settleStart 500) = false := by
  refine ⟨⟨by decide, trivial, ?_⟩, by decide, by decide, ⟨by decide, trivial, ?_⟩, by decide⟩
  · decide +kernel
  · decide +kernel
theorem witness_settling_pulse : OutstandingSound (settling 1499) ∧
    ((settling 1499).feed.botRef, ⟨true, false⟩) ∈ forwardChanges ∧
    ((settling 1499).settings.scale ≤ (settling 1499).feed.botAcc + 100 ∧
      (settling 1499).feed.botAcc + 100 < 2 * (settling 1499).settings.scale) ∧
    0 < posDiff (settling 1499).feed.h ((settling 1499).feed.f + 1) ∧
    reaches ((settling 1499).feed.f + 1) (posPlus (settling 1499).feed.settleStart 500) = true ∧
    reaches ((settling 1498).feed.f + 1) (posPlus (settling 1498).feed.settleStart 500) = false ∧
    (settling 1499).ctl.phase ≠ .clearing := by
  refine ⟨⟨by decide, trivial, by decide +kernel⟩, by decide +kernel⟩
theorem test_settling_ends_at_a_pulse : let t := after (pulse (settling 1499)) (settling 1499)
    t.feed.sync = .locked ∧ t.feed.newest = some { num := 0, pos := 1500 } ∧
    (after (pulse (settling 1498)) (settling 1498)).feed.sync = .settling := by decide +kernel
theorem witness_fall_of_f :
    ((running 51981 52010 52110).feed.botRef, ⟨false, true⟩) ∈ reverseChanges ∧
    ((running 51981 52010 52110).feed.botAcc < 100 ∧
      100 ≤ (running 51981 52010 52110).feed.botAcc + (running 51981 52010 52110).settings.scale) ∧
    posDiff 51980 52010 = 30 ∧ posDiff 51979 52010 = 31 ∧
    (running 51981 52010 52110).settings.geometry.tolerance = 30 := by decide +kernel
theorem witness_slip_windows :
    let s := running 2000 2000 2050
    reaches 2000 (posPlus 1000 s.settings.geometry.window) = true ∧
    reaches 1999 (posPlus 1000 s.settings.geometry.window) = false ∧
    (s.settings.geometry.slipLimit : Int) < |1000 - 979| ∧
    ¬ (s.settings.geometry.slipLimit : Int) < |1000 - 980| ∧ s.feed.trim < 4 := by decide +kernel
/-- `tracking` one count before the end of its third slip window in a row. -/
def slipping : State :=
  let s := tracking 39000 (entered 57 30000 4)
  { s with feed := { s.feed with slip := ⟨38001, 979, 2⟩ } }

theorem witness_slip_window_at_a_pulse : (slipping.feed.botRef, ⟨true, false⟩) ∈ forwardChanges ∧
    (slipping.settings.scale ≤ slipping.feed.botAcc + 100 ∧
      slipping.feed.botAcc + 100 < 2 * slipping.settings.scale) ∧
    0 < posDiff slipping.feed.h (slipping.feed.f + 1) ∧
    reaches (slipping.feed.f + 1) (posPlus slipping.feed.slip.start 1000) = true ∧
    (slipping.settings.geometry.slipLimit : Int) < |1000 - slipping.feed.slip.advance| ∧
    [RiseEvent.slip].head? = some .slip ∧ anyConverting slipping = true := by decide +kernel
theorem test_slip_window_ends_at_a_pulse : (after (pulse slipping) slipping).feed.trim = 1 ∧
    (after (pulse slipping) slipping).feed.slip = ⟨39001, 0, 0⟩ := by decide +kernel
theorem witness_curve : let a := Config.factoryArticle
    a.p0.t < a.p1.t ∧ a.p1.t < a.p2.t ∧ a.p2.t < a.p3.t ∧ a.p3.t < a.p4.t ∧ a.p4.t < a.p5.t ∧
    (200 ≤ a.p0.t ∧ a.p0.t ≤ 200) ∧ a.p5.t ≤ 800 ∧ (a.p4.t ≤ 799 ∧ 799 < a.p5.t) ∧
    ∀ p ∈ a.points, 10 ≤ p.a ∧ p.a ≤ 30 := by decide
theorem witness_grain_goal : let a := Config.factoryArticle
    239 - a.s < a.rmin ∧ a.rmin ≤ 240 - a.s ∧ 50 ≤ a.s ∧ a.s ≤ 600 ∧ 0 ≤ a.rmin ∧ a.rmin ≤ 300 := by
  decide
/-- A zone with a base for the slice's hide, and the same channels for a slice of another hide (R95). -/
theorem witness_base : (zone4 205 350).baseFor 4 = some 205 ∧
    ({ zone4 205 350 with hide := 5 } : SplitInput).baseFor 4 = none := by decide +kernel

/-- Zone 0 doubtful, zone 1 at 350, zone 2 absent, zone 3 at 230 in MANUAL. -/
def mixed : SplitInput :=
  { zone4 205 350 with
    readings := some ([.doubtful, .thickness 350, .absent, .thickness 230] ++ List.replicate 12 .absent)
    zones := updAt (fun c => { c with mode := .manual }) 3 (zone4 205 350).zones }

theorem witness_zone_selection : 0 < mixed.active ∧
    (mixed.zones.take 4).map Channel.mode = [.track, .track, .track, .manual] ∧
    (mixed.readings.getD []).take 4 = [.doubtful, .thickness 350, .absent, .thickness 230] ∧
    (∀ e, e < 12 → (mixed.readings.getD []).getD e .absent = .thickness 350 → e = 1) ∧
    (∀ y, y < 12 → (([] : List Reading)).getD y .absent = .absent) := by decide +kernel
/-- Zones 1 and 3 are the present ones, at one distance from zone 2, which borrows from the lower one. -/
theorem test_zones_of_mixed :
    (List.range 4).map (fun z => (mixed.zone z).result.progress) = [.held, .waiting, .waiting, .notTrack] ∧
    (mixed.zone 2).result.flags.extended = true ∧
    (mixed.zone 2).result.target = (mixed.zone 1).result.target := by decide +kernel
theorem witness_lead_crossing : let s := tracking 39700 (entered 57 30000 4)
    oldestEntered s = some (entered 57 30000 4) ∧ AtLeadPoint 30000 s ∧
    (findHide s 4).isSome = true ∧ s.zones.length = 16 ∧ s.ctl.activeZones ≤ 16 ∧
    ¬ AtLeadPoint 30000 (tracking 39699 (entered 57 30000 4)) := by
  unfold AtLeadPoint
  decide +kernel
/-- Slices 41 and 42 of hide 7: as 42 is converted, its target for zone 1 replaces that of 41, whose result is
SKIPPED there; zone 0's slot was empty (R74, R75). Of 42 the zones without a reading borrow. -/
theorem test_a_replaced_target_is_skipped :
    let s := { busy with feed := { busy.feed with h := 23900, f := 23900 } }
    (riseLead s).track.slices.map (fun sl => (sl.results.take 2).map ZoneResult.progress) =
      [[.sent, .skipped], [.waiting, .waiting]] ∧
    (channel (riseLead s) 1).slot.map (fun t => (t.cause, t.ref)) =
      some (.track, some { strobe := 42, hide := 7 }) := by decide +kernel

/-- No slice in ENTERED, and the head of the list, strobe 43 at 14300, at its lead point 24000. -/
def headDue : State :=
  let s := intaking 43 [false, true, false] [record 7 .scanning (some 40) none]
  { s with feed := { s.feed with h := 24000, f := 24000 } }

theorem witness_lead_takes_the_list_head : oldestEntered headDue = none ∧
    headDue.intake.list.map Entry.num = [43, 44, 45] ∧ OutstandingSound headDue ∧
    AtLeadPoint 14300 headDue ∧
    ¬ AtLeadPoint 14300 { headDue with feed := { headDue.feed with h := 23999 } } ∧
    (memberOf 43 headDue.hides.records).map (fun r => r.state.unfinished) = some true ∧
    memberOf 39 headDue.hides.records = none := by
  refine ⟨by decide +kernel, by decide +kernel, ⟨by decide, ⟨by decide, by decide, trivial⟩, ?_⟩, ?_, ?_,
    by decide +kernel, by decide +kernel⟩
  · decide +kernel
  · unfold AtLeadPoint
    decide +kernel
  · unfold AtLeadPoint
    decide +kernel
theorem witness_departure : (memberOf 46 betweenHides.hides.records).isNone = true ∧
    ((memberOf 47 betweenHides.hides.records).map HideRecord.number) = some 8 ∧
    betweenHides.intake.list.head?.map Entry.num = some 44 ∧
    (betweenHides.intake.list.filter (isOrphan betweenHides.hides.records)).map Entry.num = [46] ∧
    (betweenHides.intake.list.filterMap (enteredFor betweenHides.hides.records)).map Slice.strobe =
      [44, 45, 47, 48] := by decide +kernel

/-- Two open ranges hold strobe 5, one begun 32767 strobes before it and one across the wrap at 65530: the
newest first strobe is taken in either order (R33), and none lies 32768 behind. -/
theorem witness_newest_first_strobe :
    let far := { record 1 .abandoned (some 32774) none with rangeOpen := true }
    let near := { record 2 .scanning (some 65530) none with rangeOpen := true }
    (far.rangeOpen && near.rangeOpen && far.holds 5 && near.holds 5) = true ∧
    [far, near].map (fun q => 5 - q.first.num) = [32767#16, 11#16] ∧
    (memberOf 5 [far, near]).map HideRecord.number = some 2 ∧
    (memberOf 5 [near, far]).map HideRecord.number = some 2 := by decide +kernel

/-- Hide 7 abandoned with strobe 43, its last, outstanding: its range closes as 43 departs. -/
theorem test_range_closes_at_the_last_departure :
    let s := intaking 43 [false, false] [record 7 .abandoned (some 40) (some 43)]
    s.hides.records.map HideRecord.rangeOpen = [true] ∧
    (departHead s).hides.records.map HideRecord.rangeOpen = [false] ∧
    (departHead s).track.slices = [] := by decide +kernel

/-- The eighth GAP slice in a row of an open hide, and the same in a hide whose last strobe is named. -/
theorem witness_enter_track : let open7 := { hide7 with gapRun := 7 }
    let ended7 := { record 7 .splitting (some 40) (some 45) with gapRun := 7 }
    (findHide (intaking 43 [false] [open7]) open7.number).map HideRecord.gapRun = some 7 ∧
    open7.state.isOpen = true ∧ open7.flags.gaugeLost = false ∧
    (findHide (intaking 43 [true] [ended7]) ended7.number).map HideRecord.gapRun = some 7 ∧
    ended7.state.isOpen = false := by decide +kernel
theorem test_eighth_gap_slice_loses_the_gauge :
    let open7 := { hide7 with gapRun := 7 }
    let t := enterTrack { num := 43, pos := 14300, reply := none } open7 (intaking 43 [false] [open7])
    t.line.notices = LineNotice.gaugeLost.bit ∧
      (findHide t 7).map (fun r => (r.gapRun, r.flags.gaugeLost)) = some (8, true) := by decide +kernel
theorem witness_knife_crossing :
    let sl := converted 57 30000 4 [.complete, .skipped, .notTrack, .held]
    (tracking 40000 sl).track.slices = sl :: [] ∧ AtKnifePoint sl.pos (tracking 40000 sl) ∧
    ¬ AtKnifePoint sl.pos (tracking 39999 sl) ∧
    (findHide (tracking 40000 sl) 4).map (fun r => (r.state, r.last, r.newestEntered, r.inTrack)) =
      some (.splitting, some 57, some 57, 1) ∧
    ((findHide (tracking 40000 sl) 4).bind fun r => r.counts[3]?) = some ZoneCounts.zero ∧
    sl.results[3]?.isSome = true := by
  unfold AtKnifePoint
  decide +kernel
/-- The same crossing leaves a hide SPLITTING whose last strobe has not entered. -/
theorem test_knife_crossing_before_the_last_strobe :
    let sl := converted 57 30000 4 [.complete]
    let s := tracking 40000 sl
    let s := { s with hides := { s.hides with records :=
      [newestInTrack (record 4 .splitting (some 50) (some 58)) 57 1] } }
    (riseKnife s).hides.records.map (fun r => (r.state, r.inTrack)) = [(.splitting, 0)] ∧
    (riseKnife s).line.notices = 0 := by decide +kernel
theorem witness_wake_sources : dwelling.zones.length = 16 ∧ dwelling.ctl.strap = .profile ∧
    dwelling.ctl.dwell.running = true := by decide
theorem witness_wake_event :
    let parked := { inPhase .park dwelling with ctl := { (inPhase .park dwelling).ctl with flags := 0 } }
    dwelling.ctl.wakeHolds = false ∧
    (dwelling.ctl.flags ||| WakeFlag.line.bit) &&& dwelling.ctl.enables ≠ 0 ∧
    parked.ctl.wakeHolds = false ∧ parked.ctl.phase = .park ∧ parked.zones.length = 16 ∧
    (channel parked 11).mode = .track ∧ (braking .park).ctl.phase = .braking ∧
    (braking .park).ctl.wakeHolds = false := by decide +kernel
theorem witness_halt : busy.zones.length = 16 ∧ busy.ctl.phase ≠ .halt ∧ halted.zones.length = 16 ∧
    halted.ctl.phase = .halt ∧ halted.ctl.phase.drives = false := by decide +kernel
/-- Hide 8 began at strobe 2, hide 7 before the wrap at 65530: 7 joins first, behind 6 (R61). -/
theorem test_abandoned_join_oldest_first :
    let s := intaking 3 [false]
      [record 8 .scanning (some 2) none, record 7 .splitting (some 65530) (some 1), record 6 .done none none]
    let s := { s with hides := { s.hides with completion := [6], cursor := 1, nextNumber := 9 } }
    anyUnfinished s = true ∧ (after .haltAsserted s).hides.completion = [6, 7, 8] ∧
    (after .haltAsserted s).hides.cursor = 1 ∧
    (after .haltAsserted s).line.notices = LineNotice.halt.bit ||| LineNotice.hideAbandoned.bit := by
  decide +kernel
theorem witness_feed_still : (braking .park).zones.length = 16 ∧ (braking .park).ctl.phase = .braking ∧
    (braking .dwell).ctl.restTarget = .dwell ∧ busy.ctl.phase ≠ .braking := by decide +kernel
theorem witness_feed_ref : let s := after .feedRefPeriodStart driven
    s.feed.ref.high = true ∧ s.feed.ref.count < s.feed.ref.period + 1 ∧
    (after .feedRefPeriodStart { driven with feed := { driven.feed with trim := 0 } }).feed.ref.count
      = 999 + 1 := by decide +kernel
theorem witness_accept : sending.zones.length = 16 ∧ (sending.link.txn.map fun x =>
      (x.kind, x.zone, x.sent)) = some (.send, (2 : Byte).toNat, some (target 203 .track)) ∧
    (channel sending 2).mode.inService = true ∧
    (0 : Byte).getLsbD 1 = false ∧ (2 : Byte).getLsbD 1 = true ∧ sending.now < 900 + 400 ∧
    900 + 400 ≤ ({ sending with now := 1300 } : State).now ∧ sending.link.abandoned = none := by
  decide +kernel
theorem witness_status_reply : polling.zones.length = 16 ∧ (polling.link.txn.map fun x =>
      (x.kind, x.zone)) = some (.poll, (2 : Byte).toNat) ∧ (channel polling 2).flight.isSome = true ∧
    (channel polling 2).mode.inService = true ∧ (1 : Byte).getLsbD 0 = true ∧ polling.now < 900 + 400 ∧
    900 + 400 ≤ ({ polling with now := 1300 } : State).now ∧ polling.link.abandoned = none := by
  decide +kernel
theorem witness_miss : polling.zones.length = 16 ∧ (polling.link.txn.map Txn.zone) = some 2 ∧
    (channel polling 2).misses < 2 ∧
    driveFrames [some 0x3C, some 2, some 0x81, some 0, some 0, some 0] = [] ∧
    ((sending.link.txn.map fun x => (x.kind, x.zone)) = some (.send, 2) ∧ (3 : Byte).toNat ≠ 2) ∧
    ({ polling with link := { last := 15, txn := none, abandoned := some 900 } } : State).link.abandoned
      = some 900 ∧ (∀ x ∈ ({ polling with now := 1300 } : State).link.txn, x.start + 400 ≤ 1300) := by
  decide +kernel
theorem witness_move_timeout : polling.zones.length = 16 ∧ 2 < 16 ∧
    (channel polling 2).flight = some { target := target 203 .track, accepted := 500, deadline := 150500 } ∧
    (channel polling 2).timeouts < 2 ∧
    ({ polling with link := { last := 2, txn := none, abandoned := none } } : State).link.free = true := by
  decide +kernel
theorem witness_transfer_rdy_high :
    State.reset.intake.port.rdy = true ∧
    PortName.gauge.examine (slice41.frame.getD []) = .request slice41 ∧ State.reset.line.port.rdy = true ∧
    PortName.line.examine ((Instr.reset).frame.getD []) = .request .reset := by decide +kernel
theorem witness_bad_frames : State.reset.line.port.rdy = true ∧ State.reset.line.hold = false ∧
    PortName.line.examine [0x00] = .noFrame ∧ PortName.line.examine [0xA5] = .noKind ∧
    PortName.line.examine [0xA5, 0x3B, 0, 0, 0, 0] = .badFrame 0x3B ∧
    PortName.line.examine (slice41.frame.getD []) = .unknownKind 0x01 ∧ State.reset.intake.port.rdy = true ∧
    PortName.gauge.examine [0x00] = .noFrame ∧ PortName.gauge.examine [0xA5] = .noKind ∧
    PortName.gauge.examine [0xA5, 0x01, 0, 0, 0, 0] = .badFrame 0x01 ∧
    PortName.gauge.examine readStatusFrame = .unknownKind 0x3B := by decide +kernel
/-- A response that waits unread, at either port, and how much of it a transfer leaves unread: all of it where
the transfer is one byte short, nothing where it fits, behind a byte of `lead` or not (R28, R176). -/
theorem witness_unread_response :
    let s := after .gaugeResponsePlaced (after .gaugeSetup (after .lineResponsePlaced (after .readStatus State.reset)))
    s.line.port.rdy = true ∧ s.line.hold = false ∧ s.intake.port.rdy = true ∧
    s.line.port.tx.map (fun r => r.frame.length) = some 78 ∧
    s.intake.port.tx.map (fun r => r.frame.length) = some 13 ∧
    (leftUnread s.line.port.tx 77 ⟨0, 0⟩).isSome = true ∧ leftUnread s.line.port.tx 78 ⟨0, 0⟩ = none ∧
    (leftUnread s.intake.port.tx 13 ⟨1, 0⟩).isSome = true ∧ leftUnread s.intake.port.tx 14 ⟨1, 0⟩ = none := by
  decide +kernel
/-- A bad frame discards an unread response and counts it; bytes without a frame leave it, or read it. -/
theorem test_bad_frame_over_an_unread_response :
    let s := after .gaugeResponsePlaced (after .gaugeSetup State.reset)
    let bad := after (.gaugeTransferEnd [0xA5, 0x01, 0, 0, 0, 0] ⟨0, 0⟩) s
    let short := after (.gaugeTransferEnd (List.replicate 12 0) ⟨0, 0⟩) s
    let whole := after (.gaugeTransferEnd (List.replicate 13 0) ⟨0, 0⟩) s
    (bad.intake.unread, bad.intake.port.tx) = (1, none) ∧
    (short.intake.unread, short.intake.port.tx) = (0, s.intake.port.tx) ∧
    (whole.intake.unread, whole.intake.port.tx) = (0, none) := by decide +kernel
theorem test_bad_slice_frame_at_the_gauge_port :
    let s := after (.gaugeTransferEnd [0xA5, 0x01, 0, 0, 0, 0] ⟨0, 0⟩) State.reset
    gaugeAnswer s = some (.badFrame, []) ∧ s.intake.notices = GaugeNotice.sliceRefused.bit ∧
      s.intake.badFrame = 1 := by decide +kernel
theorem witness_transfer_rdy_low :
    let s := after (.lineTransferEnd readStatusFrame ⟨0, 0⟩) State.reset
    s.line.port.rdy = false ∧ s.feed.syncHeld = false ∧
    (after (.gaugeTransferEnd (slice41.frame.getD []) ⟨0, 0⟩) State.reset).intake.port.rdy = false := by
  decide +kernel
theorem witness_placing :
    let s := after .readStatus (after (.lineTransferEnd readStatusFrame ⟨0, 0⟩) State.reset)
    s.line.port.answer.isSome = true ∧ s.line.hold = false ∧
    (after .gaugeSetup State.reset).intake.port.answer.isSome = true ∧
    let w := after (.lineTransferEnd ((Instr.reset).frame.getD []) ⟨0, 0⟩)
      (after (.lineTransferEnd readStatusFrame ⟨0, 0⟩) State.reset)
    w.line.hold = true ∧ w.line.port.rx.map RxFrame.acted = some false := by decide +kernel
theorem witness_slice : [(350 : BitVec 16)].length ≤ 16 ∧ reorder.ctl.strap = .profile ∧
    (reorder.feed.newest.map fun n => (older n.num 44, older n.num 43)) = some (true, false) ∧
    (∀ e ∈ reorder.intake.list, e.num ≠ 39) ∧
    (reorder.intake.list.find? fun e => e.num = 41).map (fun e => e.reply.isSome) = some true ∧
    (reorder.intake.list.find? fun e => e.num = 42).map (fun e => e.reply) = some none ∧
    (∃ d ∈ reorder.intake.list.head?, d.num ≠ 42 ∧ d.reply = none) ∧
    reorder.intake.list.head?.map Entry.num = some 40 ∧ fixedMode.ctl.strap = .fixed := by decide +kernel

/-- Eight records in use, one of them finished, and no hide open. -/
def tableFull : State :=
  let s := intaking 60 [false, false]
    (record 1 .done (some 1) (some 2) :: [2, 3, 4, 5, 6, 7, 9].map fun n =>
      record n .splitting (some 30) (some 31))
  { s with hides := { s.hides with completion := [1], nextNumber := 10 } }

/-- A record in SPLITTING whose last strobe 45 is still outstanding (check 4 of R47). -/
def claimed45 : State := { betweenHides with intake := { betweenHides.intake with list := outstanding 45 [false] } }

theorem witness_announce : HideTableSound reorder ∧ HideTableSound tableFull ∧
    reorder.ctl.strap = .profile ∧ reorder.ctl.phase.permitsStrobes = true ∧
    (∃ newest ∈ reorder.feed.newest, older newest.num 43 = false) ∧
    (∀ r ∈ reorder.hides.records, r.state ≠ .scanned ∧ r.state ≠ .splitting) ∧
    reorder.hides.records.length < 8 ∧ (reorder.intake.list.find? fun e => e.num = 43).isSome = true ∧
    (∀ r ∈ tableFull.hides.records, r.last.map (fun l => older l 61) = some true) ∧
    tableFull.hides.completion ≠ [] ∧ tableFull.hides.records.length = 8 ∧ openHide tableFull = none ∧
    (tableFull.intake.list.find? fun e => e.num = 61).isSome = true ∧
    (∃ r ∈ claimed45.hides.records, (r.state = .scanned ∨ r.state = .splitting) ∧
      r.last.map (fun l => older l 45) = some false) := by
  refine ⟨?_, ?_, by decide +kernel⟩
  · unfold HideTableSound finishedNumbers
    decide +kernel
  · unfold HideTableSound finishedNumbers
    decide +kernel
theorem test_checks_4_and_5_of_announce :
    gaugeAnswer (after (.announce 45 9) claimed45) = some (.badValue, [0, 0]) ∧
    gaugeAnswer (after (.announce 61 9) { tableFull with hides := { tableFull.hides with completion := [] } }) =
      some (.tableFull, [0, 0]) := by decide +kernel
/-- The number after 65535 is 1, which names a record in use, and so does 2 (R46). -/
theorem test_next_hide_number_wraps_past_numbers_in_use :
    let s := intaking 40 [false] [record 1 .splitting (some 30) (some 31), record 2 .splitting (some 32) (some 33)]
    let s := { s with hides := { s.hides with nextNumber := 65535 } }
    gaugeAnswer (after (.announce 40 9) s) = some (.ok, [0xFF, 0xFF]) ∧
    (after (.announce 40 9) s).hides.nextNumber = 3 := by decide +kernel
theorem witness_end : HideTableSound lateEnd ∧ lateEnd.ctl.strap = .profile ∧
    ((openHide lateEnd).map fun r => (older 200 r.first.num, older 199 r.first.num)) = some (false, true) ∧
    (∃ newest ∈ lateEnd.feed.newest, older newest.num 211 = false ∧ older newest.num 212 = true) ∧
    openHide tableFull = none := by
  refine ⟨?_, by decide +kernel⟩
  unfold HideTableSound finishedNumbers
  decide +kernel

/-- `lateEnd` with H at a given position; its open hide began at 14000. -/
def longHide (h : Pos) : State := { lateEnd with feed := { lateEnd.feed with h := h } }

theorem witness_maximum_hide_length : HideTableSound (longHide 59001) ∧
    (openHide (longHide 59001)).map (fun r => posDiff r.first.pos 59001) = some 45001 ∧
    (openHide (longHide 59000)).map (fun r => posDiff r.first.pos 59000) = some 45000 ∧
    (longHide 59001).settings.geometry.maxLength = 45000 ∧
    (longHide 59001).feed.newest.map StrobeId.num = some 211 ∧ openHide tableFull = none := by
  refine ⟨?_, by decide +kernel⟩
  unfold HideTableSound finishedNumbers
  decide +kernel
theorem test_hide_over_the_maximum_length_is_ended :
    (riseLength (longHide 59001)).hides.records.map (fun r => (r.state, r.last, r.flags.forcedEnd)) =
      [(.splitting, some 211, true)] ∧
    openHide (riseLength (longHide 59000)) = openHide lateEnd := by decide +kernel
theorem witness_reads : 31 < 32 ∧ busy.settings.articles.length = 32 ∧ (findHide busy 6).isSome = true ∧
    busy.ctl.strap = .profile ∧ findHide busy 8 = none ∧ fixedMode.ctl.strap = .fixed ∧
    (0 = 0 ∨ 16 < 0) ∧ (17 = 0 ∨ 16 < 17) ∧ 1 ≤ 1 ∧ 1 ≤ 16 ∧ busy.track.slices.length = 2 := by
  decide +kernel
theorem witness_start_clear_rest : State.reset.zones.length = 16 ∧ State.reset.pins.halt = false ∧
    State.reset.ctl.phase = .standby ∧ halted.pins.halt = true ∧ halted.ctl.phase = .halt ∧
    busy.ctl.phase = .run ∧ busy.ctl.flags &&& busy.ctl.enables = 0 ∧ knifeClear busy = false ∧
    knifeClear (running 100 100 200) = true := by decide +kernel
theorem witness_hide_requests : HideTableSound busy ∧
    (findHide busy 7).map (fun r => (r.state, r.state.unfinished)) = some (.scanSplit, true) ∧
    (findHide busy 6).map (fun r => r.state.unfinished) = some false ∧
    busy.hides.completion[busy.hides.cursor]? = some 6 ∧
    (findHide reorder 7).map HideRecord.state = some .scanning ∧ 31 < 32 ∧
    busy.settings.articles[31]? = some Config.factoryArticle := by
  refine ⟨?_, by decide +kernel⟩
  unfold HideTableSound finishedNumbers
  decide +kernel
theorem witness_zone_requests : manualZone3.zones.length = 16 ∧ manualZone3.ctl.phase ≠ .halt ∧
    (channel manualZone3 3).mode = .manual ∧ manualZone3.ctl.strap = .profile ∧
    (channel manualZone3 11).mode.inService = true ∧ manualZone3.link.free = true ∧
    (channel manualZone3 11).mode = .track ∧
    (channel (withChannel 5 (fun c => { c with mode := .fault }) busy) 5).mode = .fault := by
  decide +kernel
/-- An article that meets every item, and the first failing items of others: the row, and item 12. -/
theorem witness_article_items : (∀ n, ArticleItemMet 31 Config.factoryArticle n) ∧
    ¬ ArticleItemMet 32 Config.factoryArticle 1 ∧ (∀ m, m < 1 → ArticleItemMet 32 Config.factoryArticle m) ∧
    ¬ ArticleItemMet 4 badArticle 12 ∧ ∀ m, m < 12 → ArticleItemMet 4 badArticle m := by
  refine ⟨fun n => ?_, by simp [ArticleItemMet], fun m h => ?_, by simp [ArticleItemMet, badArticle],
    fun m h => ?_⟩
  · unfold ArticleItemMet
    split <;> simp [Config.factoryArticle]
  · obtain rfl : m = 0 := by omega
    trivial
  · interval_cases m <;> simp [ArticleItemMet, badArticle]
theorem witness_setting_writes : OffsetsOk (List.replicate 16 (-100)) ∧
    anyConverting busy = true ∧ anyConverting State.reset = false ∧
    (List.replicate 16 (101 : Int)).getD 0 0 = 101 ∧
    (List.replicate 15 (100 : Int) ++ [-101]).getD 15 0 = -101 := by
  unfold OffsetsOk
  decide +kernel
/-- A geometry that meets every item, and one whose first failing item is 18, the last. -/
theorem witness_geometry_items : (∀ n, GeometryItemMet Config.defaultGeometry n) ∧
    ¬ GeometryItemMet { Config.defaultGeometry with pitch := 20 } 18 ∧
    ∀ m, m < 18 → GeometryItemMet { Config.defaultGeometry with pitch := 20 } m := by
  refine ⟨fun n => ?_, by simp [GeometryItemMet, Config.defaultGeometry], fun m h => ?_⟩
  · unfold GeometryItemMet
    split <;> simp [Config.defaultGeometry]
  · interval_cases m <;> simp [GeometryItemMet, Config.defaultGeometry]
theorem witness_geometry_and_scale : State.reset.settings.locked = false ∧
    State.reset.ctl.phase = .standby ∧
    (after .lockGeometry busy).settings.locked = true ∧ busy.ctl.phase ≠ .standby ∧
    State.reset.feed.sync = .locked := by decide +kernel

/-- For the clauses about requests that are refused. -/
theorem witness_refused_requests : 16 < (List.replicate 17 (0 : BitVec 16)).length ∧ 15 < 16 ∧ 31 < 32 ∧
    findHide busy 8 = none ∧ State.reset.hides.completion.length ≤ State.reset.hides.cursor ∧
    (channel busy 3).mode ≠ .manual ∧ (channel busy 3).mode ≠ .fault ∧
    ((channel busy 15).mode.inService = false) ∧ (17 = 0 ∨ 16 < 17) ∧ (98 < 99 ∨ 4095 < 98) := by
  decide +kernel

end Sys2Proof.Tests
end

/-! PROOFS. The decoding of an encoder pair (R2), the scale arithmetic of a pulse (R3) and the pulses of the
top encoder (R4). -/

namespace Sys2Proof.Machine

/-! ## The decoding of a change (R2) -/

theorem Quad.step_eq_forward_iff (ref new : Quad) :
    ref.step new = .forward ↔ (ref, new) ∈ forwardChanges := by
  obtain ⟨a, b⟩ := ref
  obtain ⟨c, d⟩ := new
  revert a b c d
  decide

theorem Quad.step_eq_backward_iff (ref new : Quad) :
    ref.step new = .backward ↔ (ref, new) ∈ reverseChanges := by
  obtain ⟨a, b⟩ := ref
  obtain ⟨c, d⟩ := new
  revert a b c d
  decide

/-! ## The scale arithmetic of a pulse (R3) -/

theorem forwardAcc_lt {scale acc : Nat} (h : acc < scale) : forwardAcc scale acc < scale :=
  Nat.mod_lt _ (Nat.zero_lt_of_lt h)

/-- A forward pulse's hundred goes into whole counts and the accumulator. -/
theorem forwardCounts_mul_add_forwardAcc (scale acc : Nat) :
    acc + 100 = forwardCounts scale acc * scale + forwardAcc scale acc :=
  (Nat.div_add_mod' (acc + 100) scale).symm

/-- A reverse pulse takes back enough counts to pay its hundred, and less than one count too many. -/
theorem reverseCounts_mul_bounds {scale acc : Nat} (h : acc < scale) :
    100 ≤ acc + reverseCounts scale acc * scale ∧
      acc + reverseCounts scale acc * scale < scale + 100 := by
  have divided : reverseCounts scale acc * scale + (100 - acc + (scale - 1)) % scale =
      100 - acc + (scale - 1) := Nat.div_add_mod' _ scale
  have remainder := Nat.mod_lt (100 - acc + (scale - 1)) (Nat.zero_lt_of_lt h)
  obtain short | enough := Nat.lt_or_ge acc 100
  · omega
  · have none_taken : reverseCounts scale acc = 0 := Nat.div_eq_of_lt (by omega)
    simp only [none_taken, Nat.zero_mul]
    omega

theorem reverseAcc_lt {scale acc : Nat} (h : acc < scale) : reverseAcc scale acc < scale := by
  have bounds := reverseCounts_mul_bounds h
  unfold reverseAcc
  omega

theorem add_reverseCounts_mul {scale acc : Nat} (h : acc < scale) :
    acc + reverseCounts scale acc * scale = reverseAcc scale acc + 100 :=
  (Nat.sub_add_cancel (reverseCounts_mul_bounds h).1).symm

/-! ## The top encoder (R4) -/

theorem exec_topPulse (a b : Bool) (s : State) :
    exec (.topPulse a b) s =
      .next (topPulse (s.feed.topRef.step ⟨a, b⟩) { s with feed := { s.feed with topRef := ⟨a, b⟩ } }) :=
  rfl

/-- Settles O31: one case per step that the change of the pair decodes to. -/
theorem topPulseMovesTheTopAdvanceAlone : Obligations.TopPulseMovesTheTopAdvanceAlone := by
  intro a b s inRange
  simp only [exec_topPulse, ← Quad.step_eq_forward_iff, ← Quad.step_eq_backward_iff]
  cases s.feed.topRef.step ⟨a, b⟩ with
  | forward =>
    exact ⟨forwardAcc s.settings.scale s.feed.topAcc, _, rfl, forwardAcc_lt inRange,
      forwardCounts s.settings.scale s.feed.topAcc, rfl, forwardCounts_mul_add_forwardAcc _ _⟩
  | backward =>
    exact ⟨reverseAcc s.settings.scale s.feed.topAcc, _, rfl, reverseAcc_lt inRange,
      reverseCounts s.settings.scale s.feed.topAcc, rfl, add_reverseCounts_mul inRange⟩
  | still => exact ⟨s.feed.topAcc, s.feed.slip.advance, rfl, inRange, rfl, rfl⟩

end Sys2Proof.Machine

/-! PROOFS. The stages of the split computation: the rounding and the compression curve (R92), the grain goal
(R93), the rate limit and the clamp (R95 to R97). -/

namespace Sys2Proof.Machine

/-! ## Rounding to the nearest, halves away from zero (R92) -/

/-- Rounding half up: twice the rounded quotient times d lies in (2n − d, 2n + d]. -/
theorem two_mul_halfUp_mul_bounds {n d : Int} (positive : 0 < d) :
    2 * n - d < 2 * ((2 * n + d) / (2 * d) * d) ∧ 2 * ((2 * n + d) / (2 * d) * d) ≤ 2 * n + d := by
  have double : 0 < 2 * d := by omega
  have below := Int.ediv_mul_le (2 * n + d) double.ne'
  have above := Int.lt_ediv_add_one_mul_self (2 * n + d) double
  have reassociated : (2 * n + d) / (2 * d) * (2 * d) = 2 * ((2 * n + d) / (2 * d) * d) :=
    mul_left_comm _ _ _
  rw [add_mul] at above
  omega

/-- A half goes up from a quotient that is not negative, and down from a negative one. -/
theorem two_mul_roundDiv_mul_bounds (n : Int) {d : Int} (positive : 0 < d) :
    (0 ≤ n → 2 * n - d < 2 * (roundDiv n d * d) ∧ 2 * (roundDiv n d * d) ≤ 2 * n + d) ∧
      (n < 0 → 2 * n - d ≤ 2 * (roundDiv n d * d) ∧ 2 * (roundDiv n d * d) < 2 * n + d) := by
  constructor <;> intro sign
  · rw [roundDiv, if_pos sign]
    exact two_mul_halfUp_mul_bounds positive
  · have mirrored := two_mul_halfUp_mul_bounds (n := -n) positive
    rw [roundDiv, if_neg (by omega), neg_mul, neg_mul_comm]
    omega

theorem two_mul_abs_roundDiv_mul_sub_le (n : Int) {d : Int} (positive : 0 < d) :
    2 * |roundDiv n d * d - n| ≤ d := by
  have bounds := two_mul_roundDiv_mul_bounds n positive
  rcases abs_cases (roundDiv n d * d - n) with ⟨value, _⟩ | ⟨value, _⟩ <;> omega

/-- Halves round away from zero. -/
theorem abs_lt_abs_roundDiv_mul {n d : Int} (positive : 0 < d) (half : 2 * |roundDiv n d * d - n| = d) :
    |n| < |roundDiv n d * d| := by
  obtain ⟨upward, downward⟩ := two_mul_roundDiv_mul_bounds n positive
  obtain negative | nonneg := lt_or_ge n 0
  · have exact_half : roundDiv n d * d = n - |roundDiv n d * d - n| := by
      rcases abs_cases (roundDiv n d * d - n) with ⟨value, _⟩ | ⟨value, _⟩ <;> omega
    rw [abs_of_neg negative, abs_of_neg (by omega)]
    omega
  · have exact_half : roundDiv n d * d = n + |roundDiv n d * d - n| := by
      rcases abs_cases (roundDiv n d * d - n) with ⟨value, _⟩ | ⟨value, _⟩ <;> omega
    rw [abs_of_nonneg nonneg, abs_of_nonneg (by omega)]
    omega

/-- A whole number that bounds the quotient bounds its rounding. -/
theorem roundDiv_le {n d hi : Int} (positive : 0 < d) (bound : n ≤ hi * d) : roundDiv n d ≤ hi := by
  have rounded := two_mul_roundDiv_mul_bounds n positive
  have below_next : roundDiv n d * d < (hi + 1) * d := by
    rw [add_mul]
    omega
  exact Int.lt_add_one_iff.mp (lt_of_mul_lt_mul_right below_next positive.le)

theorem le_roundDiv {n d lo : Int} (positive : 0 < d) (bound : lo * d ≤ n) : lo ≤ roundDiv n d := by
  have rounded := two_mul_roundDiv_mul_bounds n positive
  have above_previous : (lo - 1) * d < roundDiv n d * d := by
    rw [sub_mul]
    omega
  exact Int.sub_one_lt_iff.mp (lt_of_mul_lt_mul_right above_previous positive.le)

theorem roundDiv_zero {d : Int} (positive : 0 < d) : roundDiv 0 d = 0 :=
  le_antisymm (roundDiv_le positive (by simp)) (le_roundDiv positive (by simp))

/-! ## The compression curve (R92) -/

/-- Curve points in strictly rising order of thickness. -/
def Rising (points : List CurvePoint) : Prop := points.Pairwise fun p q => p.t < q.t

theorem Rising.tail {p : CurvePoint} {rest : List CurvePoint} (rising : Rising (p :: rest)) : Rising rest :=
  List.Pairwise.of_cons rising

theorem Rising.head_lt {p q : CurvePoint} {rest : List CurvePoint} (rising : Rising (p :: rest))
    (member : q ∈ rest) : p.t < q.t :=
  List.rel_of_pairwise_cons rising member

theorem Rising.head_le {p q : CurvePoint} {rest : List CurvePoint} (rising : Rising (p :: rest))
    (member : q ∈ p :: rest) : p.t ≤ q.t := by
  rcases List.mem_cons.mp member with rfl | later
  · exact le_rfl
  · exact (rising.head_lt later).le

theorem Article.points_rising {a : Article} (h01 : a.p0.t < a.p1.t) (h12 : a.p1.t < a.p2.t)
    (h23 : a.p2.t < a.p3.t) (h34 : a.p3.t < a.p4.t) (h45 : a.p4.t < a.p5.t) : Rising a.points := by
  simp [Rising, Article.points]
  omega

theorem allowance_of_le_head {p : CurvePoint} {rest : List CurvePoint} {t : Int} (before : t ≤ p.t) :
    allowance (p :: rest) t = p.a := by
  cases rest with
  | nil => rfl
  | cons q rest => rw [allowance, if_pos before]

theorem allowance_of_lt_next {p q : CurvePoint} {rest : List CurvePoint} {t : Int} (after : p.t ≤ t)
    (before : t < q.t) :
    allowance (p :: q :: rest) t = p.a + roundDiv ((q.a - p.a) * (t - p.t)) (q.t - p.t) := by
  obtain at_point | past := after.eq_or_lt
  · rw [allowance_of_le_head at_point.ge, ← at_point, sub_self, mul_zero, roundDiv_zero (by omega), add_zero]
  · rw [allowance, if_neg (by omega), if_pos before]

/-- A segment that the thickness has passed has no part in the allowance. -/
theorem allowance_of_next_le {p q : CurvePoint} {rest : List CurvePoint} {t : Int} (rises : p.t < q.t)
    (passed : q.t ≤ t) : allowance (p :: q :: rest) t = allowance (q :: rest) t := by
  rw [allowance, if_neg (by omega), if_neg (by omega)]

/-- Two neighbours of a rising curve give the allowance of the thicknesses between them. -/
theorem allowance_between_neighbours {points : List CurvePoint} {p q : CurvePoint} {t : Int}
    (rising : Rising points) (neighbours : (p, q) ∈ points.zip points.tail) (after : p.t ≤ t)
    (before : t < q.t) :
    allowance points t = p.a + roundDiv ((q.a - p.a) * (t - p.t)) (q.t - p.t) := by
  induction points with
  | nil => simp at neighbours
  | cons x rest ih =>
    cases rest with
    | nil => simp at neighbours
    | cons y rest =>
      rcases List.mem_cons.mp neighbours with first | later
      · obtain ⟨rfl, rfl⟩ := Prod.mk.inj first
        exact allowance_of_lt_next after before
      · have passed : y.t ≤ t := (rising.tail.head_le (List.of_mem_zip later).1).trans after
        rw [allowance_of_next_le (rising.head_lt List.mem_cons_self) passed]
        exact ih rising.tail later

/-- From the last point of a rising curve on, the allowance is the last point's. -/
theorem allowance_of_last_le {points : List CurvePoint} {last : CurvePoint} {t : Int}
    (rising : Rising (points ++ [last])) (past : last.t ≤ t) : allowance (points ++ [last]) t = last.a := by
  induction points with
  | nil => rfl
  | cons x rest ih =>
    cases rest with
    | nil => exact allowance_of_next_le (rising.head_lt List.mem_cons_self) past
    | cons y rest =>
      have passed : y.t ≤ t := (rising.tail.head_le (q := last) (by simp)).trans past
      exact (allowance_of_next_le (rising.head_lt List.mem_cons_self) passed).trans (ih rising.tail)

/-- Interpolation at a fraction of a segment stays between the ends' allowances. -/
theorem interpolation_mem_Icc {p q : CurvePoint} {t lo hi : Int} (after : p.t ≤ t) (before : t < q.t)
    (first : p.a ∈ Set.Icc lo hi) (second : q.a ∈ Set.Icc lo hi) :
    p.a + roundDiv ((q.a - p.a) * (t - p.t)) (q.t - p.t) ∈ Set.Icc lo hi := by
  obtain ⟨lo_first, first_hi⟩ := first
  obtain ⟨lo_second, second_hi⟩ := second
  have positive : 0 < q.t - p.t := by omega
  have lower : lo - p.a ≤ roundDiv ((q.a - p.a) * (t - p.t)) (q.t - p.t) :=
    le_roundDiv positive <| calc
      (lo - p.a) * (q.t - p.t) ≤ (lo - p.a) * (t - p.t) :=
        mul_le_mul_of_nonpos_left (by omega) (by omega)
      _ ≤ (q.a - p.a) * (t - p.t) := mul_le_mul_of_nonneg_right (by omega) (by omega)
  have upper : roundDiv ((q.a - p.a) * (t - p.t)) (q.t - p.t) ≤ hi - p.a :=
    roundDiv_le positive <| calc
      (q.a - p.a) * (t - p.t) ≤ (hi - p.a) * (t - p.t) :=
        mul_le_mul_of_nonneg_right (by omega) (by omega)
      _ ≤ (hi - p.a) * (q.t - p.t) := mul_le_mul_of_nonneg_left (by omega) (by omega)
  constructor <;> omega

theorem allowance_mem_Icc {points : List CurvePoint} {t lo hi : Int} (nonempty : points ≠ [])
    (within : ∀ p ∈ points, p.a ∈ Set.Icc lo hi) : allowance points t ∈ Set.Icc lo hi := by
  fun_induction allowance points t with
  | case1 => exact absurd rfl nonempty
  | case2 p => exact within p List.mem_cons_self
  | case3 p q rest t before => exact within p List.mem_cons_self
  | case4 p q rest t past before =>
    exact interpolation_mem_Icc (not_le.mp past).le before (within p (by simp)) (within q (by simp))
  | case5 p q rest t _ _ ih =>
    exact ih (List.cons_ne_nil q rest) fun r member => within r (List.mem_cons_of_mem p member)

/-- Settles O32: the two ends, the segments as the neighbours in the list of points, and the range. -/
theorem allowanceIsInterpolatedOnTheCurve : Obligations.AllowanceIsInterpolatedOnTheCurve := by
  intro a t h01 h12 h23 h34 h45
  have rising := Article.points_rising h01 h12 h23 h34 h45
  refine ⟨allowance_of_le_head, allowance_of_last_le (points := [a.p0, a.p1, a.p2, a.p3, a.p4]) rising, ?_,
    fun lo hi within => allowance_mem_Icc (List.cons_ne_nil _ _) within⟩
  intro p q neighbours after before
  have positive : 0 < q.t - p.t := by omega
  exact ⟨_, allowance_between_neighbours rising neighbours after before,
    two_mul_abs_roundDiv_mul_sub_le _ positive, abs_lt_abs_roundDiv_mul positive⟩

/-! ## The grain goal (R93) -/

theorem residual_iff (a : Article) (t : Int) : residual a t = true ↔ t - a.s < a.rmin :=
  decide_eq_true_iff

theorem residual_eq_false_iff (a : Article) (t : Int) : residual a t = false ↔ a.rmin ≤ t - a.s :=
  decide_eq_false_iff_not.trans not_lt

/-- The residual rule takes the lower of S and T − Rmin. -/
theorem grainGoal_eq_min (a : Article) (t : Int) : grainGoal a t = min a.s (t - a.rmin) := by
  unfold grainGoal
  split
  next flagged =>
    rw [residual_iff] at flagged
    omega
  next unflagged =>
    rw [residual_iff] at unflagged
    omega

/-- Settles O33: the goal is the lower of S and T − Rmin, and the flag says which. -/
theorem grainGoalGivesWayToTheResidual : Obligations.GrainGoalGivesWayToTheResidual := by
  intro a t
  rw [residual_iff, residual_eq_false_iff, grainGoal_eq_min]
  refine ⟨fun short => ⟨min_eq_right (by omega), short⟩, fun enough => ⟨min_eq_left (by omega), enough⟩, ?_⟩
  omega

/-! ## The base, the rate limit and the clamp (R95 to R97) -/

theorem slewStep_cast (slew pitch : Nat) :
    (slewStep slew pitch : Int) =
      (if slew * pitch / 100 = 0 then 1 else (slew * pitch / 100 : Nat) : Int) := by
  unfold slewStep
  split <;> rfl

theorem slewStep_pos (slew pitch : Nat) : 0 < slewStep slew pitch := by
  unfold slewStep
  split <;> omega

/-- A zone has a base where its channel holds one with the slice's hide number; a place without a channel
has none. -/
theorem SplitInput.baseFor_eq_some_iff (i : SplitInput) (z : Nat) (gap : Int) :
    i.baseFor z = some gap ↔ ∃ c ∈ i.zones[z]?, ∃ base ∈ c.base, base.hide = i.hide ∧ base.gap = gap := by
  rw [SplitInput.baseFor, SplitInput.channel, List.getD_eq_getElem?_getD]
  cases i.zones[z]? with
  | none => simp [Channel.initial]
  | some c => cases held : c.base <;> simp [held]

theorem rateLimit_some {step : Int} (nonneg : 0 ≤ step) (b g : Int) :
    rateLimit step (some b) g = max (b - step) (min (b + step) g) := by
  simp only [rateLimit]
  split
  · omega
  · split <;> omega

theorem abs_rateLimit_some_sub_le {step : Int} (nonneg : 0 ≤ step) (b g : Int) :
    |rateLimit step (some b) g - b| ≤ step := by
  rw [rateLimit_some nonneg, abs_le]
  omega

theorem clampGap_eq_max_min (v : Int) : clampGap v = max 20 (min 900 v) := by
  unfold clampGap Config.gapFloor Config.gapCeiling
  split
  · omega
  · split <;> omega

/-- Clamping brings a value no further from a value inside the range. -/
theorem abs_clampGap_sub_le {b : Int} (floor : 20 ≤ b) (ceiling : b ≤ 900) (v : Int) :
    |clampGap v - b| ≤ |v - b| := by
  rw [clampGap_eq_max_min]
  rcases abs_cases (v - b) with ⟨value, _⟩ | ⟨value, _⟩ <;> rw [value, abs_le] <;> omega

/-- A delivered result, in the value that the rate limit gives. -/
theorem SplitInput.deliver_eq {i : SplitInput} {z : Nat} {g limited : Int}
    (rateLimited : rateLimit (slewStep i.slew i.pitch) (i.baseFor z) g = limited) (extended res : Bool) :
    i.deliver z g extended res =
      { result :=
          { target := some (clampGap limited)
            flags := { residual := res, floor := decide (limited < 20), ceiling := decide (900 < limited),
                       slewed := decide (limited ≠ g), extended := extended }
            progress := .waiting }
        deviation := (clampGap limited - g).natAbs } := by
  subst rateLimited
  rfl

/-- Settles O34: the result written out in the limited target, and the clamp moves that target no further
from a base inside the range. -/
theorem deliveredTargetKeepsToTheSlewStepAndTheClamp :
    Obligations.DeliveredTargetKeepsToTheSlewStepAndTheClamp := by
  intro i z g extended res step
  have step_eq : (slewStep i.slew i.pitch : Int) = step := slewStep_cast _ _
  have step_pos : 1 ≤ step := step_eq ▸ Int.ofNat_lt.mpr (slewStep_pos _ _)
  have step_nonneg : 0 ≤ step := by omega
  refine ⟨i.baseFor_eq_some_iff z, ?_⟩
  intro limited
  have rateLimited : rateLimit step (i.baseFor z) g = limited := by
    unfold limited
    cases i.baseFor z with
    | none => rfl
    | some b => exact rateLimit_some step_nonneg b g
  have near_base : ∀ b ∈ i.baseFor z, |limited - b| ≤ step := by
    intro b held
    rw [← rateLimited, Option.mem_def.mp held]
    exact abs_rateLimit_some_sub_le step_nonneg b g
  rw [i.deliver_eq (step_eq ▸ rateLimited)]
  have clamped := clampGap_eq_max_min limited
  refine ⟨clampGap limited, rfl, by omega, by omega, by omega, by omega, by omega,
    Int.natCast_natAbs _, rfl, rfl, step_pos, ?_⟩
  exact fun b held floor ceiling => (abs_clampGap_sub_le floor ceiling limited).trans (near_base b held)

end Sys2Proof.Machine

/-! PROOFS. The front of the queue, the periods of FEED REF (R18 to R20), and the state right after reset. -/

namespace Sys2Proof.Machine

/-- Settles O1: the front of the queue decides. -/
theorem stepTakesTheFrontCommand : Obligations.StepTakesTheFrontCommand := by
  intro c rest s waiting
  simp [step, waiting]

/-- Settles O43: the new period latches c, and the high part ends at c, or not where c is the whole period. -/
theorem feedReferenceFollowsTheEffectiveCount : Obligations.FeedReferenceFollowsTheEffectiveCount := by
  intro s c
  have gate : (if gateClosed s then 0 else s.feed.effective) = c := by
    simp [c, gateClosed, Feed.effective, effectiveCount]
  refine ⟨⟨max s.now s.feed.ref.periodEnd, ?_, Nat.le_max_left _ _, Nat.le_max_right _ _⟩, ?_, ?_⟩
  · rw [← gate]; rfl
  · intro high short
    simp [exec, execFeedRefHighEnd, endHigh, high, short, advanceTo]
  · intro whole
    simp [exec, execFeedRefHighEnd, endHigh, whole]

theorem reset_settingsSound : SettingsSound State.reset := by
  unfold SettingsSound OffsetsOk
  decide +kernel

theorem reset_channelsSound : ChannelsSound State.reset := by
  unfold ChannelsSound ChannelSound
  decide +kernel

theorem reset_trackSound : TrackSound State.reset := by
  unfold TrackSound StrobeBaseSound InNumbering
  decide +kernel

theorem reset_outstandingSound : OutstandingSound State.reset := by
  have empty : State.reset.intake.list = [] := rfl
  simp only [OutstandingSound, empty, Consecutive]
  decide

/-- Settles O15: one finite check for each respect. -/
theorem resetStateIsSound : Obligations.ResetStateIsSound := by
  refine ⟨by unfold FeedGateAgrees; decide, reset_settingsSound, by unfold FeedCountsSound; decide,
    reset_outstandingSound, ?_, ?_, reset_trackSound, ?_, reset_channelsSound, ?_, ?_, ?_, ?_⟩
  · unfold HideTableSound; decide
  · unfold GapsBounded TargetOk GapOk; decide
  · unfold PendingKnifeSound; decide
  · unfold LinkNeverIdles; decide +kernel
  · unfold RestEmpty; decide
  · unfold HaltStill; decide
  · unfold FixedQuiet; decide

end Sys2Proof.Machine

/-! PROOFS. The frames on the wires: words and their bytes (R190), the frames of the drives (R196, R197) and
the request frames of the two ports, whole and damaged (R190 to R194). -/

namespace Sys2Proof.Machine

/-! ## Words and their bytes (R190) -/

@[simp] theorem w16_extract (w : BitVec 16) : w16 (w.extractLsb' 8 8) (w.extractLsb' 0 8) = w := by
  have joined := BitVec.extractLsb'_append_extractLsb'_eq_extractLsb' (x := w) (start₁ := 0) (len₁ := 8)
    (start₂ := 8) (len₂ := 8) rfl
  simpa [w16] using joined

@[simp] theorem w24_extract (w : BitVec 24) :
    w24 (w.extractLsb' 16 8) (w.extractLsb' 8 8) (w.extractLsb' 0 8) = w := by
  have high := BitVec.extractLsb'_append_extractLsb'_eq_extractLsb' (x := w) (start₁ := 8) (len₁ := 8)
    (start₂ := 16) (len₂ := 8) rfl
  have whole := BitVec.extractLsb'_append_extractLsb'_eq_extractLsb' (x := w) (start₁ := 0) (len₁ := 8)
    (start₂ := 8) (len₂ := 16) rfl
  simp only [w24, high, whole, BitVec.extractLsb'_eq_self]

theorem words16_flatMap_be16 (ws : List (BitVec 16)) : words16 (ws.flatMap be16) = some ws := by
  induction ws with
  | nil => rfl
  | cons w ws ih =>
    rw [List.flatMap_cons]
    change (words16 (ws.flatMap be16)).map (w16 (w.extractLsb' 8 8) (w.extractLsb' 0 8) :: ·) = _
    simp [ih]

theorem fitsUnsigned_toNat {bits n : Nat} (fits : fitsUnsigned bits n = true) :
    (BitVec.ofNat bits n).toNat = n := by
  rw [BitVec.toNat_ofNat, Nat.mod_eq_of_lt (of_decide_eq_true fits)]

theorem fitsSigned_toInt {i : Int} (fits : fitsSigned i = true) : (BitVec.ofInt 16 i).toInt = i := by
  obtain ⟨low, high⟩ := of_decide_eq_true fits
  rw [BitVec.toInt_ofInt, Int.bmod_def]
  omega

/-! ## The frames of the drives (R196, R197) -/

theorem driveFrames_append_of_no_start (noise rest : List (Option Byte)) (clean : some driveStart ∉ noise) :
    driveFrames (noise ++ rest) = driveFrames rest := by
  induction noise with
  | nil => rfl
  | cons b noise ih =>
    simp only [List.mem_cons, not_or] at clean
    obtain ⟨other, clean⟩ := clean
    cases b with
    | none => simpa [driveFrames] using ih clean
    | some b =>
      have : b ≠ driveStart := fun h => other (by rw [h])
      rw [List.cons_append, driveFrames.eq_def]
      simpa [this] using ih clean

theorem driveFrames_accept (zone flags : Byte) (rest : List (Option Byte)) :
    driveFrames (((driveStart :: ([zone, 0x81, flags] ++ be16 (crc16 [zone, 0x81, flags]))).map some) ++ rest) =
      .accept zone flags :: driveFrames rest := by
  simp [driveFrames, be16, driveCrc]

theorem driveFrames_status (zone flags : Byte) (position : BitVec 16) (rest : List (Option Byte)) :
    driveFrames (((driveStart :: (([zone, 0x82] ++ be16 position ++ [flags])
          ++ be16 (crc16 ([zone, 0x82] ++ be16 position ++ [flags])))).map some) ++ rest) =
      .status zone position flags :: driveFrames rest := by
  simp [driveFrames, be16, driveCrc]

/-- Settles O5: bytes that are no start byte are passed over, and each of the two frames is read whole. -/
theorem driveFramesAreReadBack : Obligations.DriveFramesAreReadBack := by
  intro zone flags position noise rest clean
  constructor
  · rw [List.append_assoc, driveFrames_append_of_no_start noise _ clean]
    exact driveFrames_accept zone flags rest
  · rw [List.append_assoc, driveFrames_append_of_no_start noise _ clean]
    exact driveFrames_status zone flags position rest

/-! ## The envelope of a request (R190, R191) -/

theorem afterStart_append_start (before rest : List Byte) (clean : requestStart ∉ before) :
    afterStart (before ++ requestStart :: rest) = some rest := by
  induction before with
  | nil => simp [afterStart]
  | cons b before ih =>
    simp only [List.mem_cons, not_or] at clean
    simp [afterStart, Ne.symm clean.1, ih clean.2]

/-- The bytes that a frame puts behind its kind: the length, the payload, and two bytes at the place of the
CRC. -/
def behindKind (payload crc : List Byte) : List Byte := nat16 payload.length ++ payload ++ crc

theorem frameBytes_eq (kind : Byte) (payload : List Byte) : frameBytes requestStart kind payload =
    requestStart :: kind :: behindKind payload (be16 (crc16 (kind :: (nat16 payload.length ++ payload)))) := by
  simp [frameBytes, behindKind]

/-- The examination of what stands behind a kind byte, once its length field has been read. -/
def judge (port : PortName) (kind : Byte) (payload : List Byte) (crcOk : Bool) : Verdict :=
  if port.takes kind then
    match port.parse kind payload with
    | none => .badFrame kind
    | some i => if crcOk then .request i else .badFrame kind
  else if crcOk then .unknownKind kind else .badFrame kind

theorem judge_false (port : PortName) (kind : Byte) (payload : List Byte) :
    judge port kind payload false = .badFrame kind := by
  unfold judge
  split
  · split <;> rfl
  · rfl

theorem check_behindKind (port : PortName) (kind : Byte) (payload : List Byte) (x y : Byte) (after : List Byte)
    (short : payload.length < 65536) :
    port.check kind (behindKind payload [x, y] ++ after) =
      judge port kind payload (decide (be16 (crc16 (kind :: (nat16 payload.length ++ payload))) = [x, y])) := by
  have length : (w16 ((BitVec.ofNat 16 payload.length).extractLsb' 8 8)
      ((BitVec.ofNat 16 payload.length).extractLsb' 0 8)).toNat = payload.length := by
    rw [w16_extract, BitVec.toNat_ofNat, Nat.mod_eq_of_lt short]
  simp only [behindKind, nat16, be16, List.cons_append, List.nil_append, List.append_assoc, PortName.check,
    length, List.length_append, List.length_cons, List.take_left', List.drop_left', List.take_succ_cons,
    List.take_zero, judge]
  rw [if_neg (by simp)]
  rfl

/-- A frame that ends before its extent does is a bad frame, whatever the port. -/
theorem check_cut (port : PortName) (kind : Byte) (payload crc : List Byte) (k : Nat)
    (short : payload.length < 65536) (cut : k < payload.length + 4) :
    port.check kind ((behindKind payload crc).take k) = .badFrame kind := by
  have length : (w16 ((BitVec.ofNat 16 payload.length).extractLsb' 8 8)
      ((BitVec.ofNat 16 payload.length).extractLsb' 0 8)).toNat = payload.length := by
    rw [w16_extract, BitVec.toNat_ofNat, Nat.mod_eq_of_lt short]
  match k with
  | 0 => rfl
  | 1 => rfl
  | k + 2 =>
    have less : min k (payload.length + crc.length) < payload.length + 2 := by omega
    simp only [behindKind, nat16, be16, List.cons_append, List.nil_append, List.take_succ_cons, PortName.check,
      length, List.length_take, List.length_append, if_pos less]

theorem frameExtent_frame (before after payload : List Byte) (kind x y : Byte) (clean : requestStart ∉ before)
    (short : payload.length < 65536) :
    frameExtent (before ++ (requestStart :: kind :: (behindKind payload [x, y] ++ after))) =
      requestStart :: kind :: behindKind payload [x, y] := by
  have count : 5 + payload.length % 65536 = (payload.length + 2) + 3 := by
    rw [Nat.mod_eq_of_lt short]; omega
  unfold frameExtent
  rw [afterStart_append_start before _ clean]
  simp [behindKind, nat16, be16, count, List.take_append]

/-! ## The payloads (R194) -/

theorem parseSlice_payload (n : Num) (rs : List (BitVec 16)) (short : rs.length ≤ 16) :
    parseSlice (Instr.slice n rs).payload = some (.slice n rs) := by
  have count : (BitVec.ofNat 8 rs.length).toNat = rs.length := by
    rw [BitVec.toNat_ofNat, Nat.mod_eq_of_lt (by omega)]
  simp [Instr.payload, be16, nat8, parseSlice, count, words16_flatMap_be16, Nat.not_lt.mpr short]

theorem words16_articleBytes (a : Article) : words16 a.bytes = some
    ([a.s, a.rmin, a.p0.t, a.p1.t, a.p2.t, a.p3.t, a.p4.t, a.p5.t, a.p0.a, a.p1.a, a.p2.a, a.p3.a, a.p4.a,
      a.p5.a].map (BitVec.ofInt 16)) := by
  rw [← words16_flatMap_be16]; rfl

theorem articleOfWords_words {a : Article} (fits : a.fits = true) : articleOfWords
    ([a.s, a.rmin, a.p0.t, a.p1.t, a.p2.t, a.p3.t, a.p4.t, a.p5.t, a.p0.a, a.p1.a, a.p2.a, a.p3.a, a.p4.a,
      a.p5.a].map (BitVec.ofInt 16)) = some a := by
  simp only [Article.fits, Article.points, List.all_cons, List.all_nil, Bool.and_eq_true] at fits
  simp only [List.map_cons, List.map_nil, articleOfWords, fitsSigned_toInt, fits]

theorem words16_items (g : Geometry) : words16 (g.items.flatMap nat16) = some (g.items.map (BitVec.ofNat 16)) := by
  rw [← words16_flatMap_be16, List.flatMap_map]; rfl

theorem geometryOfWords_items {g : Geometry} (fits : g.fits = true) :
    geometryOfWords (g.items.map (BitVec.ofNat 16)) = some g := by
  simp only [Geometry.fits, Geometry.items, List.all_cons, List.all_nil, Bool.and_eq_true] at fits
  simp only [Geometry.items, List.map_cons, List.map_nil, geometryOfWords, fitsUnsigned_toNat, fits]

theorem words16_offsets (offsets : List Int) :
    words16 (offsets.flatMap int16) = some (offsets.map (BitVec.ofInt 16)) := by
  rw [← words16_flatMap_be16, List.flatMap_map]; rfl

theorem map_toInt_offsets {offsets : List Int} (fits : offsets.all fitsSigned = true) :
    (offsets.map (BitVec.ofInt 16)).map BitVec.toInt = offsets := by
  rw [List.map_map]
  exact (List.map_congr_left fun i held => fitsSigned_toInt (List.all_eq_true.mp fits i held)).trans (List.map_id _)

/-- A port reads the payload of a request of its own kinds back as that request. -/
theorem parse_payload (c : Instr) (k : Byte) (port : PortName) (spelled : c.wellFormed = true)
    (short : ∀ n rs, c = .slice n rs → rs.length ≤ 16) (kind : c.kindCode = some k) (taken : port.takes k = true) :
    port.parse k c.payload = some c := by
  cases c with
  | slice n rs =>
    obtain rfl := Option.some.inj kind
    cases port with
    | gauge => exact parseSlice_payload n rs (short n rs rfl)
    | line => exact absurd taken (by decide)
  | clearGaugeNotices named mask =>
    obtain rfl := Option.some.inj kind
    cases port with
    | gauge => cases mask <;> rfl
    | line => exact absurd taken (by decide)
  | clearNotices named mask =>
    obtain rfl := Option.some.inj kind
    cases port with
    | gauge => exact absurd taken (by decide)
    | line => cases mask <;> simp [PortName.parse, parseLineHigh, Instr.payload, be24]
  | zoneMove zone target =>
    obtain rfl := Option.some.inj kind
    obtain ⟨fits_zone, fits_target⟩ := Bool.and_eq_true_iff.mp spelled
    have zone_lt : zone < 256 := of_decide_eq_true fits_zone
    cases port with
    | gauge => exact absurd taken (by decide)
    | line => simp [PortName.parse, parseLineLow, Instr.payload, nat8, int16, be16, fitsSigned_toInt fits_target,
        zone_lt]
  | writeArticle row a =>
    obtain rfl := Option.some.inj kind
    obtain ⟨fits_row, fits_article⟩ := Bool.and_eq_true_iff.mp spelled
    have row_lt : row < 256 := of_decide_eq_true fits_row
    cases port with
    | gauge => exact absurd taken (by decide)
    | line => simp [PortName.parse, parseLineHigh, Instr.payload, nat8, words16_articleBytes,
        articleOfWords_words fits_article, row_lt, -List.map_cons]
  | writeKnife offsets =>
    obtain rfl := Option.some.inj kind
    obtain ⟨count, fits⟩ := Bool.and_eq_true_iff.mp spelled
    cases port with
    | gauge => exact absurd taken (by decide)
    | line => simp [PortName.parse, parseLineHigh, Instr.payload, words16_offsets, map_toInt_offsets fits,
        show offsets.length = 16 from of_decide_eq_true count, -List.map_map]
  | setGeometry g =>
    obtain rfl := Option.some.inj kind
    cases port with
    | gauge => exact absurd taken (by decide)
    | line => simp [PortName.parse, parseLineHigh, Instr.payload, words16_items, geometryOfWords_items spelled]
  | _ =>
    first
    | (cases kind; done)
    | obtain rfl := Option.some.inj kind
      cases port
      · first
        | exact absurd taken (by decide)
        | simp [PortName.parse, parseGauge, Instr.payload, parseWord, parseEmpty, be16]
      · first
        | exact absurd taken (by decide)
        | simp [PortName.parse, parseLineLow, parseLineHigh, Instr.payload, parseByte, parseWord, parseEmpty, nat8,
            nat16, be16] <;> simpa [Instr.wellFormed, fitsUnsigned] using spelled

theorem payload_length_lt (c : Instr) (spelled : c.wellFormed = true)
    (short : ∀ n rs, c = .slice n rs → rs.length ≤ 16) : c.payload.length < 65536 := by
  cases c with
  | slice n rs =>
    have := short n rs rfl
    simp [Instr.payload, be16, nat8]
    omega
  | clearGaugeNotices named mask => cases mask <;> simp [Instr.payload]
  | clearNotices named mask => cases mask <;> simp [Instr.payload, be24]
  | writeKnife offsets =>
    have := of_decide_eq_true (Bool.and_eq_true_iff.mp spelled).1
    simp [Instr.payload, int16, be16, this, Config.zones]
  | writeArticle row a => simp [Instr.payload, Article.bytes, Article.points, CurvePoint.thicknessBytes,
      CurvePoint.allowanceBytes, nat8, int16, be16]
  | setGeometry g => simp [Instr.payload, Geometry.items, nat16, be16]
  | _ => simp [Instr.payload, nat8, nat16, int16, be16]

/-- The frame of a request, its CRC the one that its bytes give. -/
theorem frame_eq {c : Instr} {k : Byte} {frame : List Byte} (kind : c.kindCode = some k) (framed : c.frame = some frame) :
    frame = requestStart :: k :: behindKind c.payload (be16 (crc16 (k :: (nat16 c.payload.length ++ c.payload)))) := by
  rw [Instr.frame, kind] at framed
  rw [← frameBytes_eq]
  exact (Option.some.inj framed).symm

/-- Settles O3: the checks of length and CRC pass, and the payload is read back at the port that takes the kind. -/
theorem requestFramesAreReadBack : Obligations.RequestFramesAreReadBack := by
  intro c k frame before after port spelled short kind framed clean
  have length := payload_length_lt c spelled short
  rw [frame_eq kind framed]
  generalize crc_eq : crc16 (k :: (nat16 c.payload.length ++ c.payload)) = crc
  simp only [be16, List.append_assoc, List.cons_append]
  refine ⟨?_, frameExtent_frame before after c.payload k _ _ clean length⟩
  rw [PortName.examine, afterStart_append_start before _ clean]
  simp only [check_behindKind port k c.payload _ _ after length, crc_eq, be16, judge]
  by_cases taken : port.takes k = true
  · simp [taken, parse_payload c k port spelled short kind taken]
  · simp [taken]

/-- Settles O4: a cut frame ends before its extent, and an altered CRC is not the one that the bytes give. -/
theorem damagedFramesAreBad : Obligations.DamagedFramesAreBad := by
  intro c k frame port spelled short kind framed
  have length := payload_length_lt c spelled short
  rw [frame_eq kind framed]
  generalize crc_eq : crc16 (k :: (nat16 c.payload.length ++ c.payload)) = crc
  have size : (behindKind c.payload (be16 crc)).length = c.payload.length + 4 := by
    simp [behindKind, nat16, be16]
  refine ⟨by simp [PortName.examine, afterStart], ?_, ?_⟩
  · intro n behind cut
    obtain ⟨m, rfl⟩ : ∃ m, n = m + 2 := ⟨n - 2, by omega⟩
    simp only [List.length_cons, size] at cut
    simpa [PortName.examine, afterStart] using check_cut port k c.payload (be16 crc) m length (by omega)
  · intro x y altered
    have head : behindKind c.payload (be16 crc) = (nat16 c.payload.length ++ c.payload) ++ be16 crc := rfl
    have place : (requestStart :: k :: behindKind c.payload (be16 crc)).length - 2 =
        (nat16 c.payload.length ++ c.payload).length + 2 := by
      rw [List.length_cons, List.length_cons, size]
      simp [nat16, be16]
    have front : (requestStart :: k :: ((nat16 c.payload.length ++ c.payload) ++ be16 crc)).take
        ((nat16 c.payload.length ++ c.payload).length + 2) =
        requestStart :: k :: (nat16 c.payload.length ++ c.payload) := by
      rw [List.take_succ_cons, List.take_succ_cons, List.take_left]
    have other : be16 crc ≠ [x, y] := by
      intro same
      rw [place, head] at altered
      simp [same] at altered
    have bad := check_behindKind port k c.payload x y [] length
    rw [crc_eq, decide_eq_false other, judge_false, List.append_nil, behindKind] at bad
    rw [place, head, front]
    simpa [PortName.examine, afterStart] using bad

end Sys2Proof.Machine

/-! PROOFS. What a command is made of: the elementary changes of the state, each with what holds where it is
made, and the commands and their parts as trails of such changes. Rules over all commands follow by looking at
each elementary change once. -/

namespace Sys2Proof.Machine

/-! ## The elementary changes -/

/-- How far a hide has come: before its first conversion, converting, finished. -/
def HideState.age : HideState → Nat
  | .scanning => 0
  | .scanned => 0
  | .scanSplit => 1
  | .splitting => 1
  | .done => 2
  | .abandoned => 2

theorem HideState.converting_iff_age (h : HideState) : h.converting = true ↔ h.age = 1 := by
  cases h <;> decide

theorem HideState.unfinished_iff_age (h : HideState) : h.unfinished = true ↔ h.age < 2 := by
  cases h <;> decide

/-- No two records in use carry one number (R46). -/
def DistinctNumbers (s : State) : Prop := (s.hides.records.map HideRecord.number).Nodup

/-- What a change may make of a record: its number stands and it grows no younger; from the first conversion on
its snapshot stands (R57), a finished one without a slice in the track reports the same (R65), and a slip once
flagged stays flagged (R66). -/
structure RecordStep (s : State) (r r' : HideRecord) : Prop where
  number : r'.number = r.number
  age : r.state.age ≤ r'.state.age
  snapshot : DistinctNumbers s → 0 < r.state.age → r'.article = r.article ∧ r'.row = r.row
  report : DistinctNumbers s → r.state.unfinished = false → (∀ sl ∈ s.track.slices, sl.hide ≠ r.number) →
    ∀ active, hideReport active r' = hideReport active r
  slip : r.flags.slip = true → r'.flags.slip = true

theorem RecordStep.refl (s : State) (r : HideRecord) : RecordStep s r r :=
  ⟨rfl, le_rfl, fun _ _ => ⟨rfl, rfl⟩, fun _ _ _ _ => rfl, id⟩

/-- What a change may make of the hide table and the track: every record goes one step, a slice stands in
the track only where one of its hide stood there before or its hide is not finished (R34), and the table stays
sound. -/
structure TableStep (s : State) (h : HideTable) (tr : Track) : Prop where
  records : List.Forall₂ (RecordStep s) s.hides.records h.records
  completion : s.hides.records = [] → h.completion = s.hides.completion
  nextNumber : h.nextNumber = s.hides.nextNumber
  slices : ∀ sl ∈ tr.slices, (∃ x ∈ s.track.slices, x.hide = sl.hide) ∨
    ∃ r ∈ s.hides.records, r.number = sl.hide ∧ r.state.unfinished = true
  pending : tr.pendingKnife = s.track.pendingKnife
  sound : HideTableSound s → HideTableSound { s with hides := h }

/-- What a setting request may make of the settings other than the knife profile and the scale: only its own
setting changes, the geometry not while the lock is set, and every value stays in its range. -/
structure SettingStep (c : Instr) (s : State) (x : Settings) : Prop where
  knife : x.knife = s.settings.knife
  scale : x.scale = s.settings.scale
  lock : s.settings.locked = true → x.locked = true ∧ x.geometry = s.settings.geometry
  articles : (∀ row a, c ≠ .writeArticle row a) → x.articles = s.settings.articles
  current : (∀ row, c ≠ .selectArticle row) → x.current = s.settings.current
  geometry : (∀ g, c ≠ .setGeometry g) → x.geometry = s.settings.geometry
  dwellTime : (∀ v, c ≠ .setDwell v) → x.dwellTime = s.settings.dwellTime
  locked : c ≠ .lockGeometry → x.locked = s.settings.locked
  sound : SettingsSound s → SettingsSound { s with settings := x }

/-- What a change may make of the feed unit's values apart from FEED REF and SCAN STROBE: the counts stay in
their ranges. -/
structure FeedStep (s : State) (f : Feed) : Prop where
  ref : f.ref = s.feed.ref
  pulses : f.strobePulses = s.feed.strobePulses
  counts : FeedCountsSound s → FeedCountsSound { s with feed := f }

/-- Nothing is outstanding, in the track or unfinished. -/
def Emptied (s : State) : Prop := s.intake.list = [] ∧ s.track.slices = [] ∧ anyUnfinished s = false

/-- The command is a pulse of the bottom encoder. -/
def isBottomPulse : Instr → Bool
  | .bottomPulse _ _ _ => true
  | _ => false

/-- The commands that move strobes, slices or hides on, beyond the emptying that HALT and PARK bring. -/
def moves : Instr → Bool
  | .bottomPulse _ _ _ | .slice _ _ | .announce _ _ | .endHide _ | .gaugeReset | .abandon _ | .release _
  | .setGeometry _ | .setScale _ => true
  | _ => false

theorem moves_of_pulse {c : Instr} (pulse : isBottomPulse c = true) : moves c = true := by
  unfold isBottomPulse at pulse
  split at pulse
  · rfl
  · exact absurd pulse (by decide)

/-- What places a slice: its strobe, its hide, and whether it is converted. -/
def Slice.key (sl : Slice) : Num × Pos × Num × Stage := (sl.strobe, sl.pos, sl.hide, sl.stage)

/-- What places a hide: its number and state, its first strobe and its slices in the track. -/
def HideRecord.key (r : HideRecord) : Num × HideState × StrobeId × Nat := (r.number, r.state, r.first, r.inTrack)

/-- What the strobes are numbered and placed by. -/
def Feed.base (f : Feed) : Pos × Pos × Sync × Num × Pos × Option StrobeId :=
  (f.f, f.h, f.sync, f.nextNum, f.nextPos, f.newest)

/-- A change of the hide table and the track leaves every slice and every hide in its place, or empties the track
and abandons the hides. -/
def PlacesKept (s : State) (h : HideTable) (tr : Track) : Prop :=
  (tr.slices.map Slice.key = s.track.slices.map Slice.key ∧
    h.records.map HideRecord.key = s.hides.records.map HideRecord.key) ∨
  (tr.slices = [] ∧ ∃ cause, h.records = s.hides.records.map (HideRecord.emptied cause))

/-- The elementary changes of a command's event, but for those of the two resets. -/
inductive Change (c : Instr) (s : State) : State → Prop
  /-- a port, its buffers and its counters -/
  | port (i : Intake) (l : LinePort) (list : i.list = s.intake.list) (gauge : i.notices = s.intake.notices)
      (gaugeMask : i.mask = s.intake.mask) (line : l.notices = s.line.notices) (lineMask : l.mask = s.line.mask) :
      Change c s { s with intake := i, line := l }
  | lineNotice (n : LineNotice) : Change c s (raiseLine n s)
  | gaugeNotice (n : GaugeNotice) : Change c s (raiseGauge n s)
  | time (n : Nat) (later : s.now ≤ n) : Change c s { s with now := n }
  | feed (f : Feed) (step : FeedStep s f) (kept : f.base = s.feed.base ∨ moves c = true) :
      Change c s { s with feed := f }
  | period : Change c s (startPeriod s)
  | refLow : Change c s { s with feed := { s.feed with ref := { s.feed.ref with high := false } } }
  | haltLevel (b : Bool) : Change c s (applyGate { s with pins := { s.pins with halt := b } })
  | stillLevel (b : Bool) : Change c s { s with pins := { s.pins with feedStill := b } }
  | dwell (d : DwellTimer) : Change c s { s with ctl := { s.ctl with dwell := d } }
  | wakeFlag (w : WakeFlag) : Change c s { s with ctl := { s.ctl with flags := s.ctl.flags ||| w.bit } }
  | enables (e : BitVec 4) : Change c s { s with ctl := { s.ctl with enables := e } }
  | restTarget (r : RestTarget) : Change c s { s with ctl := { s.ctl with restTarget := r } }
  /-- a transition: out of the states that issue strobes only with nothing left in the machine, and at a pulse of
  the bottom encoder only from such a state -/
  | phase (p : Phase) (empty : p.permitsStrobes = false → s.ctl.phase.permitsStrobes = true → Emptied s)
      (pulse : isBottomPulse c = true → s.ctl.phase.permitsStrobes = true) : Change c s (enterPhase p s)
  /-- the channels and the link; a zone comes to TRACK in PROFILE alone -/
  | zones (zs : List Channel) (l : Link)
      (track : ∀ x ∈ zs, x.mode = .track → s.ctl.strap = .profile ∨ ∃ y ∈ s.zones, y.mode = .track) :
      Change c s { s with zones := zs, link := l }
  /-- the outstanding list, where no strobe joins it; a reply comes to it in PROFILE alone -/
  | list (l : List Entry) (fewer : s.intake.list = [] → l = [])
      (reply : ∀ e ∈ l, e.reply ≠ none → s.ctl.strap = .profile ∨ ∃ d ∈ s.intake.list, d.reply ≠ none)
      (kept : l = [] ∨ moves c = true) : Change c s { s with intake := { s.intake with list := l } }
  | join (num : Num) (pos : Pos) (permitted : s.ctl.phase.permitsStrobes = true) (moving : moves c = true) :
      Change c s { s with intake := { s.intake with list := s.intake.list ++ [{ num := num, pos := pos, reply := none }] } }
  /-- a pulse on SCAN STROBE -/
  | strobe (newest : Option StrobeId) (num : Num) (pos : Pos) (pulse : isBottomPulse c = true)
      (permitted : s.ctl.phase.permitsStrobes = true) :
      Change c s { s with feed := { s.feed with
        newest := newest, nextNum := num, nextPos := pos, strobePulses := s.feed.strobePulses + 1 } }
  | table (h : HideTable) (tr : Track) (step : TableStep s h tr)
      (converting : anyConverting s = true → h.records.any (fun r => r.state.converting) = true)
      (kept : PlacesKept s h tr ∨ moves c = true) : Change c s { s with hides := h, track := tr }
  /-- a change of the table that may take the last hide out of SCAN_SPLIT and SPLITTING (R84) -/
  | finish (h : HideTable) (tr : Track) (step : TableStep s h tr) (kept : PlacesKept s h tr ∨ moves c = true) :
      Change c s (applyPending { s with hides := h, track := tr })
  | clearWake (named : Byte) (own : c = .clearWake named) (flags : BitVec 4) :
      Change c s { s with ctl := { s.ctl with flags := flags } }
  | clearNotices (named : BitVec 24) (mask : Option (BitVec 24)) (own : c = .clearNotices named mask) :
      Change c s (clearNotices named mask s)
  | clearGaugeNotices (named : Byte) (mask : Option Byte) (own : c = .clearGaugeNotices named mask) :
      Change c s (clearGaugeNotices named mask s)
  | setting (x : Settings) (step : SettingStep c s x) : Change c s { s with settings := x }
  | scale (v : Nat) (own : c = .setScale v) (unlocked : s.settings.locked = false) (low : 10 ≤ v) (high : v ≤ 4000) :
      Change c s { s with
        settings := { s.settings with scale := v }, feed := { s.feed with botAcc := 0, topAcc := 0 } }
  | knife (offsets : List Int) (own : c = .writeKnife offsets) (inRange : knifeFailing offsets = none) :
      Change c s (takeKnife offsets s)
  /-- a record leaves the table, and what is left of the lists behind it -/
  | drop (n : Num) (h : HideTable) (own : c = .release n ∨ ∃ f tag, c = .announce f tag)
      (records : h.records = s.hides.records.filter (·.number ≠ n)) (completion : h.completion ⊆ s.hides.completion)
      (nextNumber : h.nextNumber = s.hides.nextNumber)
      (sound : HideTableSound s → HideTableSound { s with hides := h }) : Change c s { s with hides := h }
  /-- a record joins the table -/
  | fill (r : HideRecord) (n : Num) (own : ∃ f tag, c = .announce f tag) (profile : s.ctl.strap = .profile)
      (permitted : s.ctl.phase.permitsStrobes = true) (number : r.number = s.hides.nextNumber)
      (state : r.state = .scanning) :
      Change c s { s with hides := { s.hides with records := s.hides.records ++ [r], nextNumber := n } }

/-- A trail of elementary changes. -/
abbrev Trail (c : Instr) : State → State → Prop := Relation.ReflTransGen (Change c)

theorem Trail.refl {c : Instr} {s : State} : Trail c s s := Relation.ReflTransGen.refl

theorem Change.trail {c : Instr} {s t : State} (h : Change c s t) : Trail c s t := Relation.ReflTransGen.single h

/-- What every change keeps, a trail keeps. -/
theorem Trail.keeps {c : Instr} {P : State → Prop} (each : ∀ s t, Change c s t → P s → P t) {s t : State}
    (path : Trail c s t) (holds : P s) : P t := by
  induction path with
  | refl => exact holds
  | tail _ last ih => exact each _ _ last ih

/-- A relation that holds over every change, and is reflexive and transitive, holds over a trail. -/
theorem Trail.relates {c : Instr} {R : State → State → Prop} (refl : ∀ s, R s s)
    (trans : ∀ s t u, R s t → R t u → R s u) (each : ∀ s t, Change c s t → R s t) {s t : State}
    (path : Trail c s t) : R s t := by
  induction path with
  | refl => exact refl s
  | tail _ last ih => exact trans _ _ _ ih (each _ _ last)

end Sys2Proof.Machine

/-! PROOFS. The soundness of the hide table (R46, R49, R62) as the operations on it need it. -/

namespace Sys2Proof.Machine

variable {s t : State} {n : Num}

/-! ## The completion order list holds the finished records -/

theorem mem_finishedNumbers : n ∈ finishedNumbers s ↔
    ∃ r ∈ s.hides.records, r.number = n ∧ r.state.unfinished = false := by
  simp only [finishedNumbers, List.mem_map, List.mem_filter, Bool.not_eq_true', and_assoc]
  exact exists_congr fun r => and_congr_right fun _ => and_comm

theorem nodup_finishedNumbers (distinct : DistinctNumbers s) : (finishedNumbers s).Nodup :=
  distinct.sublist (List.filter_sublist.map _)

/-- With distinct numbers the list holds each finished record once just where it has no number twice and has the
numbers of the finished records. -/
theorem completion_perm_iff (distinct : DistinctNumbers s) : s.hides.completion.Perm (finishedNumbers s) ↔
    s.hides.completion.Nodup ∧ ∀ n, n ∈ s.hides.completion ↔
      ∃ r ∈ s.hides.records, r.number = n ∧ r.state.unfinished = false := by
  constructor
  · intro perm
    exact ⟨perm.nodup_iff.mpr (nodup_finishedNumbers distinct), fun n => perm.mem_iff.trans mem_finishedNumbers⟩
  · rintro ⟨nodup, mem⟩
    rw [List.perm_ext_iff_of_nodup nodup (nodup_finishedNumbers distinct)]
    exact fun n => (mem n).trans mem_finishedNumbers.symm

theorem HideTableSound.of (sound : HideTableSound s) (hides : t.hides = s.hides) : HideTableSound t := by
  unfold HideTableSound finishedNumbers at sound ⊢
  rwa [hides]

theorem HideTableSound.distinct (sound : HideTableSound s) : DistinctNumbers s := sound.2.1

theorem HideTableSound.fresh (sound : HideTableSound s) : ∀ r ∈ s.hides.records, r.number ≠ s.hides.nextNumber :=
  fun r held => (sound.2.2.1 r held).2

theorem HideTableSound.nodup_completion (sound : HideTableSound s) : s.hides.completion.Nodup := by
  obtain ⟨_, distinct, _, _, _, perm, _⟩ := sound
  exact ((completion_perm_iff distinct).mp perm).1

theorem HideTableSound.mem_completion (sound : HideTableSound s) : n ∈ s.hides.completion ↔
    ∃ r ∈ s.hides.records, r.number = n ∧ r.state.unfinished = false := by
  obtain ⟨_, distinct, _, _, _, perm, _⟩ := sound
  exact ((completion_perm_iff distinct).mp perm).2 n

/-- The record of a number on the completion order list is finished. -/
theorem HideTableSound.finished_of_mem (sound : HideTableSound s) (listed : n ∈ s.hides.completion) {r : HideRecord}
    (held : r ∈ s.hides.records) (numbered : r.number = n) : r.state.unfinished = false := by
  obtain ⟨q, there, same, finished⟩ := sound.mem_completion.mp listed
  have same_record : q = r := List.inj_on_of_nodup_map sound.distinct there held (same.trans numbered.symm)
  exact same_record ▸ finished

/-- Records changed one by one: the numbers stand and no hide opens; then the new list has to hold the finished ones. -/
theorem HideTableSound.map {f : HideRecord → HideRecord} {h : HideTable} (sound : HideTableSound s)
    (records : h.records = s.hides.records.map f) (nextNumber : h.nextNumber = s.hides.nextNumber)
    (number : ∀ r ∈ s.hides.records, (f r).number = r.number)
    (opened : ∀ r ∈ s.hides.records, (f r).state.isOpen = true → r.state.isOpen = true)
    (nodup : h.completion.Nodup)
    (mem : ∀ n, n ∈ h.completion ↔ ∃ r ∈ s.hides.records, r.number = n ∧ (f r).state.unfinished = false)
    (cursor : h.cursor ≤ h.completion.length) : HideTableSound { s with hides := h } := by
  obtain ⟨length, distinct, numbers, next, oneOpen, _, _⟩ := sound
  have sameNumbers : h.records.map HideRecord.number = s.hides.records.map HideRecord.number := by
    rw [records, List.map_map]
    exact List.map_congr_left number
  have distinct' : DistinctNumbers { s with hides := h } := by
    unfold DistinctNumbers
    dsimp only
    rwa [sameNumbers]
  refine ⟨by rw [records, List.length_map]; exact length, distinct', ?_, nextNumber ▸ next, ?_,
    (completion_perm_iff distinct').mpr ⟨nodup, fun n => (mem n).trans ?_⟩, cursor⟩
  · intro r' held
    simp only [records, List.mem_map] at held
    obtain ⟨r, there, rfl⟩ := held
    rw [number r there, nextNumber]
    exact numbers r there
  · dsimp only
    rw [records, ← List.countP_eq_length_filter, List.countP_map]
    rw [← List.countP_eq_length_filter] at oneOpen
    exact (List.countP_mono_left opened).trans oneOpen
  · dsimp only
    rw [records]
    constructor
    · rintro ⟨r, there, numbered, finished⟩
      exact ⟨f r, List.mem_map_of_mem there, (number r there).trans numbered, finished⟩
    · rintro ⟨r', held, numbered, finished⟩
      obtain ⟨r, there, rfl⟩ := List.mem_map.mp held
      exact ⟨r, there, (number r there).symm.trans numbered, finished⟩

/-! ## Changes of a hide's state that leave the list alone -/

/-- The state after a change: as finished, no more open, converting where it was. -/
structure HideState.Follows (h h' : HideState) : Prop where
  unfinished : h'.unfinished = h.unfinished
  isOpen : h'.isOpen = true → h.isOpen = true
  converting : h.converting = true → h'.converting = true

theorem HideState.Follows.of_eq {h h' : HideState} (same : h' = h) : h.Follows h' := by
  subst same
  exact ⟨rfl, id, id⟩

theorem HideState.follows_ended (h : HideState) : h.Follows h.ended := by
  cases h <;> exact ⟨by decide, by decide, by decide⟩

theorem HideState.follows_afterConversion (h : HideState) : h.Follows h.afterConversion := by
  cases h <;> exact ⟨by decide, by decide, by decide⟩

theorem HideTableSound.mapFollows {f : HideRecord → HideRecord} {h : HideTable} (sound : HideTableSound s)
    (records : h.records = s.hides.records.map f) (nextNumber : h.nextNumber = s.hides.nextNumber)
    (number : ∀ r ∈ s.hides.records, (f r).number = r.number)
    (follows : ∀ r ∈ s.hides.records, r.state.Follows (f r).state) (completion : h.completion = s.hides.completion)
    (cursor : h.cursor ≤ h.completion.length) : HideTableSound { s with hides := h } := by
  refine sound.map records nextNumber number (fun r held => (follows r held).isOpen)
    (completion ▸ sound.nodup_completion) (fun n => ?_) cursor
  rw [completion, sound.mem_completion]
  refine exists_congr fun r => and_congr_right fun held => and_congr_right fun _ => ?_
  rw [(follows r held).unfinished]

theorem HideTableSound.cursor (sound : HideTableSound s) : s.hides.cursor ≤ s.hides.completion.length :=
  sound.2.2.2.2.2.2

/-! ## Hides that finish -/

/-- One unfinished hide finishes and joins the list. -/
theorem HideTableSound.finishOne {f : HideRecord → HideRecord} {h : HideTable} (sound : HideTableSound s)
    (records : h.records = s.hides.records.map f) (nextNumber : h.nextNumber = s.hides.nextNumber)
    (number : ∀ r ∈ s.hides.records, (f r).number = r.number)
    (opened : ∀ r ∈ s.hides.records, (f r).state.isOpen = true → r.state.isOpen = true)
    (completion : h.completion = s.hides.completion ++ [n]) (cursor : h.cursor = s.hides.cursor)
    (others : ∀ r ∈ s.hides.records, r.number ≠ n → (f r).state.unfinished = r.state.unfinished)
    {r : HideRecord} (held : r ∈ s.hides.records) (numbered : r.number = n) (unfinished : r.state.unfinished = true)
    (finishes : (f r).state.unfinished = false) : HideTableSound { s with hides := h } := by
  have absent : n ∉ s.hides.completion := fun listed => by
    rw [sound.finished_of_mem listed held numbered] at unfinished
    contradiction
  refine sound.map records nextNumber number opened ?_ (fun m => ?_) ?_
  · rw [completion, List.nodup_append]
    exact ⟨sound.nodup_completion, List.nodup_singleton _, fun m listed m' here same =>
      absent ((same.trans (List.mem_singleton.mp here)) ▸ listed)⟩
  · rw [completion, List.mem_append, List.mem_singleton, sound.mem_completion]
    constructor
    · rintro (⟨q, there, number', finished⟩ | rfl)
      · by_cases same : q.number = n
        · have one : q = r := List.inj_on_of_nodup_map sound.distinct there held (same.trans numbered.symm)
          exact ⟨r, held, one ▸ number', finishes⟩
        · exact ⟨q, there, number', (others q there same).trans finished⟩
      · exact ⟨r, held, numbered, finishes⟩
    · rintro ⟨q, there, number', finished⟩
      by_cases same : q.number = n
      · exact .inr (number'.symm.trans same)
      · exact .inl ⟨q, there, number', (others q there same).symm.trans finished⟩
  · rw [completion, cursor, List.length_append]
    exact sound.cursor.trans (Nat.le_add_right _ _)

/-- Every unfinished hide finishes, and they join the list (R61). -/
theorem HideTableSound.finishAll {f : HideRecord → HideRecord} {h : HideTable} (sound : HideTableSound s)
    (records : h.records = s.hides.records.map f) (nextNumber : h.nextNumber = s.hides.nextNumber)
    (number : ∀ r ∈ s.hides.records, (f r).number = r.number)
    (finished : ∀ r ∈ s.hides.records, (f r).state.unfinished = false)
    (completion : h.completion = s.hides.completion ++
      (sortByFirst (s.hides.records.filter fun r => r.state.unfinished)).map HideRecord.number)
    (cursor : h.cursor = s.hides.cursor) : HideTableSound { s with hides := h } := by
  have joined : ∀ m, m ∈ (sortByFirst (s.hides.records.filter fun r => r.state.unfinished)).map HideRecord.number ↔
      ∃ r ∈ s.hides.records, r.number = m ∧ r.state.unfinished = true := fun m => by
    simp only [List.mem_map, (sortByFirst_perm _).mem_iff, List.mem_filter, and_assoc]
    exact exists_congr fun r => and_congr_right fun _ => and_comm
  refine sound.map records nextNumber number (fun r held isOpen => ?_) ?_ (fun m => ?_) ?_
  · have done := finished r held
    cases state : (f r).state <;> rw [state] at done isOpen <;> simp_all [HideState.unfinished, HideState.isOpen]
  · rw [completion, List.nodup_append]
    refine ⟨sound.nodup_completion, ?_, fun m listed m' listed' same => ?_⟩
    · rw [((sortByFirst_perm _).map HideRecord.number).nodup_iff]
      exact sound.distinct.sublist (List.filter_sublist.map _)
    · obtain ⟨r, held, numbered, unfinished⟩ := (joined m').mp listed'
      rw [sound.finished_of_mem listed held (numbered.trans same.symm)] at unfinished
      contradiction
  · rw [completion, List.mem_append, joined, sound.mem_completion]
    constructor
    · rintro (⟨r, held, numbered, _⟩ | ⟨r, held, numbered, _⟩) <;> exact ⟨r, held, numbered, finished r held⟩
    · rintro ⟨r, held, numbered, _⟩
      cases unfinished : r.state.unfinished with
      | false => exact .inl ⟨r, held, numbered, unfinished⟩
      | true => exact .inr ⟨r, held, numbered, unfinished⟩
  · rw [completion, cursor, List.length_append]
    exact sound.cursor.trans (Nat.le_add_right _ _)

/-! ## Records that leave (R49, R62, R63) -/

theorem HideTableSound.filter {h : HideTable} (sound : HideTableSound s)
    (records : h.records = s.hides.records.filter (·.number ≠ n)) (nextNumber : h.nextNumber = s.hides.nextNumber)
    (completion : h.completion = s.hides.completion.filter (· ≠ n)) (cursor : h.cursor ≤ h.completion.length) :
    HideTableSound { s with hides := h } := by
  have sublist : h.records.Sublist s.hides.records := records ▸ List.filter_sublist
  have nodup := sound.nodup_completion
  have mem : ∀ m, m ∈ s.hides.completion ↔ _ := fun m => sound.mem_completion (n := m)
  obtain ⟨length, distinct, numbers, next, oneOpen, _, _⟩ := sound
  have distinct' : DistinctNumbers { s with hides := h } := distinct.sublist (sublist.map _)
  refine ⟨sublist.length_le.trans length, distinct', ?_, nextNumber ▸ next,
    (sublist.filter _).length_le.trans oneOpen, (completion_perm_iff distinct').mpr ⟨?_, fun m => ?_⟩, cursor⟩
  · intro r held
    dsimp only at held ⊢
    rw [nextNumber]
    exact numbers r (sublist.subset held)
  · exact completion ▸ nodup.filter _
  · dsimp only
    rw [completion, records]
    simp only [List.mem_filter, mem, decide_eq_true_eq]
    constructor
    · rintro ⟨⟨r, held, rfl, finished⟩, other⟩
      exact ⟨r, ⟨held, other⟩, rfl, finished⟩
    · rintro ⟨r, ⟨held, other⟩, rfl, finished⟩
      exact ⟨⟨r, held, rfl, finished⟩, other⟩

theorem length_filter_ne {l : List Num} (nodup : l.Nodup) (n : Num) :
    (l.filter (· ≠ n)).length = if l.contains n then l.length - 1 else l.length := by
  have erased : l.filter (· ≠ n) = l.erase n := by
    rw [nodup.erase_eq_filter]
    exact List.filter_congr fun m _ => by rw [bne, decide_not, beq_eq_decide]
  by_cases held : n ∈ l
  · rw [erased, List.length_erase_of_mem held, if_pos (by simpa using held)]
  · rw [erased, List.erase_of_not_mem held, if_neg (by simpa using held)]

/-- The cursor of a record's leaving stays within the list (R62). -/
theorem HideTable.leave_cursor {h : HideTable} (nodup : h.completion.Nodup) (cursor : h.cursor ≤ h.completion.length)
    (n : Num) : (h.leave n).cursor ≤ (h.leave n).completion.length := by
  have front := length_filter_ne (nodup.sublist (List.take_sublist h.cursor _)) n
  rw [List.length_take, Nat.min_eq_left cursor] at front
  calc (h.leave n).cursor = ((h.completion.take h.cursor).filter (· ≠ n)).length := front.symm
    _ ≤ (h.completion.filter (· ≠ n)).length := ((List.take_sublist _ _).filter _).length_le

/-- A finished record leaves the table and the list (R62, R63). -/
theorem HideTableSound.leaveFree (sound : HideTableSound s) (n : Num) (reclaimed : Nat) :
    HideTableSound { s with hides := { (s.hides.leave n).free n with reclaimed := reclaimed } } :=
  sound.filter rfl rfl rfl (HideTable.leave_cursor sound.nodup_completion sound.cursor n)

/-- An unfinished record leaves the table (R49). -/
theorem HideTableSound.free (sound : HideTableSound s) {r : HideRecord} (held : r ∈ s.hides.records)
    (unfinished : r.state.unfinished = true) : HideTableSound { s with hides := s.hides.free r.number } := by
  have absent : r.number ∉ s.hides.completion := fun listed => by
    rw [sound.finished_of_mem listed held rfl] at unfinished
    contradiction
  refine sound.filter rfl rfl ?_ sound.cursor
  have others : ∀ m ∈ s.hides.completion, m ≠ r.number := fun m listed same => absent (same ▸ listed)
  exact (List.filter_eq_self.mpr fun m listed => by simpa using others m listed).symm

end Sys2Proof.Machine

/-! PROOFS. The shared operations as trails of elementary changes. -/

namespace Sys2Proof.Machine

variable {c : Instr} {s t : State}

/-! ## The way of a hide -/

theorem HideState.age_le_two (h : HideState) : h.age ≤ 2 := by cases h <;> decide

theorem HideState.age_le_ended (h : HideState) : h.age ≤ h.ended.age := by cases h <;> decide

theorem HideState.converting_ended (h : HideState) : h.converting = true → h.ended.converting = true := by
  cases h <;> decide

theorem HideState.age_le_afterConversion (h : HideState) : h.age ≤ h.afterConversion.age := by cases h <;> decide

theorem HideState.converting_afterConversion (h : HideState) :
    h.converting = true → h.afterConversion.converting = true := by
  cases h <;> decide

/-! ## Steps of the hide table and the track -/

theorem TableStep.ofTrack {tr : Track}
    (slices : ∀ sl ∈ tr.slices, (∃ x ∈ s.track.slices, x.hide = sl.hide) ∨
      ∃ r ∈ s.hides.records, r.number = sl.hide ∧ r.state.unfinished = true)
    (pending : tr.pendingKnife = s.track.pendingKnife) : TableStep s s.hides tr :=
  ⟨List.forall₂_same.mpr fun r _ => .refl s r, fun _ => rfl, rfl, slices, pending, id⟩

theorem TableStep.ofRecords {f : HideRecord → HideRecord} {h : HideTable}
    (records : h.records = s.hides.records.map f) (each : ∀ r ∈ s.hides.records, RecordStep s r (f r))
    (completion : s.hides.records = [] → h.completion = s.hides.completion)
    (nextNumber : h.nextNumber = s.hides.nextNumber)
    (sound : HideTableSound s → HideTableSound { s with hides := h }) : TableStep s h s.track :=
  ⟨by rw [records, List.forall₂_map_right_iff]; exact List.forall₂_same.mpr each, completion, nextNumber,
    fun sl held => .inl ⟨sl, held, rfl⟩, rfl, sound⟩

theorem any_converting_map {f : HideRecord → HideRecord} {l : List HideRecord}
    (follows : ∀ r : HideRecord, r.state.Follows (f r).state)
    (some : l.any (fun r => r.state.converting) = true) : (l.map f).any (fun r => r.state.converting) = true := by
  obtain ⟨r, held, conv⟩ := List.any_eq_true.mp some
  exact List.any_eq_true.mpr ⟨f r, List.mem_map_of_mem held, (follows r).converting conv⟩

/-- A change of the slices that keeps each slice's hide. -/
theorem slices_trail (tr : Track) (slices : ∀ sl ∈ tr.slices, ∃ x ∈ s.track.slices, x.hide = sl.hide)
    (pending : tr.pendingKnife = s.track.pendingKnife) (keys : tr.slices.map Slice.key = s.track.slices.map Slice.key) :
    Trail c s { s with track := tr } :=
  (Change.table s.hides tr (.ofTrack (fun sl held => .inl (slices sl held)) pending) id (.inl (.inl ⟨keys, rfl⟩))).trail

/-- A change of the records that finishes none. -/
theorem updRecords_trail (f : HideRecord → HideRecord) (each : ∀ r ∈ s.hides.records, RecordStep s r (f r))
    (follows : ∀ r : HideRecord, r.state.Follows (f r).state) (kept : (∀ r, (f r).key = r.key) ∨ moves c = true) :
    Trail c s (updRecords f s) := by
  refine (Change.table { s.hides with records := s.hides.records.map f } s.track
    (.ofRecords rfl each (fun _ => rfl) rfl fun sound => sound.mapFollows rfl rfl (fun r held => (each r held).number)
      (fun r _ => follows r) rfl sound.cursor) (any_converting_map follows) ?_).trail
  refine kept.imp_left fun keys => .inl ⟨rfl, ?_⟩
  rw [List.map_map]
  exact List.map_congr_left fun r _ => keys r

/-- A record whose number, age, snapshot and reported fields stand. -/
theorem RecordStep.ofSame {r r' : HideRecord} (number : r'.number = r.number) (age : r'.state = r.state)
    (snapshot : r'.article = r.article ∧ r'.row = r.row)
    (report : ∀ active, hideReport active r' = hideReport active r)
    (slip : r.flags.slip = true → r'.flags.slip = true := by exact id) : RecordStep s r r' :=
  ⟨number, by rw [age], fun _ _ => snapshot, fun _ _ _ => report, slip⟩

/-- A change of an unfinished record that keeps its number and snapshot and makes it no younger. -/
theorem RecordStep.ofUnfinished {r r' : HideRecord} (number : r'.number = r.number)
    (age : r.state.age ≤ r'.state.age) (snapshot : r'.article = r.article ∧ r'.row = r.row)
    (unfinished : DistinctNumbers s → r.state.unfinished = true)
    (slip : r.flags.slip = true → r'.flags.slip = true := by exact id) : RecordStep s r r' :=
  ⟨number, age, fun _ _ => snapshot, fun distinct finished => by simp [unfinished distinct] at finished, slip⟩

/-- Of the records with one number, where numbers are distinct, there is one. -/
theorem DistinctNumbers.unique (distinct : DistinctNumbers s) {q r : HideRecord} (hq : q ∈ s.hides.records)
    (hr : r ∈ s.hides.records) (same : q.number = r.number) : q = r :=
  List.inj_on_of_nodup_map distinct hq hr same

theorem findHide_mem {n : Num} {r : HideRecord} (found : findHide s n = some r) :
    r ∈ s.hides.records ∧ r.number = n :=
  ⟨List.mem_of_find?_eq_some found, by simpa using List.find?_some found⟩

theorem openHide_mem {r : HideRecord} (found : openHide s = some r) :
    r ∈ s.hides.records ∧ r.state.isOpen = true :=
  ⟨List.mem_of_find?_eq_some found, by simpa using List.find?_some found⟩

/-! ## Reports, slots and moves -/

/-- A change of the channels after which no zone is in TRACK that was not. -/
theorem zones_trail (zs : List Channel) (l : Link)
    (track : ∀ x ∈ zs, x.mode = .track → ∃ y ∈ s.zones, y.mode = .track) :
    Trail c s { s with zones := zs, link := l } :=
  (Change.zones zs l fun x held mode => .inr (track x held mode)).trail

theorem updChannel_trail (f : Channel → Channel) (z : Nat) (mode : ∀ x, (f x).mode = .track → x.mode = .track) :
    Trail c s (updChannel f z s) :=
  zones_trail _ s.link fun x held track => by
    obtain there | ⟨y, there, rfl⟩ := mem_updAt held
    · exact ⟨x, there, track⟩
    · exact ⟨y, there, mode y track⟩

theorem link_trail (l : Link) : Trail c s { s with link := l } :=
  zones_trail s.zones l fun x held track => ⟨x, held, track⟩

theorem report_trail (r : Option Target) (z : Nat) (p : Progress) : Trail c s (report r z p s) := by
  unfold report
  split
  · refine slices_trail _ (fun sl held => ?_) rfl ?_
    · obtain ⟨x, there, rfl⟩ := List.mem_map.mp held
      exact ⟨x, there, by split <;> rfl⟩
    · dsimp only
      rw [List.map_map]
      exact List.map_congr_left fun x _ => by dsimp only [Function.comp]; split <;> rfl
  · exact .refl

theorem setSlot_trail (r : Option Target) (z : Nat) : Trail c s (setSlot r z s) :=
  (updChannel_trail (fun x => { x with slot := r }) z fun _ => id).trans (link_trail _)

theorem place_trail (r : Target) (z : Nat) : Trail c s (place r z s) :=
  (report_trail _ z .skipped).trans (setSlot_trail _ z)

theorem discardSlot_trail (z : Nat) : Trail c s (discardSlot z s) :=
  (report_trail _ z .skipped).trans (setSlot_trail _ z)

theorem endFlight_trail (p : Progress) (z : Nat) : Trail c s (endFlight p z s) :=
  (report_trail _ z p).trans (updChannel_trail _ z fun _ => id)

theorem detach_trail (leaving : SliceRef → Bool) : Trail c s (detach leaving s) :=
  zones_trail _ _ fun x held track => by
    obtain ⟨y, there, rfl⟩ := List.mem_map.mp held
    exact ⟨y, there, track⟩

theorem enterFault_trail (z : Nat) : Trail c s (enterFault z s) :=
  (discardSlot_trail z).trans <| (endFlight_trail .ended z).trans <|
    (updChannel_trail _ z fun _ fault => absurd fault (by simp)).tail (.lineNotice .zoneFault)

theorem countMiss_trail (z : Nat) : Trail c s (countMiss z s) := by
  have counted := updChannel_trail (c := c) (s := s) (fun x => { x with misses := x.misses + 1 }) z fun _ => id
  unfold countMiss
  split
  · dsimp only
    split
    · exact counted.trans (enterFault_trail z)
    · exact counted
  · exact .refl

theorem clearMisses_trail (z : Nat) : Trail c s (clearMisses z s) := by
  unfold clearMisses
  split
  · exact updChannel_trail _ z fun _ => id
  · exact .refl

theorem faultReply_trail (z : Nat) : Trail c s (faultReply z s) := by
  unfold faultReply
  split
  · exact enterFault_trail z
  · exact .refl

theorem completeMove_trail (z : Nat) : Trail c s (completeMove z s) := by
  unfold completeMove
  split
  · exact .refl
  · exact (endFlight_trail .complete z).trans (updChannel_trail _ z fun _ => id)

theorem arbitrate_trail : Trail c s (arbitrate s) := link_trail _

theorem forZones_trail {f : Nat → State → State} (each : ∀ z s, Trail c s (f z s)) : Trail c s (forZones f s) := by
  have run : ∀ (l : List Nat) (s : State), Trail c s (l.foldl (fun t z => f z t) s) := by
    intro l
    induction l with
    | nil => exact fun s => .refl
    | cons z l ih => exact fun s => (each z s).trans (ih _)
  exact run zoneList s

theorem advanceTo_trail (n : Nat) : Trail c s (advanceTo n s) := (Change.time _ (Nat.le_max_left _ _)).trail

/-! ## The machine state -/

theorem startDwell_trail : Trail c s (startDwell s) := (Change.dwell _).trail

theorem stopDwell_trail : Trail c s (stopDwell s) := (Change.dwell _).trail

/-- Entry to a state that issues strobes, or out of one that does not. -/
theorem enterPhase_trail (p : Phase) (issues : p.permitsStrobes = true ∨ s.ctl.phase.permitsStrobes = false)
    (other : isBottomPulse c = false ∨ s.ctl.phase.permitsStrobes = true) : Trail c s (enterPhase p s) :=
  (Change.phase p (fun no yes => by simp_all) (fun yes => by simp_all)).trail

theorem enterRun_trail (other : isBottomPulse c = false ∨ s.ctl.phase.permitsStrobes = true) :
    Trail c s (enterRun s) :=
  (enterPhase_trail .run (.inl rfl) other).trans stopDwell_trail

theorem passResuming_trail (other : isBottomPulse c = false) : Trail c s (passResuming s) := by
  unfold passResuming
  split
  · exact enterRun_trail (.inl other)
  · exact .refl

theorem placeEntry_trail (z : Nat) : Trail c s (placeEntry z s) := by
  unfold placeEntry
  split
  · exact (place_trail _ z).trans (updChannel_trail _ z fun _ => id)
  · exact .refl

theorem placePark_trail (z : Nat) : Trail c s (placePark z s) := by
  unfold placePark
  split
  · exact place_trail _ z
  · exact .refl

theorem enterResuming_trail (quiet : s.ctl.phase.permitsStrobes = false) (other : isBottomPulse c = false) :
    Trail c s (enterResuming s) :=
  (enterPhase_trail .resuming (.inr quiet) (.inl other)).trans <|
    (forZones_trail fun z _ => placeEntry_trail z).trans (passResuming_trail other)

/-! ## The knife profile and the ends of hides -/

theorem HideState.done_not_isOpen : ¬ HideState.done.isOpen = true := by decide

/-- The record of number n done (R59). -/
def HideRecord.doneIf (n : Num) (r : HideRecord) : HideRecord :=
  if r.number = n then { r with state := .done, rangeOpen := false } else r

/-- The end of a hide's way, and the profile that waited for it (R59, R84). -/
theorem becomeDone_trail {n : Num} {r : HideRecord} (found : findHide s n = some r)
    (splitting : r.state = .splitting) (moving : moves c = true) : Trail c s (becomeDone n s) := by
  obtain ⟨held, numbered⟩ := findHide_mem found
  have steps : ∀ q ∈ s.hides.records, RecordStep (raiseLine .hideDone s) q (q.doneIf n) := by
    intro q there
    unfold HideRecord.doneIf
    split
    case isTrue named =>
      refine .ofUnfinished rfl q.state.age_le_two ⟨rfl, rfl⟩ fun distinct => ?_
      rw [DistinctNumbers.unique distinct there held (named.trans numbered.symm), splitting]
      rfl
    case isFalse => exact .refl _ q
  refine (Change.lineNotice .hideDone).trail.tail (Change.finish _ _
    (.ofRecords (f := HideRecord.doneIf n) rfl steps (fun empty => ?_) rfl fun sound => ?_) (.inr moving))
  · exact absurd held (by rw [show s.hides.records = [] from empty]; exact List.not_mem_nil)
  · refine sound.finishOne (f := HideRecord.doneIf n) rfl rfl (fun q there => (steps q there).number) (fun q _ => ?_)
      rfl rfl (fun q _ other => by rw [HideRecord.doneIf, if_neg other]) held numbered (splitting ▸ rfl)
      (by rw [HideRecord.doneIf, if_pos numbered]; rfl)
    unfold HideRecord.doneIf
    split
    · exact fun isOpen => absurd isOpen HideState.done_not_isOpen
    · exact id

theorem HideRecord.finished_splitting {r : HideRecord} (done : r.finished = true) : r.state = .splitting := by
  simp only [HideRecord.finished, Bool.and_eq_true, decide_eq_true_eq] at done
  exact done.1.1.1

theorem tryDone_trail (n : Num) (moving : moves c = true) : Trail c s (tryDone n s) := by
  unfold tryDone
  split
  case h_1 r found =>
    split
    case isTrue done => exact becomeDone_trail found (HideRecord.finished_splitting done) moving
    case isFalse => exact .refl
  case h_2 => exact .refl

theorem raiseLineIf_trail (b : Bool) (n : LineNotice) : Trail c s (raiseLineIf b n s) := by
  unfold raiseLineIf
  split
  · exact (Change.lineNotice n).trail
  · exact .refl

/-- Ending a hide that is not finished, and with distinct numbers no other, leaves finished records alone. -/
theorem endAt_trail {n : Num} {r : HideRecord} (e : Num) (forced : Bool) (held : r ∈ s.hides.records)
    (numbered : r.number = n) (unfinished : r.state.unfinished = true) (moving : moves c = true) :
    Trail c s (endAt n e forced s) := by
  refine (updRecords_trail _ ?_ ?_ (.inr moving)).trans ((raiseLineIf_trail forced .forcedEnd).trans (tryDone_trail n moving))
  · intro q there
    dsimp only
    split
    case isTrue named =>
      refine .ofUnfinished rfl q.state.age_le_ended ⟨rfl, rfl⟩ fun distinct => ?_
      rwa [DistinctNumbers.unique distinct there held (named.trans numbered.symm)]
    case isFalse => exact .refl _ q
  · intro q
    dsimp only
    split
    · exact q.state.follows_ended
    · exact .of_eq rfl

end Sys2Proof.Machine

/-! PROOFS. Emptying, rest, HALT and wake as trails of elementary changes. -/

namespace Sys2Proof.Machine

variable {c : Instr} {s t : State}

/-! ## Emptying (R60, R61, R80) -/

theorem closeRanges_trail : Trail c s (closeRanges s) :=
  updRecords_trail _ (fun r _ => by split <;> exact .ofSame rfl rfl ⟨rfl, rfl⟩ fun _ => rfl)
    (fun r => by split <;> exact .of_eq rfl) (.inl fun r => by split <;> rfl)

/-- The hide table that abandoning every unfinished hide leaves. -/
def abandonedTable (cause : AbandonCause) (h : HideTable) : HideTable :=
  { h with
    records := h.records.map (HideRecord.emptied cause)
    completion := h.completion ++
      (sortByFirst (h.records.filter fun r => r.state.unfinished)).map HideRecord.number }

/-- The track that a flush and a PARK entry leave. -/
def emptiedTrack (tr : Track) : Track :=
  { tr with slices := [], flushedCount := addTo Config.counter32 tr.flushedCount tr.slices.length }

/-- The emptying written out: the list, the targets, the notice, the table with the track, the profile. -/
theorem emptyTrack_eq (cause : AbandonCause) (s : State) : emptyTrack cause s =
    applyPending { raiseLineIf (!(sortByFirst (s.hides.records.filter fun r => r.state.unfinished)).isEmpty)
        .hideAbandoned (detach (fun _ => true) { s with intake := { s.intake with list := [] } }) with
      hides := abandonedTable cause s.hides, track := emptiedTrack s.track } := by
  unfold emptyTrack abandonAll raiseLineIf
  dsimp only [detach_hides]
  split <;> rfl

theorem HideRecord.emptied_finished {cause : AbandonCause} {r : HideRecord} (finished : r.state.unfinished = false) :
    r.emptied cause = { r with rangeOpen := false } := by
  simp [HideRecord.emptied, finished]

theorem RecordStep.emptied (cause : AbandonCause) (r : HideRecord) : RecordStep s r (r.emptied cause) := by
  cases unfinished : r.state.unfinished with
  | false => exact r.emptied_finished unfinished ▸ .ofSame rfl rfl ⟨rfl, rfl⟩ fun _ => rfl
  | true =>
    simp only [HideRecord.emptied, unfinished, if_true]
    exact .ofUnfinished rfl r.state.age_le_two ⟨rfl, rfl⟩ fun _ => unfinished

theorem HideRecord.emptied_state_finished (cause : AbandonCause) (r : HideRecord) :
    (r.emptied cause).state.unfinished = false := by
  cases unfinished : r.state.unfinished with
  | false => rw [r.emptied_finished unfinished]; exact unfinished
  | true =>
    simp only [HideRecord.emptied, unfinished, if_true]
    decide

theorem TableStep.emptied (cause : AbandonCause) {h : HideTable} {tr : Track} (table : h = s.hides)
    (track : tr = s.track) : TableStep s (abandonedTable cause h) (emptiedTrack tr) := by
  subst table track
  refine ⟨?_, fun empty => ?_, rfl, fun _ held => absurd held List.not_mem_nil, rfl, fun sound => ?_⟩
  · rw [abandonedTable, List.forall₂_map_right_iff]
    exact List.forall₂_same.mpr fun r _ => .emptied cause r
  · simp [abandonedTable, empty, sortByFirst]
  · exact sound.finishAll rfl rfl (fun r _ => (RecordStep.emptied (s := s) cause r).number)
      (fun r _ => r.emptied_state_finished cause) rfl rfl

theorem emptyTrack_trail (cause : AbandonCause) : Trail c s (emptyTrack cause s) := by
  rw [emptyTrack_eq]
  refine ((Change.list [] (fun _ => rfl) (fun _ held => absurd held List.not_mem_nil) (.inl rfl)).trail.trans <|
    (detach_trail fun _ => true).trans (raiseLineIf_trail _ .hideAbandoned)).tail
    (.finish _ _ (.emptied cause ?_ ?_) (.inl (.inr ⟨rfl, cause, ?_⟩)))
  · simp
  · simp
  · simp [abandonedTable]

theorem FeedStep.of {f : Feed} (ref : f.ref = s.feed.ref) (pulses : f.strobePulses = s.feed.strobePulses)
    (bot : f.botAcc = s.feed.botAcc) (top : f.topAcc = s.feed.topAcc) (trim : f.trim = s.feed.trim)
    (slip : f.slip.count = s.feed.slip.count ∨ f.slip.count ≤ 2) (period : f.period = s.feed.period) :
    FeedStep s f := by
  refine ⟨ref, pulses, ?_⟩
  rintro ⟨h1, h2, h3, h4, h5, h6⟩
  refine ⟨bot ▸ h1, top ▸ h2, trim ▸ h3, ?_, period ▸ h5, period ▸ h6⟩
  rcases slip with slip | slip
  · exact slip ▸ h4
  · exact slip

theorem flush_trail (cause : AbandonCause) : Trail c s (flush cause s) :=
  (emptyTrack_trail cause).tail (.feed _ (.of rfl rfl rfl rfl rfl (.inl rfl) rfl) (.inl rfl))

/-! ## Entries to states that do not drive the feed -/

/-- The state after entry to a machine state that does not drive the feed. -/
def quieted (p : Phase) (s : State) : State :=
  { s with
    ctl := { s.ctl with phase := p, feedStop := true }
    feed := { s.feed with ref := { s.feed.ref with high := false, gated := true } } }

theorem enterPhase_quiet {p : Phase} (quiet : p.drives = false) (s : State) : enterPhase p s = quieted p s := by
  simp [enterPhase, applyGate, gateClosed, quiet, quieted]

theorem stopDwell_quieted (p : Phase) (s : State) : stopDwell (quieted p s) = quieted p (stopDwell s) := rfl

theorem applyPending_quieted (p : Phase) (s : State) :
    applyPending (quieted p s) = quieted p (applyPending s) := by
  have converting : anyConverting (quieted p s) = anyConverting s := rfl
  have pending : (quieted p s).track = s.track := rfl
  unfold applyPending
  rw [pending]
  cases s.track.pendingKnife with
  | none => rfl
  | some k =>
    dsimp only
    rw [converting]
    split <;> rfl

theorem raiseLine_quieted (n : LineNotice) (p : Phase) (s : State) :
    raiseLine n (quieted p s) = quieted p (raiseLine n s) := rfl

theorem raiseLineIf_quieted (b : Bool) (n : LineNotice) (p : Phase) (s : State) :
    raiseLineIf b n (quieted p s) = quieted p (raiseLineIf b n s) := by
  cases b <;> rfl

theorem emptyTrack_quieted (cause : AbandonCause) (p : Phase) (s : State) :
    emptyTrack cause (quieted p s) = quieted p (emptyTrack cause s) := by
  rw [emptyTrack_eq, emptyTrack_eq, ← applyPending_quieted]
  exact congrArg (fun t : State => applyPending
      { t with hides := abandonedTable cause s.hides, track := emptiedTrack s.track })
    (raiseLineIf_quieted (!(sortByFirst (s.hides.records.filter fun r => r.state.unfinished)).isEmpty)
      .hideAbandoned p (detach (fun _ => true) { s with intake := { s.intake with list := [] } }))

theorem flush_quieted (cause : AbandonCause) (p : Phase) (s : State) :
    flush cause (quieted p s) = quieted p (flush cause s) := by
  unfold flush
  rw [emptyTrack_quieted]
  rfl

theorem report_quieted (r : Option Target) (z : Nat) (q : Progress) (p : Phase) (s : State) :
    report r z q (quieted p s) = quieted p (report r z q s) := by
  unfold report
  split <;> rfl

theorem endFlight_quieted (q : Progress) (z : Nat) (p : Phase) (s : State) :
    endFlight q z (quieted p s) = quieted p (endFlight q z s) := by
  unfold endFlight
  rw [report_quieted]
  rfl

theorem discardSlot_quieted (z : Nat) (p : Phase) (s : State) :
    discardSlot z (quieted p s) = quieted p (discardSlot z s) := by
  unfold discardSlot
  rw [report_quieted]
  rfl

theorem stillZone_quieted (z : Nat) (p : Phase) (s : State) :
    stillZone z (quieted p s) = quieted p (stillZone z s) := by
  unfold stillZone
  rw [endFlight_quieted, discardSlot_quieted]
  rfl

/-- What commutes with `g` in each zone's step, commutes with it in `forZones`. -/
theorem forZones_commutes {f : Nat → State → State} {g : State → State} (each : ∀ z s, f z (g s) = g (f z s))
    (s : State) : forZones f (g s) = g (forZones f s) := by
  have run : ∀ (l : List Nat) (s : State), l.foldl (fun t z => f z t) (g s) = g (l.foldl (fun t z => f z t) s) := by
    intro l
    induction l with
    | nil => exact fun s => rfl
    | cons z l ih => exact fun s => by rw [List.foldl_cons, List.foldl_cons, each, ih]
  exact run zoneList s

theorem stillZones_quieted (p : Phase) (s : State) : stillZones (quieted p s) = quieted p (stillZones s) := by
  unfold stillZones
  rw [forZones_commutes fun z s => stillZone_quieted z p s]
  generalize forZones stillZone s = still
  rfl

theorem stillZone_trail (z : Nat) : Trail c s (stillZone z s) :=
  (endFlight_trail .ended z).trans <| (discardSlot_trail z).trans (updChannel_trail _ z fun _ => id)

theorem stillZones_trail : Trail c s (stillZones s) := (forZones_trail fun z _ => stillZone_trail z).trans (link_trail _)

/-! ## What an emptying leaves (R80, R81) -/

theorem applyPending_slices (s : State) : (applyPending s).track.slices = s.track.slices := by
  unfold applyPending
  split
  · rfl
  · split <;> rfl

theorem anyUnfinished_congr (records : t.hides.records = s.hides.records) : anyUnfinished t = anyUnfinished s := by
  simp [anyUnfinished, records]

@[simp] theorem emptyTrack_list (cause : AbandonCause) (s : State) : (emptyTrack cause s).intake.list = [] := by
  simp [emptyTrack_eq]

@[simp] theorem emptyTrack_hides (cause : AbandonCause) (s : State) :
    (emptyTrack cause s).hides = abandonedTable cause s.hides := by
  simp [emptyTrack_eq]

@[simp] theorem emptyTrack_slices (cause : AbandonCause) (s : State) : (emptyTrack cause s).track.slices = [] := by
  rw [emptyTrack_eq, applyPending_slices]
  rfl

theorem abandonedTable_unfinished (cause : AbandonCause) (h : HideTable) :
    ((abandonedTable cause h).records.any fun r => r.state.unfinished) = false := by
  simp [abandonedTable, List.any_map, List.any_eq_false, HideRecord.emptied_state_finished]

theorem emptyTrack_emptied (cause : AbandonCause) (s : State) : Emptied (emptyTrack cause s) := by
  refine ⟨by simp, by simp, ?_⟩
  rw [anyUnfinished, emptyTrack_hides]
  exact abandonedTable_unfinished cause s.hides

@[simp] theorem flush_list (cause : AbandonCause) (s : State) : (flush cause s).intake.list = [] :=
  emptyTrack_list cause s

@[simp] theorem flush_slices (cause : AbandonCause) (s : State) : (flush cause s).track.slices = [] :=
  emptyTrack_slices cause s

@[simp] theorem flush_hides (cause : AbandonCause) (s : State) :
    (flush cause s).hides = abandonedTable cause s.hides := emptyTrack_hides cause s

theorem flush_emptied (cause : AbandonCause) (s : State) : Emptied (flush cause s) := emptyTrack_emptied cause s

/-- Reports leave the slices' number as it is. -/
theorem report_slices_length (r : Option Target) (z : Nat) (p : Progress) (s : State) :
    (report r z p s).track.slices.length = s.track.slices.length := by
  unfold report
  split
  · simp [reportSlice]
  · rfl

theorem stillZone_slices_length (z : Nat) (s : State) :
    (stillZone z s).track.slices.length = s.track.slices.length := by
  simp [stillZone, discardSlot, endFlight, report_slices_length]

theorem stillZones_emptied {s : State} (empty : Emptied s) : Emptied (stillZones s) := by
  obtain ⟨list, slices, unfinished⟩ := empty
  have length : (stillZones s).track.slices.length = s.track.slices.length := by
    simpa only [stillZones] using forZones_keeps (fun t => t.track.slices.length) stillZone stillZone_slices_length s
  refine ⟨by simp [list], ?_, ?_⟩
  · rw [slices] at length
    exact List.length_eq_zero_iff.mp length
  · rw [anyUnfinished_congr (s := s) (by simp)]
    exact unfinished

/-! ## Rest and HALT (R143 to R145, R150) -/

theorem enterDwell_trail (issuing : s.ctl.phase.permitsStrobes = true) : Trail c s (enterDwell s) :=
  (enterPhase_trail .dwell (.inl rfl) (.inr issuing)).trans <| startDwell_trail.tail (.lineNotice .restEntered)

theorem enterPark_trail (issuing : s.ctl.phase.permitsStrobes = true) : Trail c s (enterPark s) := by
  unfold enterPark
  rw [enterPhase_quiet rfl, emptyTrack_quieted, ← enterPhase_quiet rfl]
  refine (emptyTrack_trail .park).trans (Relation.ReflTransGen.head (.phase .park ?_ ?_) ?_)
  · exact fun _ _ => emptyTrack_emptied .park s
  · simp [issuing]
  · exact (forZones_trail fun z _ => placePark_trail z).trans <| startDwell_trail.tail (.lineNotice .restEntered)

theorem enterRest_trail (issuing : s.ctl.phase.permitsStrobes = true) : Trail c s (enterRest s) := by
  unfold enterRest
  split
  · exact enterDwell_trail issuing
  · exact enterPark_trail issuing

theorem enterBraking_trail (issuing : s.ctl.phase.permitsStrobes = true) : Trail c s (enterBraking s) := by
  have braking := enterPhase_trail (c := c) (s := s) .braking (.inl rfl) (.inr issuing)
  unfold enterBraking
  dsimp only
  split
  · exact braking.trans (enterRest_trail (by simp [Phase.permitsStrobes]))
  · exact braking

theorem passClearing_trail : Trail c s (passClearing s) := by
  unfold passClearing
  split
  case isTrue passes =>
    simp only [Bool.and_eq_true, decide_eq_true_eq] at passes
    exact enterBraking_trail (by rw [passes.1]; rfl)
  case isFalse => exact .refl

theorem settle_trail : Trail c s (settle s) := passClearing_trail.trans arbitrate_trail

theorem enterHalt_eq (s : State) : enterHalt s =
    enterPhase .halt (raiseLine .halt (stillZones (flush .halt (stopDwell s)))) := by
  unfold enterHalt
  rw [enterPhase_quiet rfl, stopDwell_quieted, flush_quieted, stillZones_quieted, raiseLine_quieted,
    enterPhase_quiet rfl]

theorem enterHalt_trail (other : isBottomPulse c = false) : Trail c s (enterHalt s) := by
  rw [enterHalt_eq]
  have empty := stillZones_emptied (flush_emptied .halt (stopDwell s))
  have still : Trail c s (stillZones (flush .halt (stopDwell s))) :=
    stopDwell_trail.trans <| (flush_trail .halt).trans stillZones_trail
  generalize stillZones (flush .halt (stopDwell s)) = t at empty still
  exact (still.tail (.lineNotice .halt)).tail (.phase .halt (fun _ _ => empty) (by simp [other]))

theorem haltIfAsserted_trail (other : isBottomPulse c = false) : Trail c s (haltIfAsserted s) := by
  unfold haltIfAsserted
  split
  · exact enterHalt_trail other
  · exact .refl

/-! ## Wake (R133, R134) -/

theorem wakeEvent_trail (other : isBottomPulse c = false) : Trail c s (wakeEvent s) := by
  unfold wakeEvent
  split
  · exact (enterRun_trail (.inl other)).tail (.lineNotice .restAborted)
  · exact (enterRun_trail (.inl other)).tail (.lineNotice .restAborted)
  · exact (enterRun_trail (.inl other)).tail (.lineNotice .wake)
  case h_4 park =>
    have quiet : (stopDwell s).ctl.phase.permitsStrobes = false := by rw [stopDwell_phase, park]; rfl
    exact (stopDwell_trail.trans <| (enterResuming_trail quiet other).trans arbitrate_trail).tail (.lineNotice .wake)
  all_goals exact .refl

theorem changeWake_trail {f : Controller → Controller} (other : isBottomPulse c = false)
    (change : Change c s { s with ctl := f s.ctl }) : Trail c s (changeWake f s) := by
  unfold changeWake
  dsimp only
  split
  · exact change.trail.trans (wakeEvent_trail other)
  · exact change.trail

theorem setWakeFlag_trail (w : WakeFlag) (other : isBottomPulse c = false) : Trail c s (setWakeFlag w s) :=
  changeWake_trail other (.wakeFlag w)

end Sys2Proof.Machine

/-! PROOFS. The way of a strobe and the counts of the bottom encoder as trails of elementary changes. -/

namespace Sys2Proof.Machine

variable {c : Instr} {s t : State}

/-! ## Departures (R33, R34) -/

theorem memberOf_mem {n : Num} {l : List HideRecord} {r : HideRecord} (found : memberOf n l = some r) : r ∈ l := by
  induction l generalizing r with
  | nil => simp [memberOf] at found
  | cons q rest ih =>
    unfold memberOf at found
    split at found
    case h_1 p behind =>
      split at found
      · exact Option.some.inj found ▸ .head _
      · exact Option.some.inj found ▸ .tail _ (ih behind)
    case h_2 =>
      split at found
      · exact Option.some.inj found ▸ .head _
      · simp at found

/-- The slice that a departing entry becomes for a record. -/
def enteredSlice (e : Entry) (r : HideRecord) : Slice :=
  { strobe := e.num, pos := e.pos, hide := r.number, readings := e.reply, stage := .entered, results := [] }

/-- The track with the slice of a departing entry at its tail. -/
def enteredTrack (e : Entry) (r : HideRecord) (tr : Track) : Track :=
  { tr with
    slices := tr.slices ++ [enteredSlice e r]
    readCount := if e.reply.isNone then tr.readCount else addTo Config.counter32 tr.readCount 1
    gapCount := if e.reply.isNone then addTo Config.counter32 tr.gapCount 1 else tr.gapCount }

/-- The table with each record of one number changed. -/
def HideTable.upd (f : HideRecord → HideRecord) (n : Num) (h : HideTable) : HideTable :=
  { h with records := h.records.map fun q => if q.number = n then f q else q }

/-- A change of the records of one number that finishes none, with one of the slices. -/
theorem upd_trail (f : HideRecord → HideRecord) (n : Num) (tr : Track)
    (each : ∀ q ∈ s.hides.records, q.number = n → RecordStep s q (f q))
    (slices : ∀ sl ∈ tr.slices, (∃ x ∈ s.track.slices, x.hide = sl.hide) ∨
      ∃ r ∈ s.hides.records, r.number = sl.hide ∧ r.state.unfinished = true)
    (pending : tr.pendingKnife = s.track.pendingKnife) (follows : ∀ q : HideRecord, q.state.Follows (f q).state)
    (kept : PlacesKept s (s.hides.upd f n) tr ∨ moves c = true) :
    Trail c s { s with hides := s.hides.upd f n, track := tr } := by
  have steps : ∀ q ∈ s.hides.records, RecordStep s q (if q.number = n then f q else q) := by
    intro q there
    split
    case isTrue same => exact each q there same
    case isFalse => exact .refl s q
  have follows' : ∀ q : HideRecord, q.state.Follows (if q.number = n then f q else q).state := by
    intro q
    split
    · exact follows q
    · exact .of_eq rfl
  refine (Change.table (s.hides.upd f n) tr ⟨?_, fun _ => rfl, rfl, slices, pending, fun sound => ?_⟩
    (any_converting_map follows') kept).trail
  · rw [HideTable.upd, List.forall₂_map_right_iff]
    exact List.forall₂_same.mpr steps
  · exact sound.mapFollows rfl rfl (fun q there => (steps q there).number) (fun q _ => follows' q) rfl sound.cursor

theorem enterTrack_eq (e : Entry) (r : HideRecord) (s : State) : enterTrack e r s =
    raiseLineIf (r.losesGauge e.reply.isNone) .gaugeLost
      { s with hides := s.hides.upd (HideRecord.enter e.num e.reply.isNone) r.number,
               track := enteredTrack e r s.track } := rfl

theorem enterTrack_trail (e : Entry) {r : HideRecord} (held : r ∈ s.hides.records)
    (unfinished : r.state.unfinished = true) (moving : moves c = true) : Trail c s (enterTrack e r s) := by
  rw [enterTrack_eq]
  refine (upd_trail (HideRecord.enter e.num e.reply.isNone) r.number (enteredTrack e r s.track)
    (fun q there same => ?_) (fun sl there => ?_) rfl (fun _ => .of_eq rfl) (.inr moving)).trans
    (raiseLineIf_trail _ .gaugeLost)
  · exact .ofUnfinished rfl le_rfl ⟨rfl, rfl⟩ fun distinct => distinct.unique there held same ▸ unfinished
  · obtain there | there := List.mem_append.mp there
    · exact .inl ⟨sl, there, rfl⟩
    · exact .inr ⟨r, held, by rw [List.mem_singleton.mp there]; rfl, unfinished⟩

/-- The counters of the intake that no rule about notices, masks and the list speaks of. -/
theorem intake_trail (i : Intake) (list : i.list = s.intake.list) (notices : i.notices = s.intake.notices)
    (mask : i.mask = s.intake.mask) : Trail c s { s with intake := i } :=
  (Change.port i s.line list notices mask rfl rfl).trail

theorem line_trail (l : LinePort) (notices : l.notices = s.line.notices) (mask : l.mask = s.line.mask) :
    Trail c s { s with line := l } :=
  (Change.port s.intake l rfl rfl rfl notices mask).trail

theorem dropOrphan_trail (e : Entry) : Trail c s (dropOrphan e s) := by
  unfold dropOrphan
  split
  · exact (intake_trail { s.intake with orphan := bump s.intake.orphan } rfl rfl rfl).tail (.gaugeNotice .orphan)
  · exact .refl

theorem handOn_trail (e : Entry) (moving : moves c = true) : Trail c s (handOn e s) := by
  unfold handOn
  split
  case h_1 r found =>
    split
    case isTrue unfinished => exact enterTrack_trail e (memberOf_mem found) unfinished moving
    case isFalse => exact .refl
  case h_2 => exact dropOrphan_trail e

theorem departHead_trail (moving : moves c = true) : Trail c s (departHead s) := by
  unfold departHead
  split
  case h_1 => exact .refl
  case h_2 e rest list =>
    refine (Change.list rest (by simp [list]) (fun d held reply => ?_) (.inr moving)).trail.trans
      ((handOn_trail e moving).trans closeRanges_trail)
    exact .inr ⟨d, list ▸ .tail _ held, reply⟩

theorem departReplied_trail (moving : moves c = true) (fuel : Nat) : Trail c s (departReplied fuel s) := by
  induction fuel generalizing s with
  | zero => exact .refl
  | succ fuel ih =>
    unfold departReplied
    split
    · exact .refl
    · split
      · exact (departHead_trail moving).trans ih
      · exact .refl

theorem departDue_trail (moving : moves c = true) : Trail c s (departDue s) := departReplied_trail moving _

theorem departAll_trail (moving : moves c = true) (fuel : Nat) : Trail c s (departAll fuel s) := by
  induction fuel generalizing s with
  | zero => exact .refl
  | succ fuel ih => exact (departHead_trail moving).trans ih

/-! ## Strobes (R10, R12, R31) -/

@[simp] theorem departReplied_ctl (fuel : Nat) (s : State) : (departReplied fuel s).ctl = s.ctl := by
  induction fuel generalizing s with
  | zero => rfl
  | succ fuel ih =>
    unfold departReplied
    split
    · rfl
    · split
      · rw [ih, departHead_ctl]
      · rfl

@[simp] theorem departDue_ctl (s : State) : (departDue s).ctl = s.ctl := departReplied_ctl _ s

theorem joinList_trail (num : Num) (pos : Pos) (permitted : s.ctl.phase.permitsStrobes = true)
    (moving : moves c = true) : Trail c s (joinList num pos s) := by
  unfold joinList
  dsimp only
  split
  · exact ((departHead_trail moving).trans (departDue_trail moving)).tail (.join num pos (by simpa using permitted) moving)
  · exact (Change.join num pos permitted moving).trail

@[simp] theorem joinList_ctl (num : Num) (pos : Pos) (s : State) : (joinList num pos s).ctl = s.ctl := by
  unfold joinList
  dsimp only
  split <;> simp

theorem issueStrobe_trail (pulse : isBottomPulse c = true) (permitted : s.ctl.phase.permitsStrobes = true) :
    Trail c s (issueStrobe s) :=
  (joinList_trail _ _ permitted (moves_of_pulse pulse)).tail (.strobe _ _ _ pulse (by simpa using permitted))

theorem feed_trail (f : Feed) (step : FeedStep s f)
    (kept : f.base = s.feed.base ∨ moves c = true := by exact .inl rfl) : Trail c s { s with feed := f } :=
  (Change.feed f step kept).trail

theorem lockSync_trail (moving : moves c = true) : Trail c s (lockSync s) := by
  unfold lockSync
  split
  · exact ((feed_trail { s.feed with sync := .locked, nextNum := 0, nextPos := s.feed.h }
      (.of rfl rfl rfl rfl rfl (.inl rfl) rfl) (.inr moving)).tail (.lineNotice .syncLocked)).tail
      (.gaugeNotice .syncRestart)
  · exact .refl

theorem mayIssue_permits (may : mayIssue s = true) : s.ctl.phase.permitsStrobes = true := by
  simp only [mayIssue, Bool.and_eq_true] at may
  exact may.2

theorem riseStrobe_trail (pulse : isBottomPulse c = true) : Trail c s (riseStrobe s) := by
  have locked : Trail c s (lockSync s) := lockSync_trail (moves_of_pulse pulse)
  unfold riseStrobe
  dsimp only
  split
  case isTrue may =>
    split
    · exact locked.trans (issueStrobe_trail pulse (mayIssue_permits may))
    · exact locked
  case isFalse => exact locked.trans (feed_trail _ (.of rfl rfl rfl rfl rfl (.inl rfl) rfl) (.inr (moves_of_pulse pulse)))

/-! ## The slip window (R15 to R17) -/

theorem openWindow_trail (n : Nat) (small : n ≤ 2) : Trail c s (openWindow n s) :=
  feed_trail _ (.of rfl rfl rfl rfl rfl (.inr small) rfl)

/-- The record of a converting hide flagged SLIP. -/
def flagSlip (r : HideRecord) : HideRecord :=
  if r.state.converting then { r with flags := { r.flags with slip := true } } else r

@[simp] theorem flagSlip_state (r : HideRecord) : (flagSlip r).state = r.state := by
  unfold flagSlip
  split <;> rfl

/-- A flag on converting hides. -/
theorem RecordStep.ofConverting {f : HideRecord → HideRecord} (number : ∀ r, (f r).number = r.number)
    (state : ∀ r, (f r).state = r.state) (snapshot : ∀ r, (f r).article = r.article ∧ (f r).row = r.row)
    (other : ∀ r, r.state.converting = false → f r = r)
    (slip : ∀ r, r.flags.slip = true → (f r).flags.slip = true) (r : HideRecord) : RecordStep s r (f r) := by
  cases conv : r.state.converting with
  | false => exact (other r conv).symm ▸ .refl s r
  | true =>
    refine .ofUnfinished (number r) (by rw [state]) (snapshot r) (fun _ => ?_) (slip r)
    rw [HideState.unfinished_iff_age, (HideState.converting_iff_age _).mp conv]
    decide

theorem RecordStep.flagSlip (r : HideRecord) : RecordStep s r (flagSlip r) := by
  refine .ofConverting ?_ flagSlip_state ?_ ?_ ?_ r <;> intro q
  · unfold Machine.flagSlip; split <;> rfl
  · unfold Machine.flagSlip; split <;> exact ⟨rfl, rfl⟩
  · exact fun conv => by simp [Machine.flagSlip, conv]
  · unfold Machine.flagSlip
    split
    · exact fun _ => rfl
    · exact id

/-- The feed unit's trim after a third slip window in a row. -/
def stepTrim (f : Feed) : Feed := { f with trim := if f.trim < 4 then f.trim + 1 else f.trim }

theorem FeedStep.stepTrim : FeedStep s (stepTrim s.feed) := by
  refine ⟨rfl, rfl, ?_⟩
  rintro ⟨bot, top, trim, slip, period, ref⟩
  refine ⟨bot, top, ?_, slip, period, ref⟩
  dsimp only [Machine.stepTrim]
  split <;> omega

theorem slipFound_trail : Trail c s (slipFound s) := by
  have flagged := updRecords_trail (c := c) (s := s) flagSlip (fun r _ => .flagSlip r) (fun r => .of_eq (by simp))
    (.inl fun r => by unfold flagSlip; split <;> rfl)
  unfold slipFound
  dsimp only
  split
  · exact flagged.trans <| (feed_trail (stepTrim (updRecords flagSlip s).feed) .stepTrim).trans <|
      (raiseLineIf_trail _ .trimChanged).trans <|
      (Change.lineNotice .slip).trail.trans (openWindow_trail 0 (by omega))
  · exact flagged.trans (openWindow_trail _ (by omega))

theorem riseSlip_trail : Trail c s (riseSlip s) := by
  unfold riseSlip
  split
  · split
    · exact slipFound_trail
    · exact openWindow_trail 0 (by omega)
  · exact .refl

/-! ## Crossings (R56, R58, R72 to R76) -/

/-- A change of the record of a slice in the track that keeps its number and snapshot and makes it no younger. -/
theorem RecordStep.ofSlice {r r' : HideRecord} {sl : Slice} (number : r'.number = r.number)
    (age : r.state.age ≤ r'.state.age) (snapshot : r'.article = r.article ∧ r'.row = r.row)
    (held : sl ∈ s.track.slices) (hide : r.number = sl.hide)
    (slip : r.flags.slip = true → r'.flags.slip = true := by exact id) : RecordStep s r r' :=
  ⟨number, age, fun _ _ => snapshot, fun _ _ none => absurd hide.symm (none sl held), slip⟩

theorem deliverTarget_trail (sl : Slice) (z : Nat) (gap : Int) : Trail c s (deliverTarget sl z gap s) :=
  (place_trail _ z).trans (updChannel_trail _ z fun _ => id)

theorem deliverTargets_trail (sl : Slice) (z : Nat) (rs : List ZoneResult) :
    Trail c s (deliverTargets sl z rs s) := by
  induction rs generalizing z s with
  | nil => exact .refl
  | cons r rs ih =>
    unfold deliverTargets
    cases r.target with
    | none => exact ih _
    | some g => exact (deliverTarget_trail sl z g).trans (ih _)

/-- The track with the results of a slice's conversion. -/
def convertedTrack (sl : Slice) (outs : List ZoneSplit) (tr : Track) : Track :=
  { tr with slices := tr.slices.map fun x =>
      if x.strobe = sl.strobe && x.hide = sl.hide then
        { x with stage := .converted, results := outs.map ZoneSplit.result } else x }

/-- The area of a slice with these thicknesses under a geometry. -/
def areaOf (present : List Nat) (g : Geometry) : Nat := sliceArea present.length g.zoneWidth g.pitch

theorem convertSlice_eq {sl : Slice} {r : HideRecord} (found : findHide s sl.hide = some r) : convertSlice sl s =
    deliverTargets sl 0 ((splitInput sl r s).run.map ZoneSplit.result)
      { s with
        hides := s.hides.upd (HideRecord.convert (splitInput sl r s).run (splitInput sl r s).thicknesses
          (areaOf (splitInput sl r s).thicknesses s.settings.geometry)) sl.hide
        track := convertedTrack sl (splitInput sl r s).run s.track } := by
  unfold convertSlice
  rw [found]
  rfl

theorem convertSlice_trail {sl : Slice} (held : sl ∈ s.track.slices) (moving : moves c = true) : Trail c s (convertSlice sl s) := by
  cases found : findHide s sl.hide with
  | none =>
    have none_found : convertSlice sl s = s := by
      unfold convertSlice
      rw [found]
    rw [none_found]
  | some r =>
    rw [convertSlice_eq found]
    generalize (splitInput sl r s).run = outs
    generalize (splitInput sl r s).thicknesses = present
    refine (upd_trail (HideRecord.convert outs present (areaOf present s.settings.geometry)) sl.hide
      (convertedTrack sl outs s.track) (fun q _ same => ?_) (fun x there => ?_) rfl
      (fun q => q.state.follows_afterConversion) (.inr moving)).trans (deliverTargets_trail sl 0 _)
    · exact .ofSlice rfl q.state.age_le_afterConversion ⟨rfl, rfl⟩ held same
    · obtain ⟨y, held, rfl⟩ := List.mem_map.mp there
      exact .inl ⟨y, held, by split <;> rfl⟩

theorem oldestEntered_mem {sl : Slice} (found : oldestEntered s = some sl) :
    sl ∈ s.track.slices ∧ sl.stage = .entered :=
  ⟨List.mem_of_find?_eq_some found, by simpa using List.find?_some found⟩

theorem convertEntered_trail (moving : moves c = true) : Trail c s (convertEntered s) := by
  unfold convertEntered
  split
  case h_1 sl found => exact convertSlice_trail (oldestEntered_mem found).1 moving
  case h_2 => exact .refl

theorem riseLead_trail (moving : moves c = true) : Trail c s (riseLead s) := by
  unfold riseLead
  split
  case h_1 sl found =>
    split
    · exact convertSlice_trail (oldestEntered_mem found).1 moving
    · exact .refl
  case h_2 =>
    split
    · exact .refl
    · split
      · exact (departHead_trail moving).trans ((convertEntered_trail moving).trans (departDue_trail moving))
      · exact .refl

theorem retire_eq (sl : Slice) (rest : List Slice) (s : State) : retire sl rest s =
    tryDone sl.hide (detach (fun r => sl.isFor r)
      { s with hides := s.hides.upd (HideRecord.pass sl) sl.hide, track := { s.track with slices := rest } }) := rfl

theorem retire_trail {sl : Slice} {rest : List Slice} (slices : s.track.slices = sl :: rest)
    (moving : moves c = true) : Trail c s (retire sl rest s) := by
  have held : sl ∈ s.track.slices := slices ▸ .head _
  rw [retire_eq]
  refine (upd_trail (HideRecord.pass sl) sl.hide { s.track with slices := rest }
    (fun q _ same => ?_) (fun x there => ?_) rfl (fun _ => .of_eq rfl) (.inr moving)).trans
    ((detach_trail _).trans (tryDone_trail _ moving))
  · exact .ofSlice rfl le_rfl ⟨rfl, rfl⟩ held same
  · exact .inl ⟨x, slices ▸ .tail _ there, rfl⟩

theorem riseKnife_trail (moving : moves c = true) : Trail c s (riseKnife s) := by
  unfold riseKnife
  split
  case h_1 => exact .refl
  case h_2 sl rest slices =>
    split
    · exact retire_trail slices moving
    · exact .refl

theorem HideState.unfinished_of_isOpen {h : HideState} : h.isOpen = true → h.unfinished = true := by
  cases h <;> decide

theorem riseLength_trail (moving : moves c = true) : Trail c s (riseLength s) := by
  unfold riseLength
  split
  case h_1 r newest found _ =>
    obtain ⟨held, isOpen⟩ := openHide_mem found
    split
    · exact endAt_trail newest.num true held rfl (HideState.unfinished_of_isOpen isOpen) moving
    · exact .refl
  all_goals exact .refl

/-! ## The counts of the bottom encoder (R2 to R7) -/

theorem riseEvent_trail (pulse : isBottomPulse c = true) (e : RiseEvent) : Trail c s (riseEvent e s) := by
  have moving := moves_of_pulse pulse
  cases e with
  | strobe => exact (riseStrobe_trail pulse).trans settle_trail
  | slip => exact riseSlip_trail.trans settle_trail
  | lead => exact (riseLead_trail moving).trans settle_trail
  | knife => exact (riseKnife_trail moving).trans settle_trail
  | length => exact (riseLength_trail moving).trans settle_trail

theorem riseEvents_trail (pulse : isBottomPulse c = true) (es : List RiseEvent) :
    Trail c s (es.foldl (fun t e => riseEvent e t) s) := by
  induction es generalizing s with
  | nil => exact .refl
  | cons e es ih => exact (riseEvent_trail pulse e).trans ih

theorem riseH_trail (pulse : isBottomPulse c = true) (order : List RiseEvent) : Trail c s (riseH order s) :=
  (feed_trail { s.feed with h := s.feed.f } (.of rfl rfl rfl rfl rfl (.inl rfl) rfl)
    (.inr (moves_of_pulse pulse))).trans (riseEvents_trail pulse _)

theorem riseF_trail (pulse : isBottomPulse c = true) (order : List RiseEvent) : Trail c s (riseF order s) := by
  have risen := feed_trail (c := c) (s := s) { s.feed with f := s.feed.f + 1 } (.of rfl rfl rfl rfl rfl (.inl rfl) rfl)
    (.inr (moves_of_pulse pulse))
  unfold riseF
  dsimp only
  split
  · exact risen.trans (riseH_trail pulse order)
  · exact risen

theorem enterSettling_trail (moving : moves c = true) : Trail c s (enterSettling s) :=
  (feed_trail { s.feed with sync := .settling, settleStart := s.feed.h, newest := none }
    (.of rfl rfl rfl rfl rfl (.inl rfl) rfl) (.inr moving)).trans (raiseLineIf_trail _ .syncLost)

theorem restartWindow_trail : Trail c s (restartWindow s) := openWindow_trail 0 (by omega)

theorem discontinuity_trail (moving : moves c = true) : Trail c s (discontinuity s) :=
  (feed_trail { s.feed with h := s.feed.f } (.of rfl rfl rfl rfl rfl (.inl rfl) rfl) (.inr moving)).trans <|
    (enterSettling_trail moving).trans <|
    (flush_trail .reverse).trans <| restartWindow_trail.trans settle_trail

theorem fallF_trail (moving : moves c = true) : Trail c s (fallF s) := by
  have fallen := feed_trail (c := c) (s := s) { s.feed with f := s.feed.f - 1 } (.of rfl rfl rfl rfl rfl (.inl rfl) rfl)
    (.inr moving)
  unfold fallF
  dsimp only
  split
  · exact fallen.trans (discontinuity_trail moving)
  · exact fallen

theorem times_trail {f : State → State} (each : ∀ s, Trail c s (f s)) (n : Nat) : Trail c s (times f n s) := by
  induction n generalizing s with
  | zero => exact .refl
  | succ n ih => exact (each s).trans ih

theorem bottomPulse_trail (pulse : isBottomPulse c = true) (order : List RiseEvent) (step : Step) :
    Trail c s (bottomPulse order step s) := by
  cases step with
  | still => exact .refl
  | forward =>
    exact (feed_trail { s.feed with botAcc := forwardAcc s.settings.scale s.feed.botAcc }
      ⟨rfl, rfl, fun ⟨h1, h⟩ => ⟨forwardAcc_lt h1, h⟩⟩).trans
      (times_trail (fun _ => riseF_trail pulse order) _)
  | backward =>
    exact (feed_trail { s.feed with botAcc := reverseAcc s.settings.scale s.feed.botAcc }
      ⟨rfl, rfl, fun ⟨h1, h⟩ => ⟨reverseAcc_lt h1, h⟩⟩).trans
      (times_trail (fun _ => fallF_trail (moves_of_pulse pulse)) _)

end Sys2Proof.Machine

/-! PROOFS. Every command as a trail of elementary changes: the commands of the field lines, of the link and of
the two ports. -/

namespace Sys2Proof.Machine

variable {c : Instr} {s t : State}

/-! ## Outcomes -/

/-- An outcome is a next state with a property. -/
def Leads (P : State → Prop) : Out → Prop
  | .next t => P t
  | .fault _ => False
  | .refused _ => False

theorem Leads.of_next {P : State → Prop} {o : Out} (leads : Leads P o) (next : o = .next t) : P t := by
  rw [next] at leads
  exact leads

theorem Leads.exists {P : State → Prop} {o : Out} (leads : Leads P o) : ∃ t, o = .next t ∧ P t := by
  cases o with
  | next t => exact ⟨t, rfl, leads⟩
  | fault f => exact leads.elim
  | refused r => exact leads.elim

theorem Leads.mono {P Q : State → Prop} {o : Out} (leads : Leads P o) (each : ∀ t, P t → Q t) : Leads Q o := by
  cases o with
  | next t => exact each t leads
  | fault f => exact leads
  | refused r => exact leads

/-! ## Ports -/

theorem answerLine_trail (kind : Byte) (status : Status) (fields : List Byte) :
    Trail c s (answerLine kind status fields s) :=
  line_trail { s.line with port := _ } rfl rfl

theorem answerGauge_trail (kind : Byte) (status : Status) (fields : List Byte) :
    Trail c s (answerGauge kind status fields s) :=
  intake_trail { s.intake with port := _ } rfl rfl rfl

theorem countGaugeBadFrame_trail : Trail c s (countGaugeBadFrame s) :=
  intake_trail { s.intake with badFrame := _ } rfl rfl rfl

theorem takeGauge_trail (sdi : List Byte) : Trail c s (takeGauge sdi s) :=
  intake_trail { s.intake with unread := _, port := _ } rfl rfl rfl

theorem answerGaugeBadFrame_trail (kind : Byte) : Trail c s (answerGaugeBadFrame kind s) := by
  have bad : Trail c s (answerGauge kind .badFrame [] (countGaugeBadFrame s)) :=
    countGaugeBadFrame_trail.trans (answerGauge_trail kind .badFrame [])
  unfold answerGaugeBadFrame
  dsimp only
  split
  · exact bad.tail (.gaugeNotice .sliceRefused)
  · exact bad

theorem gaugeExamine_trail (sdi : List Byte) : Trail c s (gaugeExamine sdi s) := by
  unfold gaugeExamine
  split
  · exact .refl
  · exact countGaugeBadFrame_trail
  · exact (takeGauge_trail sdi).trans (answerGaugeBadFrame_trail _)
  · exact (takeGauge_trail sdi).trans (answerGauge_trail _ _ _)
  · exact takeGauge_trail sdi

theorem gaugePort_trail (p : Port) : Trail c s { s with intake := { s.intake with port := p } } :=
  intake_trail { s.intake with port := p } rfl rfl rfl

theorem linePort_trail (p : Port) : Trail c s { s with line := { s.line with port := p } } :=
  line_trail { s.line with port := p } rfl rfl

theorem countGaugeOverrun_trail : Trail c s (countGaugeOverrun s) :=
  (intake_trail { s.intake with overrun := bump s.intake.overrun } rfl rfl rfl).tail (.gaugeNotice .overrun)

theorem execGaugeTransferEnd_trail (sdi : List Byte) (lead : Lead) :
    Leads (Trail c s) (execGaugeTransferEnd sdi lead s) := by
  unfold execGaugeTransferEnd
  dsimp only
  split
  · exact (gaugePort_trail _).trans (gaugeExamine_trail sdi)
  · refine (gaugePort_trail (s.intake.port.recordSdo sdi.length lead)).trans ?_
    split
    · exact countGaugeOverrun_trail
    · exact .refl

theorem execGaugeResponsePlaced_trail : Leads (Trail c s) (execGaugeResponsePlaced s) := by
  unfold execGaugeResponsePlaced
  split
  · exact .refl
  · exact gaugePort_trail _

theorem countLineBadFrame_trail : Trail c s (countLineBadFrame s) :=
  line_trail { s.line with badFrame := bump s.line.badFrame } rfl rfl

theorem takeLine_trail (sdi : List Byte) : Trail c s (takeLine sdi s) :=
  line_trail { s.line with unread := _, port := _ } rfl rfl

theorem holdSync_trail : Trail c s (holdSync s) :=
  feed_trail { s.feed with syncHeld := true } (.of rfl rfl rfl rfl rfl (.inl rfl) rfl)

theorem lineExamine_trail (sdi : List Byte) : Trail c s (lineExamine sdi s) := by
  unfold lineExamine
  split
  · exact .refl
  · exact countLineBadFrame_trail
  · exact (takeLine_trail sdi).trans (countLineBadFrame_trail.trans (answerLine_trail _ _ _))
  · exact (takeLine_trail sdi).trans (answerLine_trail _ _ _)
  · split
    · exact (takeLine_trail sdi).trans holdSync_trail
    · exact takeLine_trail sdi

theorem lineLate_trail (sdi : List Byte) : Trail c s (lineLate sdi s) := by
  unfold lineLate
  split
  · exact (line_trail { s.line with hold := true, port := { s.line.port with answer := none } } rfl rfl).trans
      holdSync_trail
  · split
    · exact (line_trail { s.line with overrun := bump s.line.overrun } rfl rfl).tail (.lineNotice .overrun)
    · exact .refl

theorem execLineTransferEnd_trail (sdi : List Byte) (lead : Lead) :
    Leads (Trail c s) (execLineTransferEnd sdi lead s) := by
  unfold execLineTransferEnd
  dsimp only
  split
  · exact (linePort_trail _).trans (lineExamine_trail sdi)
  · exact (linePort_trail _).trans (lineLate_trail sdi)

theorem placeLine_trail (r : Response) : Trail c s (placeLine r s) := by
  have placed := line_trail (c := c) (s := s) { s.line with hold := false, port := s.line.port.place r } rfl rfl
  unfold placeLine
  dsimp only
  split
  · exact (placed.trans (feed_trail { s.feed with syncHeld := false }
      (.of rfl rfl rfl rfl rfl (.inl rfl) rfl))).tail (.gaugeNotice .syncRestart)
  · exact placed

theorem execLineResponsePlaced_trail : Leads (Trail c s) (execLineResponsePlaced s) := by
  unfold execLineResponsePlaced
  split
  · exact .refl
  · dsimp only [Leads]
    split
    · exact .refl
    · exact placeLine_trail _

/-! ## Field lines and the part's clock -/

theorem execBottomPulse_trail (pulse : isBottomPulse c = true) (a b : Bool) (order : List RiseEvent) :
    Leads (Trail c s) (execBottomPulse a b order s) :=
  (feed_trail { s.feed with botRef := ⟨a, b⟩ } (.of rfl rfl rfl rfl rfl (.inl rfl) rfl)).trans
    (bottomPulse_trail pulse order _)

theorem topPulse_trail (step : Step) : Trail c s (topPulse step s) := by
  cases step with
  | still => exact .refl
  | forward =>
    refine feed_trail { s.feed with topAcc := _, slip := { s.feed.slip with advance := _ } } ⟨rfl, rfl, ?_⟩
    exact fun ⟨h1, h2, h⟩ => ⟨h1, forwardAcc_lt h2, h⟩
  | backward =>
    refine feed_trail { s.feed with topAcc := _, slip := { s.feed.slip with advance := _ } } ⟨rfl, rfl, ?_⟩
    exact fun ⟨h1, h2, h⟩ => ⟨h1, reverseAcc_lt h2, h⟩

theorem execTopPulse_trail (a b : Bool) : Leads (Trail c s) (execTopPulse a b s) :=
  (feed_trail { s.feed with topRef := ⟨a, b⟩ } (.of rfl rfl rfl rfl rfl (.inl rfl) rfl)).trans (topPulse_trail _)

theorem captureInfeed_trail : Trail c s (captureInfeed s) :=
  feed_trail (s := s) (captureInfeed s).feed (.of rfl rfl rfl rfl rfl (.inl rfl) rfl)

theorem execInfeedEdge_trail (other : isBottomPulse c = false) : Leads (Trail c s) (execInfeedEdge s) :=
  captureInfeed_trail.trans
    (setWakeFlag_trail .infeed other)

theorem execHaltAsserted_trail (other : isBottomPulse c = false) : Leads (Trail c s) (execHaltAsserted s) :=
  (Change.haltLevel true).trail.trans (haltIfAsserted_trail other)

theorem execFeedStillAsserted_trail : Leads (Trail c s) (execFeedStillAsserted s) := by
  unfold execFeedStillAsserted
  dsimp only [Leads]
  split
  case isTrue braking =>
    exact (Change.stillLevel true).trail.trans <|
      (enterRest_trail (by rw [braking]; rfl)).trans arbitrate_trail
  case isFalse => exact (Change.stillLevel true).trail

theorem expireDwell_trail (other : isBottomPulse c = false) : Trail c s (expireDwell s) :=
  (advanceTo_trail _).trans <| (Change.dwell _).trail.trans (setWakeFlag_trail .timer other)

theorem execDwellTimerExpiry_trail (other : isBottomPulse c = false) :
    Leads (Trail c s) (execDwellTimerExpiry s) := by
  unfold execDwellTimerExpiry
  dsimp only [Leads]
  split
  · exact expireDwell_trail other
  · exact .refl

theorem execFeedRefPeriodStart_trail : Leads (Trail c s) (execFeedRefPeriodStart s) :=
  (advanceTo_trail _).tail .period

theorem endHigh_trail : Trail c s (endHigh s) := by
  unfold endHigh
  split
  · exact (advanceTo_trail _).tail .refLow
  · exact .refl

/-! ## The zone link -/

theorem freeLink_trail : Trail c s (freeLink s) := link_trail _

theorem finishLink_trail (other : isBottomPulse c = false) : Trail c s (finishLink s) :=
  (passResuming_trail other).trans arbitrate_trail

theorem startMove_trail (x : Txn) (r : Target) : Trail c s (startMove x r s) :=
  (updChannel_trail (fun y => { y with
    flight := some { target := r, accepted := s.now, deadline := s.now + s.settings.geometry.moveTimeout * 1000 }
    slot := if x.slotHolds then none else y.slot }) x.zone fun _ => id).trans <|
    (clearMisses_trail x.zone).trans (report_trail (some r) x.zone .sent)

theorem acceptReply_trail (x : Txn) (flags : Byte) : Trail c s (acceptReply x flags s) := by
  unfold acceptReply
  split
  · exact faultReply_trail _
  · split
    · exact clearMisses_trail _
    · split
      · split
        · exact startMove_trail x _
        · exact clearMisses_trail _
      · exact .refl

theorem takeAccept_trail (other : isBottomPulse c = false) (zone flags : Byte) :
    Trail c s (takeAccept zone flags s) := by
  unfold takeAccept
  split
  · exact freeLink_trail.trans <| (acceptReply_trail _ flags).trans (finishLink_trail other)
  · exact .refl

theorem endClearPoll_trail (x : Txn) : Trail c s (endClearPoll x s) := by
  unfold endClearPoll
  split
  · exact updChannel_trail _ _ fun _ => id
  · exact .refl

theorem statusReply_trail (x : Txn) (position : BitVec 16) (flags : Byte) :
    Trail c s (statusReply x position flags s) := by
  have recorded := (endClearPoll_trail (c := c) (s := s) x).trans
    (updChannel_trail (fun y => { y with position := some position }) x.zone fun _ => id)
  unfold statusReply
  dsimp only
  split
  · exact recorded.trans (faultReply_trail _)
  · split
    · exact recorded.trans <| (clearMisses_trail _).trans (completeMove_trail _)
    · exact recorded.trans (clearMisses_trail _)

theorem takeStatus_trail (other : isBottomPulse c = false) (zone : Byte) (position : BitVec 16) (flags : Byte) :
    Trail c s (takeStatus zone position flags s) := by
  unfold takeStatus
  split
  · exact freeLink_trail.trans <| (statusReply_trail _ position flags).trans (finishLink_trail other)
  · exact .refl

theorem missReply_trail (other : isBottomPulse c = false) (x : Txn) : Trail c s (missReply x s) :=
  (advanceTo_trail _).trans <| freeLink_trail.trans <| (endClearPoll_trail x).trans <|
    (countMiss_trail _).trans (finishLink_trail other)

theorem execMiss_trail (other : isBottomPulse c = false) : Leads (Trail c s) (execMiss s) := by
  unfold execMiss
  split
  · exact missReply_trail other _
  · exact .refl

theorem execZoneLinkFrameIgnored_trail (other : isBottomPulse c = false) (bytes : List (Option Byte)) :
    Leads (Trail c s) (execZoneLinkFrameIgnored bytes s) := by
  unfold execZoneLinkFrameIgnored
  split
  · exact .refl
  · exact takeAccept_trail other _ _
  · exact takeStatus_trail other _ _ _

theorem retryEntry_trail (m : Move) (z : Nat) : Trail c s (retryEntry m z s) := by
  unfold retryEntry
  split
  · exact place_trail _ z
  · exact .refl

theorem timeoutMove_trail (other : isBottomPulse c = false) (m : Move) (z : Nat) :
    Trail c s (timeoutMove m z s) := by
  refine (advanceTo_trail m.deadline).trans <| (endFlight_trail .timedOut z).trans <|
    (updChannel_trail (fun x => { x with lagging := true, timeouts := x.timeouts + 1 }) z fun _ => id).trans <|
    (Change.lineNotice .zoneLagging).trail.trans <| Relation.ReflTransGen.trans ?_ (finishLink_trail other)
  split
  · exact enterFault_trail z
  · exact retryEntry_trail m z

theorem execMoveTimeout_trail (other : isBottomPulse c = false) (z : Nat) :
    Leads (Trail c s) (execMoveTimeout z s) := by
  unfold execMoveTimeout
  split
  · exact timeoutMove_trail other _ z
  · exact .refl

theorem closeWindow_trail (start : Nat) : Trail c s (closeWindow start s) :=
  (advanceTo_trail _).trans <| (link_trail _).trans arbitrate_trail

theorem execAbandonedReplyWindowClose_trail : Leads (Trail c s) (execAbandonedReplyWindowClose s) := by
  unfold execAbandonedReplyWindowClose
  split
  · exact closeWindow_trail _
  · exact .refl

end Sys2Proof.Machine

/-! PROOFS. Every command as a trail of elementary changes: the requests of the two ports. -/

namespace Sys2Proof.Machine

variable {c : Instr} {s t : State}

theorem RecordStep.trans {r r' r'' : HideRecord} (h : RecordStep s r r') (h' : RecordStep s r' r'') :
    RecordStep s r r'' := by
  refine ⟨h'.number.trans h.number, h.age.trans h'.age, fun distinct grown => ?_, fun distinct finished none active => ?_,
    h'.slip ∘ h.slip⟩
  · obtain ⟨article, row⟩ := h.snapshot distinct grown
    obtain ⟨article', row'⟩ := h'.snapshot distinct (grown.trans_le h.age)
    exact ⟨article'.trans article, row'.trans row⟩
  · have still : r'.state.unfinished = false := by
      rw [Bool.eq_false_iff, Ne, HideState.unfinished_iff_age] at finished ⊢
      exact fun young => finished (h.age.trans_lt young)
    rw [h'.report distinct still (by rwa [h.number]) active, h.report distinct finished none active]

/-! ## Gauge requests (R37 to R42) -/

theorem refuseSlice_trail (status : Status) : Trail c s (refuseSlice status s) :=
  (Change.gaugeNotice .sliceRefused).trail.trans (answerGauge_trail _ _ _)

theorem storeReply_trail (profile : s.ctl.strap = .profile) (n : Num) (reply : List Reading)
    (moving : moves c = true) : Trail c s (storeReply n reply s) :=
  (Change.list _ (fun empty => by simp [empty]) (fun _ _ _ => .inl profile) (.inr moving)).trail

theorem slice_trail (profile : s.ctl.strap = .profile) (n : Num) (reply : List Reading) (moving : moves c = true) :
    Trail c s (slice n reply s) := by
  unfold slice
  split
  · exact refuseSlice_trail _
  · split
    · exact refuseSlice_trail _
    · split
      · exact (intake_trail { s.intake with late := bump s.intake.late } rfl rfl rfl).trans (refuseSlice_trail _)
      · split
        · exact (intake_trail { s.intake with duplicate := bump s.intake.duplicate } rfl rfl rfl).trans
            (refuseSlice_trail _)
        · exact (storeReply_trail profile n reply moving).trans <| (departDue_trail moving).trans (answerGauge_trail _ _ _)

theorem execSlice_trail (n : Num) (raw : List (BitVec 16)) (moving : moves c = true) : Leads (Trail c s) (execSlice n raw s) := by
  unfold execSlice
  split
  · exact answerGaugeBadFrame_trail _
  · split
    case h_1 => exact refuseSlice_trail _
    case h_2 profile => exact slice_trail profile n _ moving

theorem refuseAnnounce_trail (status : Status) : Trail c s (refuseAnnounce status s) := by
  unfold refuseAnnounce
  dsimp only
  split
  · exact (intake_trail { s.intake with refusedAnnounce := bump s.intake.refusedAnnounce } rfl rfl rfl).trans <|
      (Change.gaugeNotice .hideRefused).trail.trans (answerGauge_trail _ _ _)
  · exact (Change.gaugeNotice .hideRefused).trail.trans (answerGauge_trail _ _ _)

theorem HideTable.leave_completion_subset (n : Num) (h : HideTable) : (h.leave n).completion ⊆ h.completion :=
  List.filter_sublist.subset

/-- The head of the completion order list that a reclaim takes is released under a command that may do so. -/
def MayReclaim (c : Instr) (s : State) : Prop :=
  ∀ n ∈ s.hides.completion.head?, c = .release n ∨ ∃ f tag, c = .announce f tag

theorem MayReclaim.announce {f tag : Num} : MayReclaim (.announce f tag) s := fun _ _ => .inr ⟨f, tag, rfl⟩

theorem reclaim_trail (own : MayReclaim c s) : Trail c s (reclaim s) := by
  unfold reclaim
  split
  · exact .refl
  · split
    · exact .refl
    case h_2 n rest list =>
      exact (Change.drop n { (s.hides.leave n).free n with reclaimed := bump s.hides.reclaimed }
        (own n (by simp [list])) rfl (HideTable.leave_completion_subset _ _) rfl fun sound => sound.leaveFree n _).trail.tail (.lineNotice .reportLost)

theorem consumeCapture_trail : Trail c s (consumeCapture s) :=
  feed_trail { s.feed with capture := none, overwrite := false } (.of rfl rfl rfl rfl rfl (.inl rfl) rfl)

/-- The record that an ANNOUNCE fills. -/
def filledRecord (e : Entry) (tag : Num) (edge : Option Pos) (s : State) : HideRecord :=
  (newRecord e tag edge s).checkEdge s.settings.geometry

theorem HideRecord.checkEdge_number (g : Geometry) (r : HideRecord) : (r.checkEdge g).number = r.number := by
  unfold HideRecord.checkEdge
  split <;> rfl

theorem HideRecord.checkEdge_state (g : Geometry) (r : HideRecord) : (r.checkEdge g).state = r.state := by
  unfold HideRecord.checkEdge
  split <;> rfl

@[simp] theorem filledRecord_number (e : Entry) (tag : Num) (edge : Option Pos) (s : State) :
    (filledRecord e tag edge s).number = s.hides.nextNumber :=
  HideRecord.checkEdge_number _ _

@[simp] theorem filledRecord_state (e : Entry) (tag : Num) (edge : Option Pos) (s : State) :
    (filledRecord e tag edge s).state = .scanning :=
  HideRecord.checkEdge_state _ _

/-- Filling a record written out: the bases of its number, the table, the notice. -/
theorem fillRecord_eq (e : Entry) (tag : Num) (edge : Option Pos) (s : State) : fillRecord e tag edge s =
    raiseLineIf ((filledRecord e tag edge s).flags.noEdge || (filledRecord e tag edge s).flags.edgeMismatch) .edge
      { s with
        hides := { s.hides with
          records := s.hides.records ++ [filledRecord e tag edge s]
          nextNumber := advanceNumber ((s.hides.records ++ [filledRecord e tag edge s]).map HideRecord.number) 9
            (nextNumberAfter (filledRecord e tag edge s).number) }
        zones := s.zones.map fun c =>
          { c with base := c.base.filter fun b => b.hide ≠ (filledRecord e tag edge s).number } } := rfl

theorem fillRecord_trail (own : ∃ f tag, c = .announce f tag) (profile : s.ctl.strap = .profile)
    (permitted : s.ctl.phase.permitsStrobes = true) (e : Entry) (tag : Num) (edge : Option Pos) :
    Trail c s (fillRecord e tag edge s) := by
  have bases := zones_trail (c := c) (s := s) (s.zones.map fun x =>
      { x with base := x.base.filter fun b => b.hide ≠ (filledRecord e tag edge s).number }) s.link
    (fun x held track => by
      obtain ⟨y, there, rfl⟩ := List.mem_map.mp held
      exact ⟨y, there, track⟩)
  rw [fillRecord_eq]
  exact (bases.tail (.fill _ _ own profile permitted (filledRecord_number e tag edge s)
    (filledRecord_state e tag edge s))).trans (raiseLineIf_trail _ .edge)

@[simp] theorem reclaim_ctl (s : State) : (reclaim s).ctl = s.ctl := by
  unfold reclaim
  split
  · rfl
  · split <;> rfl

theorem openNew_trail {f : Num} (profile : s.ctl.strap = .profile) (permitted : s.ctl.phase.permitsStrobes = true)
    (e : Entry) (tag : Num) : Trail (.announce f tag) s (openNew e tag s) := by
  have own : ∃ f' tag', Instr.announce f tag = .announce f' tag' := ⟨f, tag, rfl⟩
  unfold openNew
  split
  case h_1 r found =>
    obtain ⟨held, isOpen⟩ := openHide_mem found
    split
    · exact (Change.drop r.number (s.hides.free r.number) (.inr own) rfl (List.Subset.refl _) rfl fun sound =>
        sound.free held (HideState.unfinished_of_isOpen isOpen)).trail.trans
        (fillRecord_trail own (by exact profile) (by exact permitted) e tag _)
    · refine (endAt_trail (e.num - 1) true held rfl (HideState.unfinished_of_isOpen isOpen) rfl).trans <|
        (reclaim_trail .announce).trans <| consumeCapture_trail.trans (fillRecord_trail own ?_ ?_ e tag _)
      · simp [consumeCapture, profile]
      · simp [consumeCapture, permitted]
  case h_2 =>
    refine (reclaim_trail .announce).trans <| consumeCapture_trail.trans (fillRecord_trail own ?_ ?_ e tag _)
    · simp [consumeCapture, profile]
    · simp [consumeCapture, permitted]

theorem announce_trail (profile : s.ctl.strap = .profile) (f tag : Num) :
    Trail (.announce f tag) s (announce f tag s) := by
  unfold announce
  split
  · exact refuseAnnounce_trail _
  case isFalse issuing =>
    split
    · exact refuseAnnounce_trail _
    · split
      · exact refuseAnnounce_trail _
      · split
        · exact refuseAnnounce_trail _
        · split
          · exact refuseAnnounce_trail _
          · split
            · exact refuseAnnounce_trail _
            · exact (openNew_trail profile (by simpa using issuing) _ tag).trans (answerGauge_trail _ _ _)

theorem execAnnounce_trail (f tag : Num) : Leads (Trail (.announce f tag) s) (execAnnounce f tag s) := by
  unfold execAnnounce
  split
  case h_1 => exact refuseAnnounce_trail _
  case h_2 profile => exact announce_trail profile f tag

theorem refuseEnd_trail (status : Status) : Trail c s (refuseEnd status s) :=
  (Change.gaugeNotice .hideRefused).trail.trans (answerGauge_trail _ _ _)

theorem endRequest_trail (last : Num) (moving : moves c = true) : Trail c s (endRequest last s) := by
  unfold endRequest
  split
  case h_1 => exact refuseEnd_trail _
  case h_2 r found =>
    obtain ⟨held, isOpen⟩ := openHide_mem found
    split
    · exact refuseEnd_trail _
    · exact (endAt_trail _ _ held rfl (HideState.unfinished_of_isOpen isOpen) moving).trans <|
        settle_trail.trans (answerGauge_trail _ _ _)

theorem execEndHide_trail (last : Num) (moving : moves c = true) : Leads (Trail c s) (execEndHide last s) := by
  unfold execEndHide
  split
  · exact refuseEnd_trail _
  · exact endRequest_trail last moving

theorem execWakeRequest_trail (other : isBottomPulse c = false) : Leads (Trail c s) (execWakeRequest s) := by
  unfold execWakeRequest
  split
  · exact answerGauge_trail _ _ _
  · exact (setWakeFlag_trail .gauge other).trans (answerGauge_trail _ _ _)

theorem execGaugeStatus_trail : Leads (Trail c s) (execGaugeStatus s) := by
  unfold execGaugeStatus
  split <;> exact answerGauge_trail _ _ _

theorem forceOpenEnd_trail (moving : moves c = true) : Trail c s (forceOpenEnd s) := by
  unfold forceOpenEnd
  split
  case h_1 r found =>
    obtain ⟨held, isOpen⟩ := openHide_mem found
    exact endAt_trail _ _ held rfl (HideState.unfinished_of_isOpen isOpen) moving
  case h_2 => exact .refl

theorem gaugeReset_trail (moving : moves c = true) : Trail c s (gaugeReset s) :=
  (gaugePort_trail { s.intake.port with rx := none }).trans <| (departAll_trail moving _).trans <|
    (forceOpenEnd_trail moving).trans settle_trail

theorem execGaugeReset_trail (moving : moves c = true) : Leads (Trail c s) (execGaugeReset s) := by
  unfold execGaugeReset
  split
  · exact answerGauge_trail _ _ _
  · exact (gaugeReset_trail moving).trans (answerGauge_trail _ _ _)

theorem execClearGaugeNotices_trail (named : Byte) (mask : Option Byte) :
    Leads (Trail (.clearGaugeNotices named mask) s) (execClearGaugeNotices named mask s) := by
  unfold execClearGaugeNotices
  split
  · exact answerGauge_trail _ _ _
  · exact (Change.clearGaugeNotices named mask rfl).trail.trans (answerGauge_trail _ _ _)

/-! ## The machine state controller's requests (R135 to R141, R152) -/

theorem execStart_trail (other : isBottomPulse c = false) : Leads (Trail c s) (execStart s) := by
  unfold execStart
  split
  · exact answerLine_trail _ _ _
  · split
    case isTrue standby =>
      exact (enterResuming_trail (by rw [standby]; rfl) other).trans <|
        arbitrate_trail.trans (answerLine_trail _ _ _)
    case isFalse => exact answerLine_trail _ _ _

theorem enterClearing_trail (issuing : s.ctl.phase.permitsStrobes = true) : Trail c s (enterClearing s) :=
  (enterPhase_trail .clearing (.inl rfl) (.inr issuing)).trans passClearing_trail

theorem takeRest_trail (running : s.ctl.phase = .run) (target : RestTarget) : Trail c s (takeRest target s) := by
  unfold takeRest
  dsimp only
  split
  · exact (Change.restTarget .dwell).trail.trans <|
      (enterBraking_trail (by exact running ▸ rfl)).trans arbitrate_trail
  · exact (Change.restTarget .park).trail.trans <|
      (enterClearing_trail (by exact running ▸ rfl)).trans arbitrate_trail

theorem execRest_trail (code : Byte) : Leads (Trail c s) (execRest code s) := by
  unfold execRest
  split
  · exact answerLine_trail _ _ _
  · split
    case isTrue running =>
      split
      · exact answerLine_trail _ _ _
      · exact (takeRest_trail running _).trans (answerLine_trail _ _ _)
    case isFalse => exact answerLine_trail _ _ _

theorem execWake_trail (other : isBottomPulse c = false) : Leads (Trail c s) (execWake s) :=
  (setWakeFlag_trail .line other).trans (answerLine_trail _ _ _)

theorem leaveHalt_trail (halted : s.ctl.phase = .halt) (other : isBottomPulse c = false) :
    Trail c s (leaveHalt s) := by
  refine (enterPhase_trail .standby (.inr (by rw [halted]; rfl)) (.inl other)).trans <|
    Relation.ReflTransGen.trans ?_ arbitrate_trail
  refine zones_trail _ _ fun x held track => ?_
  obtain ⟨y, there, rfl⟩ := List.mem_map.mp held
  exact ⟨y, there, track⟩

theorem execClear_trail (other : isBottomPulse c = false) : Leads (Trail c s) (execClear s) := by
  unfold execClear
  split
  case isTrue leaves =>
    simp only [Bool.and_eq_true, decide_eq_true_eq] at leaves
    exact (leaveHalt_trail leaves.1 other).trans (answerLine_trail _ _ _)
  case isFalse => exact answerLine_trail _ _ _

theorem execClearWake_trail (named : Byte) : Leads (Trail (.clearWake named) s) (execClearWake named s) :=
  (Change.clearWake named rfl _).trail.trans (answerLine_trail _ _ _)

theorem execWakeEnable_trail (other : isBottomPulse c = false) (enables : Byte) :
    Leads (Trail c s) (execWakeEnable enables s) :=
  (changeWake_trail other (.enables _)).trans (answerLine_trail _ _ _)

/-! ## The hide table's requests (R57, R60, R63 to R65) -/

/-- A change of the records of one number. -/
theorem updHide_trail {f : HideRecord → HideRecord} {n : Num}
    (each : ∀ q ∈ s.hides.records, q.number = n → RecordStep s q (f q))
    (follows : ∀ q : HideRecord, q.state.Follows (f q).state) (keys : ∀ q, (f q).key = q.key) :
    Trail c s (updHide f n s) := by
  refine upd_trail f n s.track each (fun sl there => .inl ⟨sl, there, rfl⟩) rfl follows (.inl (.inl ⟨rfl, ?_⟩))
  rw [HideTable.upd, List.map_map]
  refine List.map_congr_left fun q _ => ?_
  dsimp only [Function.comp]
  split
  · exact keys q
  · rfl

theorem takeBind_trail {hide : Num} {r : HideRecord} (found : findHide s hide = some r) (young : r.state.age = 0)
    (row : Nat) : Trail c s (takeBind hide row s) := by
  obtain ⟨held, numbered⟩ := findHide_mem found
  refine updHide_trail (fun q there same => ?_) (fun _ => .of_eq rfl) fun _ => rfl
  refine ⟨rfl, le_rfl, fun distinct grown => ?_, fun distinct finished => ?_, id⟩
  · rw [distinct.unique there held (same.trans numbered.symm)] at grown
    omega
  · rw [distinct.unique there held (same.trans numbered.symm), Bool.eq_false_iff, Ne,
      HideState.unfinished_iff_age] at finished
    omega

theorem execBind_trail (hide : Num) (row : Nat) : Leads (Trail c s) (execBind hide row s) := by
  unfold execBind
  split
  · exact answerLine_trail _ _ _
  · split
    case h_1 => exact answerLine_trail _ _ _
    case h_2 r found =>
      split
      case h_1 scanning => exact (takeBind_trail found (by rw [scanning]; rfl) row).trans (answerLine_trail _ _ _)
      case h_2 scanned => exact (takeBind_trail found (by rw [scanned]; rfl) row).trans (answerLine_trail _ _ _)
      all_goals exact answerLine_trail _ _ _

/-- The range of an ABANDONED record closed where none of its strobes is in the list. -/
def closedRange (list : List Entry) (r : HideRecord) : HideRecord :=
  if r.state = .abandoned && r.rangeOpen && !(list.any fun e => r.holds e.num) then { r with rangeOpen := false } else r

theorem RecordStep.closedRange (list : List Entry) (r : HideRecord) : RecordStep s r (closedRange list r) := by
  unfold Machine.closedRange
  split <;> exact .ofSame rfl rfl ⟨rfl, rfl⟩ fun _ => rfl

/-- The hide table after an ABANDON. -/
def lineAbandonedTable (hide : Num) (newest : Option StrobeId) (list : List Entry) (h : HideTable) : HideTable :=
  { h with
    records := (h.records.map fun r => if r.number = hide then r.abandonedBy newest else r).map (closedRange list)
    completion := h.completion ++ [hide] }

/-- An ABANDON written out: the targets, the notice, the table with the track, the profile, the end. -/
theorem takeAbandon_eq (hide : Num) (s : State) : takeAbandon hide s =
    settle (applyPending { raiseLine .hideAbandoned (detach (fun r => decide (r.hide = hide)) s) with
      hides := lineAbandonedTable hide s.feed.newest s.intake.list s.hides
      track := { s.track with slices := s.track.slices.filter fun sl => sl.hide ≠ hide } }) := rfl

/-- The record of number `hide` abandoned by the line, and closed where it can be. -/
def lineAbandoned (hide : Num) (newest : Option StrobeId) (list : List Entry) (r : HideRecord) : HideRecord :=
  closedRange list (if r.number = hide then r.abandonedBy newest else r)

@[simp] theorem closedRange_state (list : List Entry) (r : HideRecord) : (closedRange list r).state = r.state := by
  unfold closedRange
  split <;> rfl

theorem lineAbandonedTable_records (hide : Num) (newest : Option StrobeId) (list : List Entry) (h : HideTable) :
    (lineAbandonedTable hide newest list h).records = h.records.map (lineAbandoned hide newest list) := by
  rw [lineAbandonedTable, List.map_map]
  rfl

theorem lineAbandoned_state (hide : Num) (newest : Option StrobeId) (list : List Entry) (r : HideRecord) :
    (lineAbandoned hide newest list r).state = if r.number = hide then .abandoned else r.state := by
  unfold lineAbandoned
  rw [closedRange_state]
  split <;> rfl

theorem TableStep.lineAbandoned {hide : Num} {r : HideRecord} {newest : Option StrobeId} {list : List Entry}
    (held : r ∈ s.hides.records) (numbered : r.number = hide) (unfinished : r.state.unfinished = true) :
    TableStep s (lineAbandonedTable hide newest list s.hides)
      { s.track with slices := s.track.slices.filter fun sl => sl.hide ≠ hide } := by
  have steps : ∀ q ∈ s.hides.records, RecordStep s q (Machine.lineAbandoned hide newest list q) := by
    refine fun q there => .trans ?_ (.closedRange list _)
    split
    case isTrue same =>
      refine .ofUnfinished rfl q.state.age_le_two ⟨rfl, rfl⟩ fun distinct => ?_
      rwa [distinct.unique there held (same.trans numbered.symm)]
    case isFalse => exact .refl _ q
  refine ⟨?_, fun empty => ?_, rfl, ?_, rfl, fun sound => ?_⟩
  · rw [lineAbandonedTable_records, List.forall₂_map_right_iff]
    exact List.forall₂_same.mpr steps
  · exact absurd (empty ▸ held) List.not_mem_nil
  · exact fun sl there => .inl ⟨sl, (List.mem_filter.mp there).1, rfl⟩
  · refine sound.finishOne (lineAbandonedTable_records ..) rfl (fun q there => (steps q there).number) (fun q _ => ?_)
      rfl rfl (fun q _ other => ?_) held numbered unfinished ?_ <;> rw [lineAbandoned_state]
    · split
      · exact fun isOpen => absurd isOpen (by decide)
      · exact id
    · rw [if_neg other]
    · rw [if_pos numbered]
      rfl

theorem takeAbandon_trail {hide : Num} {r : HideRecord} (found : findHide s hide = some r)
    (unfinished : r.state.unfinished = true) (moving : moves c = true) : Trail c s (takeAbandon hide s) := by
  obtain ⟨held, numbered⟩ := findHide_mem found
  have noticed : Trail c s (raiseLine .hideAbandoned (detach (fun r => decide (r.hide = hide)) s)) :=
    (detach_trail _).tail (.lineNotice .hideAbandoned)
  rw [takeAbandon_eq]
  exact (noticed.tail (.finish _ _ (.lineAbandoned (r := r) held numbered unfinished) (.inr moving))).trans settle_trail

theorem execAbandon_trail (hide : Num) (moving : moves c = true) : Leads (Trail c s) (execAbandon hide s) := by
  unfold execAbandon
  split
  case h_1 => exact answerLine_trail _ _ _
  case h_2 r found =>
    split
    case isTrue unfinished => exact (takeAbandon_trail found unfinished moving).trans (answerLine_trail _ _ _)
    case isFalse => exact answerLine_trail _ _ _

theorem execRelease_trail (hide : Num) : Leads (Trail (.release hide) s) (execRelease hide s) := by
  unfold execRelease
  split
  · exact answerLine_trail _ _ _
  · split
    · exact answerLine_trail _ _ _
    · exact (Change.drop hide ((s.hides.leave hide).free hide) (.inl rfl) rfl
        (HideTable.leave_completion_subset hide s.hides) rfl fun sound => sound.leaveFree hide _).trail.trans
        (answerLine_trail _ _ _)

theorem execReadHide_trail (hide : Num) : Leads (Trail c s) (execReadHide hide s) := by
  unfold execReadHide
  split <;> exact answerLine_trail _ _ _

theorem advanceCursor_trail {r : HideRecord} (found : recordAtCursor s = some r) : Trail c s (advanceCursor s) := by
  refine (Change.table { s.hides with cursor := s.hides.cursor + 1 } s.track
    ⟨List.forall₂_same.mpr fun r _ => .refl s r, fun _ => rfl, rfl, fun sl held => .inl ⟨sl, held, rfl⟩, rfl,
      fun sound => ?_⟩ id (.inl (.inl ⟨rfl, rfl⟩))).trail
  have inside : s.hides.cursor < s.hides.completion.length := by
    unfold recordAtCursor at found
    split at found
    case h_1 n at_cursor => exact (List.getElem?_eq_some_iff.mp at_cursor).1
    case h_2 => contradiction
  obtain ⟨length, distinct, numbers, next, oneOpen, perm, _⟩ := sound
  exact ⟨length, distinct, numbers, next, oneOpen, perm, inside⟩

theorem execReadReport_trail : Leads (Trail c s) (execReadReport s) := by
  unfold execReadReport
  split
  case h_1 => exact answerLine_trail _ _ _
  case h_2 r found => exact (advanceCursor_trail found).trans (answerLine_trail _ _ _)

end Sys2Proof.Machine

/-! PROOFS. Every command as a trail of elementary changes: the settings, the zones, and the whole of `exec` and
`tick`. -/

namespace Sys2Proof.Machine

variable {c : Instr} {s t : State}

/-! ## Checks -/

/-- No item fails just where every item passes. -/
theorem firstFailing_eq_zero_iff {checks : List (Nat × Bool)} (numbered : ∀ x ∈ checks, x.1 ≠ 0) :
    firstFailing checks = 0 ↔ ∀ x ∈ checks, x.2 = true := by
  induction checks with
  | nil => simp [firstFailing]
  | cons x rest ih =>
    obtain ⟨item, passes⟩ := x
    have here : item ≠ 0 := numbered (item, passes) (.head _)
    cases passes with
    | false => simp [firstFailing, here]
    | true => simpa [firstFailing] using ih fun y held => numbered y (.tail _ held)

theorem articleItem_zero_of {row : Nat} {a : Article} (passes : articleItem row a = 0) : articleItem 0 a = 0 := by
  rw [articleItem, firstFailing_eq_zero_iff (by simp [articleChecks])] at passes ⊢
  simp only [articleChecks, List.forall_mem_cons] at passes ⊢
  exact ⟨by decide, passes.2⟩

theorem sixteen_length (offsets : List Int) : (sixteen offsets).length = 16 := by simp [sixteen, Config.zones]

theorem offsetsOk_sixteen {offsets : List Int} (inRange : knifeFailing offsets = none) :
    OffsetsOk (sixteen offsets) := by
  refine ⟨sixteen_length offsets, fun v held => ?_⟩
  simp only [sixteen, List.mem_map] at held
  obtain ⟨z, zone, rfl⟩ := held
  simpa [Machine.inRange] using List.find?_eq_none.mp inRange z zone

/-! ## The settings' requests (R157 to R170) -/

theorem putArticle_trail {row : Nat} {a : Article} (passes : articleItem row a = 0) :
    Trail (.writeArticle row a) s (putArticle row a s) := by
  refine (Change.setting (s := s) (putArticle row a s).settings ⟨rfl, rfl, fun locked => ⟨locked, rfl⟩,
    fun other => absurd rfl (other row a), fun _ => rfl,
    fun _ => rfl, fun _ => rfl, fun _ => rfl, ?_⟩).trail
  rintro ⟨length, articles, rest⟩
  refine ⟨by simpa [putArticle] using length, fun b held => ?_, rest⟩
  obtain held | ⟨_, _, rfl⟩ := mem_updAt held
  · exact articles b held
  · exact articleItem_zero_of passes

theorem execWriteArticle_trail (row : Nat) (a : Article) :
    Leads (Trail (.writeArticle row a) s) (execWriteArticle row a s) := by
  unfold execWriteArticle
  split
  case isTrue passes => exact (putArticle_trail passes).trans (answerLine_trail _ _ _)
  case isFalse => exact answerLine_trail _ _ _

theorem execSelectArticle_trail (row : Nat) : Leads (Trail (.selectArticle row) s) (execSelectArticle row s) := by
  unfold execSelectArticle
  split
  · exact answerLine_trail _ _ _
  case isFalse inside =>
    refine (Change.setting { s.settings with current := row } ⟨rfl, rfl, fun locked => ⟨locked, rfl⟩, fun _ => rfl,
      fun other => absurd rfl (other row), fun _ => rfl, fun _ => rfl, fun _ => rfl, ?_⟩).trail.trans
      (answerLine_trail _ _ _)
    rintro ⟨length, articles, _, rest⟩
    exact ⟨length, articles, Nat.not_lt.mp inside, rest⟩

theorem execReadArticle_trail (row : Nat) : Leads (Trail c s) (execReadArticle row s) := by
  unfold execReadArticle
  split <;> exact answerLine_trail _ _ _

theorem execWriteKnife_trail (offsets : List Int) : Leads (Trail (.writeKnife offsets) s) (execWriteKnife offsets s) := by
  unfold execWriteKnife
  split
  case h_1 => exact answerLine_trail _ _ _
  case h_2 inRange => exact (Change.knife offsets rfl inRange).trail.trans (answerLine_trail _ _ _)

theorem takeGeometry_trail {g : Geometry} (unlocked : s.settings.locked = false) (passes : geometryItem g = 0) :
    Trail (.setGeometry g) s (takeGeometry g s) := by
  refine (Change.setting { s.settings with geometry := g } ⟨rfl, rfl, fun locked => ?_, fun _ => rfl, fun _ => rfl,
    fun other => absurd rfl (other g), fun _ => rfl, fun _ => rfl, ?_⟩).trail.trans <|
    (feed_trail (s := { s with settings := { s.settings with geometry := g } })
      { s.feed with nextPos := posPlus s.feed.h g.pitch }
      (.of rfl rfl rfl rfl rfl (.inl rfl) rfl) (.inr rfl)).trans restartWindow_trail
  · rw [unlocked] at locked
    contradiction
  · rintro ⟨length, articles, current, knife, pending, _, rest⟩
    exact ⟨length, articles, current, knife, pending, passes, rest⟩

theorem execSetGeometry_trail (g : Geometry) : Leads (Trail (.setGeometry g) s) (execSetGeometry g s) := by
  unfold execSetGeometry
  split
  · exact answerLine_trail _ _ _
  case isFalse unlocked =>
    split
    · split
      case isTrue passes =>
        exact (takeGeometry_trail (by simpa using unlocked) passes).trans (answerLine_trail _ _ _)
      case isFalse => exact answerLine_trail _ _ _
    · exact answerLine_trail _ _ _

theorem takeScale_trail {v : Nat} (unlocked : s.settings.locked = false) (low : 10 ≤ v) (high : v ≤ 4000) :
    Trail (.setScale v) s (takeScale v s) :=
  (Change.scale v rfl unlocked low high).trail.trans <| (enterSettling_trail rfl).trans <| (flush_trail .scale).trans <|
    restartWindow_trail.trans settle_trail

theorem execSetScale_trail (v : Nat) : Leads (Trail (.setScale v) s) (execSetScale v s) := by
  unfold execSetScale
  split
  · exact answerLine_trail _ _ _
  case isFalse unlocked =>
    split
    case isTrue range =>
      exact (takeScale_trail (by simpa using unlocked) range.1 range.2).trans (answerLine_trail _ _ _)
    case isFalse => exact answerLine_trail _ _ _

theorem execLockGeometry_trail : Leads (Trail .lockGeometry s) (execLockGeometry s) := by
  refine (Change.setting { s.settings with locked := true } ⟨rfl, rfl, fun _ => ⟨rfl, rfl⟩, fun _ => rfl, fun _ => rfl,
    fun _ => rfl, fun _ => rfl, fun other => absurd rfl other, id⟩).trail.trans (answerLine_trail _ _ _)

theorem execSetSpeed_trail (period duty : Nat) : Leads (Trail c s) (execSetSpeed period duty s) := by
  unfold execSetSpeed
  split
  case isTrue range =>
    refine (feed_trail { s.feed with period := period, duty := duty } ⟨rfl, rfl, ?_⟩).trans (answerLine_trail _ _ _)
    exact fun ⟨bot, top, trim, slip, _, _⟩ => ⟨bot, top, trim, slip, range.1, range.2⟩
  case isFalse => exact answerLine_trail _ _ _

theorem execSetTrim_trail (trim : Nat) : Leads (Trail c s) (execSetTrim trim s) := by
  refine (feed_trail { s.feed with trim := min trim 4 } ⟨rfl, rfl, ?_⟩).trans (answerLine_trail _ _ _)
  exact fun ⟨bot, top, _, rest⟩ => ⟨bot, top, Nat.min_le_right _ _, rest⟩

theorem execSetDwell_trail (v : Nat) : Leads (Trail (.setDwell v) s) (execSetDwell v s) := by
  unfold execSetDwell
  split
  case isTrue range =>
    refine (Change.setting { s.settings with dwellTime := v } ⟨rfl, rfl, fun locked => ⟨locked, rfl⟩, fun _ => rfl,
      fun _ => rfl, fun _ => rfl, fun other => absurd rfl (other v), fun _ => rfl, ?_⟩).trail.trans
      (answerLine_trail _ _ _)
    rintro ⟨length, articles, current, knife, pending, geometry, low, high, _⟩
    exact ⟨length, articles, current, knife, pending, geometry, low, high, range⟩
  case isFalse => exact answerLine_trail _ _ _

theorem execClearNotices_trail (named : BitVec 24) (mask : Option (BitVec 24)) :
    Leads (Trail (.clearNotices named mask) s) (execClearNotices named mask s) :=
  (Change.clearNotices named mask rfl).trail.trans (answerLine_trail _ _ _)

/-! ## The zones' requests (R86, R127 to R130) -/

theorem execReadTrack_trail (place count : Nat) : Leads (Trail c s) (execReadTrack place count s) := by
  unfold execReadTrack
  split <;> exact answerLine_trail _ _ _

theorem execZoneMove_trail (zone : Nat) (target : Int) : Leads (Trail c s) (execZoneMove zone target s) := by
  unfold execZoneMove
  split
  · exact answerLine_trail _ _ _
  · split
    · exact answerLine_trail _ _ _
    · split
      · exact (place_trail _ zone).trans <| arbitrate_trail.trans (answerLine_trail _ _ _)
      · exact answerLine_trail _ _ _

/-- The record of a converting hide flagged MANUAL_INFLUENCE. -/
def flagManual (r : HideRecord) : HideRecord :=
  if r.state.converting then { r with flags := { r.flags with manualInfluence := true } } else r

@[simp] theorem flagManual_state (r : HideRecord) : (flagManual r).state = r.state := by
  unfold flagManual
  split <;> rfl

theorem RecordStep.flagManual (r : HideRecord) : RecordStep s r (flagManual r) := by
  refine .ofConverting ?_ flagManual_state ?_ ?_ ?_ r <;> intro q
  · unfold Machine.flagManual; split <;> rfl
  · unfold Machine.flagManual; split <;> exact ⟨rfl, rfl⟩
  · exact fun conv => by simp [Machine.flagManual, conv]
  · unfold Machine.flagManual
    split <;> exact id

theorem flagInfluence_trail : Trail c s (flagInfluence s) :=
  updRecords_trail flagManual (fun r _ => .flagManual r) (fun r => .of_eq (by simp))
    (.inl fun r => by unfold flagManual; split <;> rfl)

/-- The channel that a ZONE_MODE leaves. -/
def Channel.toMode (mode : ZoneMode) (x : Channel) : Channel :=
  { x with mode := mode, base := none,
           entryMark := x.entryMark && !(decide (x.mode = .track) && decide (mode ≠ .track)) }

/-- The slot of a zone that leaves TRACK with a TRACK target waiting is emptied (R128). -/
def slotForMode (zone : Nat) (mode : ZoneMode) (s : State) : State :=
  if discardsTrack zone mode s then discardSlot zone s else s

theorem slotForMode_trail (zone : Nat) (mode : ZoneMode) : Trail c s (slotForMode zone mode s) := by
  unfold slotForMode
  split
  · exact discardSlot_trail zone
  · exact .refl

@[simp] theorem slotForMode_ctl (zone : Nat) (mode : ZoneMode) (s : State) :
    (slotForMode zone mode s).ctl = s.ctl := by
  unfold slotForMode
  split <;> simp

theorem takeMode_eq (zone : Nat) (mode : ZoneMode) (s : State) : takeMode zone mode s =
    arbitrate (passResuming (flagInfluence (updChannel (Channel.toMode mode) zone (slotForMode zone mode s)))) := rfl

theorem takeMode_trail (other : isBottomPulse c = false) (zone : Nat) {mode : ZoneMode}
    (profile : mode = .track → s.ctl.strap = .profile) : Trail c s (takeMode zone mode s) := by
  have moved : Trail c (slotForMode zone mode s) (updChannel (Channel.toMode mode) zone (slotForMode zone mode s)) := by
    refine (Change.zones _ (slotForMode zone mode s).link fun x held track => ?_).trail
    obtain there | ⟨y, there, rfl⟩ := mem_updAt held
    · exact .inr ⟨x, there, track⟩
    · exact .inl (by simpa using profile track)
  rw [takeMode_eq]
  exact (slotForMode_trail zone mode).trans <| moved.trans <| flagInfluence_trail.trans <|
    (passResuming_trail other).trans arbitrate_trail

theorem execZoneMode_trail (other : isBottomPulse c = false) (zone : Nat) (code : Byte) :
    Leads (Trail c s) (execZoneMode zone code s) := by
  unfold execZoneMode
  split
  · exact answerLine_trail _ _ _
  · split
    · exact answerLine_trail _ _ _
    · split
      · exact answerLine_trail _ _ _
      · split
        · exact answerLine_trail _ _ _
        case isFalse allowed =>
          refine (takeMode_trail other zone fun track => ?_).trans (answerLine_trail _ _ _)
          cases strap : s.ctl.strap with
          | profile => rfl
          | fixed => simp [track, strap] at allowed

theorem execZoneReset_trail (zone : Nat) : Leads (Trail c s) (execZoneReset zone s) := by
  unfold execZoneReset
  split
  · exact answerLine_trail _ _ _
  · split
    · exact (updChannel_trail (fun x => { x with mode := .manual, misses := 0, timeouts := 0, lagging := false }) zone
        fun _ manual => absurd manual (by simp)).trans (answerLine_trail _ _ _)
    · exact answerLine_trail _ _ _

/-! ## Every command, and the tick -/

/-- Every command but the two resets answers a next state, by a trail of elementary changes. -/
theorem exec_leads (c : Instr) (s : State) (running : (∀ pins, c ≠ .powerOnReset pins) ∧ c ≠ .reset) :
    Leads (Trail c s) (exec c s) := by
  obtain ⟨notPower, notReset⟩ := running
  cases c with
  | powerOnReset pins => exact absurd rfl (notPower pins)
  | reset => exact absurd rfl notReset
  | bottomPulse a b order => exact execBottomPulse_trail rfl a b order
  | topPulse a b => exact execTopPulse_trail a b
  | infeedEdge => exact execInfeedEdge_trail rfl
  | haltAsserted => exact execHaltAsserted_trail rfl
  | haltReleased => exact (Change.haltLevel false).trail
  | feedStillAsserted => exact execFeedStillAsserted_trail
  | feedStillReleased => exact (Change.stillLevel false).trail
  | dwellTimerExpiry => exact execDwellTimerExpiry_trail rfl
  | feedRefPeriodStart => exact execFeedRefPeriodStart_trail
  | feedRefHighEnd => exact endHigh_trail
  | accept zone flags => exact takeAccept_trail rfl zone flags
  | statusReply zone position flags => exact takeStatus_trail rfl zone position flags
  | miss => exact execMiss_trail rfl
  | zoneLinkFrameIgnored bytes => exact execZoneLinkFrameIgnored_trail rfl bytes
  | moveTimeout zone => exact execMoveTimeout_trail rfl zone
  | gaugeTransferEnd sdi lead => exact execGaugeTransferEnd_trail sdi lead
  | gaugeResponsePlaced => exact execGaugeResponsePlaced_trail
  | slice strobe readings => exact execSlice_trail strobe readings rfl
  | announce first tag => exact execAnnounce_trail first tag
  | endHide last => exact execEndHide_trail last rfl
  | wakeRequest => exact execWakeRequest_trail rfl
  | gaugeStatus => exact execGaugeStatus_trail
  | gaugeSetup => exact answerGauge_trail _ _ _
  | gaugeReset => exact execGaugeReset_trail rfl
  | clearGaugeNotices named mask => exact execClearGaugeNotices_trail named mask
  | lineTransferEnd sdi lead => exact execLineTransferEnd_trail sdi lead
  | lineResponsePlaced => exact execLineResponsePlaced_trail
  | start => exact execStart_trail rfl
  | rest target => exact execRest_trail target
  | wake => exact execWake_trail rfl
  | clear => exact execClear_trail rfl
  | clearWake flags => exact execClearWake_trail flags
  | wakeEnable enables => exact execWakeEnable_trail rfl enables
  | bind hide row => exact execBind_trail hide row
  | abandon hide => exact execAbandon_trail hide rfl
  | release hide => exact execRelease_trail hide
  | readHide hide => exact execReadHide_trail hide
  | readReport => exact execReadReport_trail
  | readTrack place count => exact execReadTrack_trail place count
  | zoneMove zone target => exact execZoneMove_trail zone target
  | zoneMode zone mode => exact execZoneMode_trail rfl zone mode
  | zoneReset zone => exact execZoneReset_trail zone
  | readZones => exact answerLine_trail _ _ _
  | writeArticle row article => exact execWriteArticle_trail row article
  | selectArticle row => exact execSelectArticle_trail row
  | readArticle row => exact execReadArticle_trail row
  | writeKnife offsets => exact execWriteKnife_trail offsets
  | setGeometry values => exact execSetGeometry_trail values
  | setScale scale => exact execSetScale_trail scale
  | lockGeometry => exact execLockGeometry_trail
  | setSpeed period duty => exact execSetSpeed_trail period duty
  | setTrim trim => exact execSetTrim_trail trim
  | setDwell time => exact execSetDwell_trail time
  | readSettings => exact answerLine_trail _ _ _
  | readStatus => exact answerLine_trail _ _ _
  | readCounters => exact answerLine_trail _ _ _
  | clearNotices named mask => exact execClearNotices_trail named mask
  | abandonedReplyWindowClose => exact execAbandonedReplyWindowClose_trail

theorem exec_trail {c : Instr} {s t : State} (next : exec c s = .next t)
    (running : (∀ pins, c ≠ .powerOnReset pins) ∧ c ≠ .reset) : Trail c s t :=
  (exec_leads c s running).of_next next

theorem tickDwell_trail (other : isBottomPulse c = false) : Trail c s (tickDwell s) := by
  unfold tickDwell
  split
  · exact expireDwell_trail other
  · exact .refl

theorem tickMove_trail (other : isBottomPulse c = false) (z : Nat) : Trail c s (tickMove z s) := by
  unfold tickMove
  split
  · split
    · exact timeoutMove_trail other _ z
    · exact .refl
  · exact .refl

theorem tickReply_trail (other : isBottomPulse c = false) : Trail c s (tickReply s) := by
  unfold tickReply
  split
  · split
    · exact missReply_trail other _
    · exact .refl
  · exact .refl

theorem tickAbandoned_trail : Trail c s (tickAbandoned s) := by
  unfold tickAbandoned
  split
  · split
    · exact closeWindow_trail _
    · exact .refl
  · exact .refl

theorem tickFeedRef_trail : Trail c s (tickFeedRef s) := by
  unfold tickFeedRef
  split
  · exact Change.period.trail
  · split
    · exact endHigh_trail
    · exact .refl

/-- The tick is a trail of elementary changes of any command that is no pulse of the bottom encoder. -/
theorem tick_trail (other : isBottomPulse c = false) : Trail c s (tick s) :=
  (Change.time _ (Nat.le_succ _)).trail.trans <| (tickDwell_trail other).trans <|
    (forZones_trail fun z _ => tickMove_trail other z).trans <| (tickReply_trail other).trans <|
    tickAbandoned_trail.trans tickFeedRef_trail

end Sys2Proof.Machine

/-! PROOFS. Invariants and rules over all commands, each by one look at every elementary change. -/

namespace Sys2Proof.Machine

variable {c : Instr} {s t : State}

/-! ## From the elementary changes to the step -/

theorem exec_reset_trail (next : exec .reset s = .next t) : Trail .reset (resetBlocks s) t := by
  obtain rfl : answerReset (haltIfAsserted (resetBlocks s)) = t := Host.Outcome.next.inj next
  exact (haltIfAsserted_trail rfl).trans (line_trail _ rfl rfl)

theorem exec_powerOn_trail {pins : PinLevels} (next : exec (.powerOnReset pins) s = .next t) :
    Trail (.powerOnReset pins) { State.powerOn pins with pending := s.pending } t := by
  obtain rfl : haltIfAsserted { State.powerOn pins with pending := s.pending } = t := Host.Outcome.next.inj next
  exact haltIfAsserted_trail rfl

theorem step_cons {rest : List Instr} (front : s.pending = c :: rest) :
    step s = exec c { s with pending := rest } := by
  unfold step
  rw [front]

theorem step_nil (empty : s.pending = []) : step s = .next (tick s) := by
  unfold step
  rw [empty]

/-- What the queue has no part in, every elementary change keeps, and both resets establish or keep, every step
keeps. -/
theorem step_keeps {P : State → Prop} (queue : ∀ s q, P s → P { s with pending := q })
    (each : ∀ c s t, Change c s t → P s → P t)
    (powerOn : ∀ pins q, P { State.powerOn pins with pending := q }) (reset : ∀ s, P s → P (resetBlocks s))
    (holds : P s) (next : step s = .next t) : P t := by
  cases front : s.pending with
  | nil =>
    rw [step_nil front] at next
    obtain rfl := Host.Outcome.next.inj next
    exact (tick_trail (c := .miss) rfl).keeps (each .miss) holds
  | cons c rest =>
    rw [step_cons front] at next
    by_cases power : ∃ pins, c = .powerOnReset pins
    · obtain ⟨pins, rfl⟩ := power
      exact (exec_powerOn_trail next).keeps (each _) (powerOn pins _)
    · by_cases isReset : c = .reset
      · subst isReset
        exact (exec_reset_trail next).keeps (each _) (reset _ (queue s rest holds))
      · exact (exec_trail next ⟨fun pins same => power ⟨pins, same⟩, isReset⟩).keeps (each c) (queue s rest holds)

/-- A pending profile stands, or becomes the applied one where no hide is converting (R84). -/
theorem applyPending_cases (s : State) :
    (applyPending s = s ∧ (s.track.pendingKnife ≠ none → anyConverting s = true)) ∨
      ∃ k, s.track.pendingKnife = some k ∧ anyConverting s = false ∧ applyPending s = applyKnife k s := by
  unfold applyPending
  cases pending : s.track.pendingKnife with
  | none => exact .inl ⟨rfl, fun some => absurd rfl some⟩
  | some k =>
    cases conv : anyConverting s with
    | true => exact .inl ⟨by simp, fun _ => rfl⟩
    | false => exact .inr ⟨k, rfl, rfl, by simp⟩

/-- A new profile waits while a hide is converting, and is applied at once otherwise (R83). -/
theorem takeKnife_cases (offsets : List Int) (s : State) :
    (anyConverting s = true ∧
        takeKnife offsets s = { s with track := { s.track with pendingKnife := some (sixteen offsets) } }) ∨
      (anyConverting s = false ∧ takeKnife offsets s = applyKnife (sixteen offsets) s) := by
  unfold takeKnife
  cases anyConverting s with
  | true => exact .inl ⟨rfl, by simp⟩
  | false => exact .inr ⟨rfl, by simp⟩

/-! ## FEED-STOP and the gate of FEED REF (O6) -/

/-- The gate agrees with the machine state and the input (R20). -/
def GateAgrees (s : State) : Prop :=
  s.feed.ref.gated = gateClosed s ∧ (gateClosed s = true → s.feed.ref.high = false)

theorem startPeriod_gateAgrees (s : State) : GateAgrees (startPeriod s) := by
  refine ⟨rfl, fun closed => ?_⟩
  have gate : gateClosed s = true := closed
  simp [startPeriod, gate]

theorem applyGate_gateAgrees (s : State) : GateAgrees (applyGate s) := by
  unfold applyGate
  split
  case isTrue closed => exact ⟨closed.symm, fun _ => rfl⟩
  case isFalse lifted =>
    split
    · exact startPeriod_gateAgrees s
    case isFalse open_ => exact ⟨by simp_all, fun closed => absurd closed lifted⟩

theorem Change.feedGateAgrees (change : Change c s t) (agrees : FeedGateAgrees s) : FeedGateAgrees t := by
  obtain ⟨stop, gate, low⟩ := agrees
  cases change with
  | feed f step => exact ⟨stop, step.ref ▸ gate, step.ref ▸ low⟩
  | period => exact ⟨stop, startPeriod_gateAgrees s⟩
  | refLow => exact ⟨stop, gate, fun _ => rfl⟩
  | haltLevel b => exact ⟨by simpa using stop, applyGate_gateAgrees _⟩
  | phase p => exact ⟨by simp, applyGate_gateAgrees _⟩
  | gaugeNotice n =>
    unfold FeedGateAgrees gateClosed
    simp only [raiseGauge_ctl, raiseGauge_feed, raiseGauge_pins]
    exact ⟨stop, gate, low⟩
  | finish h tr =>
    unfold FeedGateAgrees gateClosed
    simp only [applyPending_ctl, applyPending_feed, applyPending_pins]
    exact ⟨stop, gate, low⟩
  | knife offsets =>
    obtain ⟨_, eq⟩ | ⟨_, eq⟩ := takeKnife_cases offsets s <;> rw [eq] <;> exact ⟨stop, gate, low⟩
  | _ => exact ⟨stop, gate, low⟩

/-- Settles O6: every elementary change keeps the agreement; a transition and a change of the HALT input set the
gate anew. -/
theorem feedGateAgreementIsKept : Obligations.FeedGateAgreementIsKept := fun _ _ =>
  step_keeps (fun _ _ => id) (fun _ _ _ => Change.feedGateAgrees)
    (fun pins q => ⟨rfl, by simp [State.powerOn, Feed.initial, gateClosed, Controller.initial, Phase.drives],
      fun _ => rfl⟩)
    (fun s _ => ⟨rfl, by simp [resetBlocks, Feed.initial, gateClosed, Controller.initial, Phase.drives], fun _ => rfl⟩)

/-! ## Settings and counts (O7) -/

theorem SettingsSound.of (sound : SettingsSound s) (settings : t.settings = s.settings)
    (pending : t.track.pendingKnife = s.track.pendingKnife) : SettingsSound t := by
  unfold SettingsSound at sound ⊢
  rwa [settings, pending]

theorem SettingsSound.pendingKnife (sound : SettingsSound s) : ∀ k ∈ s.track.pendingKnife, OffsetsOk k := by
  obtain ⟨_, _, _, _, waiting, _⟩ := sound
  exact waiting

theorem SettingsSound.applyKnife {k : List Int} (sound : SettingsSound s) (offsets : OffsetsOk k) :
    SettingsSound (applyKnife k s) := by
  obtain ⟨length, articles, current, _, _, rest⟩ := sound
  exact ⟨length, articles, current, offsets, by simp [Machine.applyKnife, raiseLine], rest⟩

theorem Change.settingsSound (change : Change c s t) (sound : SettingsSound s) : SettingsSound t := by
  cases change with
  | setting x step => exact step.sound sound
  | scale v own unlocked low high =>
    obtain ⟨length, articles, current, knife, pending, geometry, _, _, rest⟩ := sound
    exact ⟨length, articles, current, knife, pending, geometry, low, high, rest⟩
  | knife offsets own inRange =>
    obtain ⟨_, eq⟩ | ⟨_, eq⟩ := takeKnife_cases offsets s
    · rw [eq]
      obtain ⟨length, articles, current, knife, _, rest⟩ := sound
      refine ⟨length, articles, current, knife, fun k held => ?_, rest⟩
      rw [← Option.some.inj held]
      exact offsetsOk_sixteen inRange
    · rw [eq]
      exact sound.applyKnife (offsetsOk_sixteen inRange)
  | table h tr step => exact sound.of rfl step.pending
  | finish h tr step =>
    have tabled : SettingsSound { s with hides := h, track := tr } := sound.of rfl step.pending
    obtain ⟨eq, _⟩ | ⟨k, pending, _, eq⟩ := applyPending_cases { s with hides := h, track := tr }
    · rwa [eq]
    · rw [eq]
      exact tabled.applyKnife (tabled.pendingKnife k pending)
  | gaugeNotice n => exact sound.of (by simp) (by simp)
  | haltLevel b => exact sound.of (by simp) (by simp)
  | phase p => exact sound.of (by simp) (by simp)
  | _ => exact sound.of rfl rfl

theorem FeedCountsSound.of (sound : FeedCountsSound s) (scale : t.settings.scale = s.settings.scale)
    (feed : ∃ r, t.feed = { s.feed with ref := r }) : FeedCountsSound t := by
  obtain ⟨r, feed⟩ := feed
  unfold FeedCountsSound at sound ⊢
  rwa [scale, feed]

theorem applyPending_scale (s : State) : (applyPending s).settings.scale = s.settings.scale := by
  obtain ⟨eq, _⟩ | ⟨k, _, _, eq⟩ := applyPending_cases s <;> rw [eq]
  rfl

theorem Change.feedCountsSound (change : Change c s t) (sound : FeedCountsSound s) : FeedCountsSound t := by
  cases change with
  | feed f step => exact step.counts sound
  | setting x step => exact sound.of step.scale ⟨_, rfl⟩
  | scale v own unlocked low high =>
    obtain ⟨_, _, rest⟩ := sound
    exact ⟨by dsimp only; omega, by dsimp only; omega, rest⟩
  | strobe newest num pos => exact sound
  | gaugeNotice n => exact sound.of (by simp) ⟨_, by rw [raiseGauge_feed]⟩
  | haltLevel b => exact sound.of (by simp) (applyGate_feed _)
  | phase p => exact sound.of (by simp) (applyGate_feed _)
  | finish h tr => exact sound.of (applyPending_scale _) ⟨_, by rw [applyPending_feed]⟩
  | knife offsets =>
    obtain ⟨_, eq⟩ | ⟨_, eq⟩ := takeKnife_cases offsets s <;> rw [eq] <;> exact sound
  | _ => exact sound.of rfl ⟨_, rfl⟩

theorem settingsSound_powerOn (pins : PinLevels) (q : List Instr) :
    SettingsSound { State.powerOn pins with pending := q } :=
  reset_settingsSound.of rfl rfl

theorem SettingsSound.resetBlocks (sound : SettingsSound s) : SettingsSound (resetBlocks s) := by
  obtain ⟨length, articles, _, knife, pending, rest⟩ := sound
  refine ⟨length, articles, Nat.zero_le _, ?_, by simp [Machine.resetBlocks, Track.initial], rest⟩
  dsimp only [Machine.resetBlocks, Settings.afterReset]
  split
  case h_1 k waiting => exact pending k waiting
  case h_2 => exact knife

/-- Settles O7: a request's value passes the checks that SettingsSound repeats, and each count has its bound. -/
theorem settingsAndCountsStayInRange : Obligations.SettingsAndCountsStayInRange := by
  intro s t settings counts next
  refine step_keeps (P := fun s => SettingsSound s ∧ FeedCountsSound s) (fun _ _ => id)
    (fun c s t change sound => ⟨change.settingsSound sound.1, change.feedCountsSound sound.2⟩)
    (fun pins q => ⟨settingsSound_powerOn pins q, ?_⟩) (fun s sound => ⟨sound.1.resetBlocks, ?_⟩)
    ⟨settings, counts⟩ next
  · unfold FeedCountsSound
    dsimp only [State.powerOn, Feed.initial, Settings.initial]
    decide
  · obtain ⟨_, _, _, _, _, _, low, _⟩ := sound.1
    unfold FeedCountsSound
    dsimp only [Machine.resetBlocks, Feed.initial, Settings.afterReset]
    omega

/-! ## Strap mode FIXED (O14) -/

theorem forall₂_mem_right {α β : Type} {R : α → β → Prop} {l : List α} {l' : List β} (all : List.Forall₂ R l l')
    {b : β} (held : b ∈ l') : ∃ a ∈ l, R a b := by
  induction all with
  | nil => exact absurd held List.not_mem_nil
  | cons related _ ih =>
    obtain rfl | held := List.mem_cons.mp held
    · exact ⟨_, .head _, related⟩
    · obtain ⟨a, there, related⟩ := ih held
      exact ⟨a, .tail _ there, related⟩

theorem TableStep.noRecords {h : HideTable} {tr : Track} (step : TableStep s h tr) (none : s.hides.records = []) :
    h.records = [] := by
  have records := step.records
  rw [none] at records
  exact List.forall₂_nil_left_iff.mp records

theorem TableStep.noSlices {h : HideTable} {tr : Track} (step : TableStep s h tr) (empty : s.track.slices = [])
    (finished : anyUnfinished s = false) : tr.slices = [] := by
  refine List.eq_nil_iff_forall_not_mem.mpr fun sl held => ?_
  obtain ⟨x, there, _⟩ | ⟨r, there, _, unfinished⟩ := step.slices sl held
  · simp [empty] at there
  · simp only [anyUnfinished, List.any_eq_false] at finished
    exact finished r there unfinished

theorem raiseGauge_fixed {n : GaugeNotice} (fixed : s.ctl.strap = .fixed) : raiseGauge n s = s := by
  unfold raiseGauge
  rw [fixed]

/-- What FIXED keeps quiet, apart from the strap itself. -/
def Quiet (s : State) : Prop :=
  s.intake.notices = 0 ∧ (∀ e ∈ s.intake.list, e.reply = none) ∧ s.hides.records = [] ∧
    s.hides.completion = [] ∧ s.track.slices = [] ∧ s.track.pendingKnife = none ∧ ∀ c ∈ s.zones, c.mode ≠ .track

theorem Quiet.of (quiet : Quiet s) (notices : t.intake.notices = s.intake.notices) (list : t.intake.list = s.intake.list)
    (hides : t.hides = s.hides) (track : t.track = s.track) (zones : t.zones = s.zones) : Quiet t := by
  unfold Quiet at quiet ⊢
  rwa [notices, list, hides, track, zones]

theorem Quiet.table {h : HideTable} {tr : Track} (quiet : Quiet s) (step : TableStep s h tr) :
    Quiet { s with hides := h, track := tr } := by
  obtain ⟨notices, replies, records, completion, slices, pending, zones⟩ := quiet
  exact ⟨notices, replies, step.noRecords records, (step.completion records).trans completion,
    step.noSlices slices (by simp [anyUnfinished, records]), step.pending.trans pending, zones⟩

theorem Change.strap (change : Change c s t) : t.ctl.strap = s.ctl.strap ∧ t.ctl.activeZones = s.ctl.activeZones := by
  cases change with
  | gaugeNotice n => simp
  | haltLevel b => simp
  | phase p =>
    obtain ⟨r, eq⟩ := enterPhase_spec p s
    simp [eq]
  | finish h tr => simp
  | knife offsets => obtain ⟨_, eq⟩ | ⟨_, eq⟩ := takeKnife_cases offsets s <;> rw [eq] <;> exact ⟨rfl, rfl⟩
  | _ => exact ⟨rfl, rfl⟩

theorem Change.quiet (change : Change c s t) (fixed : s.ctl.strap = .fixed) (quiet : Quiet s) : Quiet t := by
  have noProfile : s.ctl.strap ≠ .profile := by simp [fixed]
  cases change with
  | port i l list gauge => exact quiet.of gauge list rfl rfl rfl
  | gaugeNotice n => rwa [raiseGauge_fixed fixed]
  | zones zs l track =>
    obtain ⟨notices, replies, records, completion, slices, pending, zones⟩ := quiet
    refine ⟨notices, replies, records, completion, slices, pending, fun x held mode => ?_⟩
    obtain profile | ⟨y, there, mode'⟩ := track x held mode
    · exact noProfile profile
    · exact zones y there mode'
  | list l fewer reply =>
    obtain ⟨notices, replies, rest⟩ := quiet
    refine ⟨notices, fun e held => by_contra fun some => ?_, rest⟩
    obtain profile | ⟨d, there, some'⟩ := reply e held some
    · exact noProfile profile
    · exact some' (replies d there)
  | join num pos =>
    obtain ⟨notices, replies, rest⟩ := quiet
    refine ⟨notices, fun e held => ?_, rest⟩
    obtain there | there := List.mem_append.mp held
    · exact replies e there
    · rw [List.mem_singleton.mp there]
  | table h tr step => exact quiet.table step
  | finish h tr step =>
    obtain ⟨eq, _⟩ | ⟨k, pending, _, _⟩ := applyPending_cases { s with hides := h, track := tr }
    · rw [eq]
      exact quiet.table step
    · obtain ⟨_, _, _, _, _, none, _⟩ := quiet.table step
      exact absurd (none.symm.trans pending) (by simp)
  | clearGaugeNotices named mask =>
    obtain ⟨notices, rest⟩ := quiet
    exact ⟨by simp [Machine.clearGaugeNotices, notices], rest⟩
  | knife offsets =>
    obtain ⟨notices, replies, records, completion, slices, pending, zones⟩ := quiet
    obtain ⟨conv, _⟩ | ⟨_, eq⟩ := takeKnife_cases offsets s
    · simp [anyConverting, records] at conv
    · rw [eq]
      exact ⟨notices, replies, records, completion, slices, rfl, zones⟩
  | drop n h own kept completion =>
    obtain ⟨notices, replies, records, finished, slices, pending, zones⟩ := quiet
    refine ⟨notices, replies, by simp [kept, records], ?_, slices, pending, zones⟩
    rw [finished] at completion
    exact List.subset_nil.mp completion
  | fill r n own profile => exact absurd profile noProfile
  | haltLevel b => exact quiet.of (by simp) (by simp) (by simp) (by simp) (by simp)
  | phase p => exact quiet.of (by simp) (by simp) (by simp) (by simp) (by simp)
  | _ => exact quiet.of rfl rfl rfl rfl rfl

theorem Change.fixedQuiet (change : Change c s t) (fixedQuiet : FixedQuiet s) : FixedQuiet t := fun fixed =>
  have fixed : s.ctl.strap = .fixed := change.strap.1 ▸ fixed
  change.quiet fixed (fixedQuiet fixed)

theorem initialZones_fixed (active : Nat) : ∀ x ∈ initialZones active .fixed, x.mode ≠ .track := by
  intro x held
  simp only [initialZones, List.mem_map] at held
  obtain ⟨z, _, rfl⟩ := held
  simp only [Channel.initial, ZoneMode.initial]
  split <;> simp

theorem quiet_initial {active : Nat} (list : s.intake.list = []) (notices : s.intake.notices = 0)
    (hides : s.hides = HideTable.initial) (track : s.track = Track.initial)
    (zones : s.zones = initialZones active .fixed) : Quiet s := by
  unfold Quiet
  rw [list, notices, hides, track, zones]
  exact ⟨rfl, fun _ held => absurd held List.not_mem_nil, rfl, rfl, rfl, rfl, initialZones_fixed active⟩

/-- Settles O14: what would disturb the quiet asks for PROFILE, a record, a reply or a zone in TRACK. -/
theorem fixedModeStaysQuiet : Obligations.FixedModeStaysQuiet := fun _ _ =>
  step_keeps (fun _ _ => id) (fun _ _ _ => Change.fixedQuiet)
    (fun pins _ fixed => quiet_initial rfl rfl rfl rfl
      (congrArg (initialZones (if pins.mode0 then 16 else 12)) fixed))
    (fun s _ fixed => quiet_initial (active := s.ctl.activeZones) rfl rfl rfl rfl
      (congrArg (initialZones s.ctl.activeZones) fixed))

/-! ## Nothing left where strobes are not issued (half of O13) -/

theorem anyUnfinished_eq_false_iff : anyUnfinished s = false ↔ ∀ r ∈ s.hides.records, 2 ≤ r.state.age := by
  simp only [anyUnfinished, List.any_eq_false, HideState.unfinished_iff_age, not_lt]

theorem TableStep.finished {h : HideTable} {tr : Track} (step : TableStep s h tr) (finished : anyUnfinished s = false) :
    (h.records.any fun r => r.state.unfinished) = false := by
  rw [anyUnfinished_eq_false_iff] at finished
  simp only [List.any_eq_false, HideState.unfinished_iff_age, not_lt]
  intro r' held
  obtain ⟨r, there, evolved⟩ := forall₂_mem_right step.records held
  exact (finished r there).trans evolved.age

theorem Emptied.of (empty : Emptied s) (list : t.intake.list = s.intake.list) (hides : t.hides = s.hides)
    (slices : t.track.slices = s.track.slices) : Emptied t := by
  unfold Emptied anyUnfinished at empty ⊢
  rwa [list, hides, slices]

end Sys2Proof.Machine

/-! PROOFS. Rules over all commands: what a command may change of flags, notices, settings, strobes and records. -/

namespace Sys2Proof.Machine

variable {c : Instr} {s t u : State}

/-! ## The queue and the time -/

theorem applyKnife_track (k : List Int) (s : State) :
    (applyKnife k s).track = { s.track with pendingKnife := none } := rfl

theorem Change.queue (change : Change c s t) : t.pending = s.pending ∧ s.now ≤ t.now := by
  cases change with
  | time n later => exact ⟨rfl, later⟩
  | gaugeNotice n => simp
  | haltLevel b => simp
  | phase p => simp
  | finish h tr => simp
  | knife offsets => obtain ⟨_, eq⟩ | ⟨_, eq⟩ := takeKnife_cases offsets s <;> rw [eq] <;> exact ⟨rfl, le_rfl⟩
  | period => exact ⟨rfl, le_rfl⟩
  | _ => exact ⟨rfl, le_rfl⟩

/-- A trail leaves the queue alone and never turns the time back. -/
theorem Trail.queue (path : Trail c s t) : t.pending = s.pending ∧ s.now ≤ t.now :=
  path.relates (R := fun s t => t.pending = s.pending ∧ s.now ≤ t.now) (fun _ => ⟨rfl, le_rfl⟩)
    (fun _ _ _ h h' => ⟨h'.1.trans h.1, h.2.trans h'.2⟩) fun _ _ => Change.queue

/-! ## Flags and notices (O16) -/

theorem and_or_self {n : Nat} (a x : BitVec n) : a &&& (a ||| x) = a := by
  ext i
  simp only [BitVec.getElem_and, BitVec.getElem_or]
  cases a[i] <;> rfl

/-- The bits that `a` has, `b` has too. -/
def Keeps {n : Nat} (a b : BitVec n) : Prop := a &&& b = a

theorem Keeps.refl {n : Nat} (a : BitVec n) : Keeps a a := BitVec.and_self

theorem Keeps.trans {n : Nat} {a b c : BitVec n} (h : Keeps a b) (h' : Keeps b c) : Keeps a c := by
  unfold Keeps at h h' ⊢
  rw [← h, BitVec.and_assoc, h']

theorem Keeps.or {n : Nat} (a x : BitVec n) : Keeps a (a ||| x) := and_or_self a x

/-- What a command leaves of the flags, the notices and the masks. -/
structure FlagsKept (c : Instr) (s t : State) : Prop where
  wake : (∀ named, c ≠ .clearWake named) → Keeps s.ctl.flags t.ctl.flags
  line : (∀ named mask, c ≠ .clearNotices named mask) →
    Keeps s.line.notices t.line.notices ∧ t.line.mask = s.line.mask
  gauge : (∀ named mask, c ≠ .clearGaugeNotices named mask) →
    Keeps s.intake.notices t.intake.notices ∧ t.intake.mask = s.intake.mask

theorem FlagsKept.of (flags : t.ctl.flags = s.ctl.flags) (line : Keeps s.line.notices t.line.notices)
    (lineMask : t.line.mask = s.line.mask) (gauge : Keeps s.intake.notices t.intake.notices)
    (gaugeMask : t.intake.mask = s.intake.mask) : FlagsKept c s t :=
  ⟨fun _ => flags ▸ .refl _, fun _ => ⟨line, lineMask⟩, fun _ => ⟨gauge, gaugeMask⟩⟩

theorem FlagsKept.trans (h : FlagsKept c s t) (h' : FlagsKept c t u) : FlagsKept c s u :=
  ⟨fun other => (h.wake other).trans (h'.wake other),
    fun other => ⟨(h.line other).1.trans (h'.line other).1, (h'.line other).2.trans (h.line other).2⟩,
    fun other => ⟨(h.gauge other).1.trans (h'.gauge other).1, (h'.gauge other).2.trans (h.gauge other).2⟩⟩

theorem raiseGauge_keeps (n : GaugeNotice) (s : State) :
    Keeps s.intake.notices (raiseGauge n s).intake.notices ∧ (raiseGauge n s).intake.mask = s.intake.mask := by
  unfold raiseGauge
  split
  · exact ⟨.or _ _, rfl⟩
  · exact ⟨.refl _, rfl⟩

theorem applyPending_notices (s : State) :
    Keeps s.line.notices (applyPending s).line.notices ∧ (applyPending s).line.mask = s.line.mask := by
  obtain ⟨eq, _⟩ | ⟨k, _, _, eq⟩ := applyPending_cases s <;> rw [eq]
  · exact ⟨.refl _, rfl⟩
  · exact ⟨.or _ _, rfl⟩

theorem Change.flagsKept (change : Change c s t) : FlagsKept c s t := by
  cases change with
  | port i l list gauge gaugeMask line lineMask =>
    exact .of rfl (line ▸ .refl _) lineMask (gauge ▸ .refl _) gaugeMask
  | lineNotice n => exact .of rfl (.or _ _) rfl (.refl _) rfl
  | gaugeNotice n =>
    obtain ⟨keeps, mask⟩ := raiseGauge_keeps n s
    exact .of (by simp) (by simp [Keeps]) (by simp) keeps mask
  | wakeFlag w => exact ⟨fun _ => .or _ _, fun _ => ⟨.refl _, rfl⟩, fun _ => ⟨.refl _, rfl⟩⟩
  | clearWake named own =>
    exact ⟨fun other => absurd own (other named), fun _ => ⟨.refl _, rfl⟩, fun _ => ⟨.refl _, rfl⟩⟩
  | clearNotices named mask own =>
    exact ⟨fun _ => .refl _, fun other => absurd own (other named mask), fun _ => ⟨.refl _, rfl⟩⟩
  | clearGaugeNotices named mask own =>
    exact ⟨fun _ => .refl _, fun _ => ⟨.refl _, rfl⟩, fun other => absurd own (other named mask)⟩
  | haltLevel b => exact .of (by simp) (by simp [Keeps]) (by simp) (by simp [Keeps]) (by simp)
  | phase p =>
    obtain ⟨r, eq⟩ := enterPhase_spec p s
    rw [eq]
    exact .of rfl (.refl _) rfl (.refl _) rfl
  | finish h tr =>
    obtain ⟨keeps, mask⟩ := applyPending_notices { s with hides := h, track := tr }
    exact .of (by simp) keeps mask (by simp [Keeps]) (by simp)
  | knife offsets =>
    obtain ⟨_, eq⟩ | ⟨_, eq⟩ := takeKnife_cases offsets s <;> rw [eq]
    · exact .of rfl (.refl _) rfl (.refl _) rfl
    · exact .of rfl (.or _ _) rfl (.refl _) rfl
  | _ => exact .of rfl (.refl _) rfl (.refl _) rfl

theorem Trail.flagsKept (path : Trail c s t) : FlagsKept c s t :=
  path.relates (R := FlagsKept c) (fun _ => .of rfl (.refl _) rfl (.refl _) rfl) (fun _ _ _ => FlagsKept.trans)
    fun _ _ => Change.flagsKept

/-- Settles O16: every other elementary change leaves the flags and notices or raises one. -/
theorem flagsAndNoticesStayUntilCleared : Obligations.FlagsAndNoticesStayUntilCleared := by
  intro c s t next notPower notReset
  obtain ⟨wake, line, gauge⟩ := (exec_trail next ⟨notPower, notReset⟩).flagsKept
  exact ⟨wake, line, gauge⟩

/-! ## Settings (O18) -/

/-- The applied profile and the pending one stand, or the pending one has become the applied one. -/
def KnifeKept (s t : State) : Prop :=
  (t.settings.knife = s.settings.knife ∧ t.track.pendingKnife = s.track.pendingKnife) ∨
    (s.track.pendingKnife = some t.settings.knife ∧ t.track.pendingKnife = none)

theorem KnifeKept.trans (h : KnifeKept s t) (h' : KnifeKept t u) : KnifeKept s u := by
  obtain ⟨knife, pending⟩ | ⟨pending, none⟩ := h
  · obtain ⟨knife', pending'⟩ | ⟨pending', none'⟩ := h'
    · exact .inl ⟨knife'.trans knife, pending'.trans pending⟩
    · exact .inr ⟨pending ▸ pending', none'⟩
  · obtain ⟨knife', pending'⟩ | ⟨pending', _⟩ := h'
    · exact .inr ⟨knife' ▸ pending, pending'.trans none⟩
    · simp [none] at pending'

/-- What a command leaves of the settings. -/
structure SettingsKept (c : Instr) (s t : State) : Prop where
  straps : t.ctl.strap = s.ctl.strap ∧ t.ctl.activeZones = s.ctl.activeZones
  lock : s.settings.locked = true → t.settings.locked = true ∧ t.settings.geometry = s.settings.geometry ∧
    t.settings.scale = s.settings.scale
  articles : (∀ row a, c ≠ .writeArticle row a) → t.settings.articles = s.settings.articles
  current : (∀ row, c ≠ .selectArticle row) → t.settings.current = s.settings.current
  knife : (∀ k, c ≠ .writeKnife k) → KnifeKept s t
  geometry : (∀ g, c ≠ .setGeometry g) → t.settings.geometry = s.settings.geometry
  scale : (∀ v, c ≠ .setScale v) → t.settings.scale = s.settings.scale
  dwellTime : (∀ v, c ≠ .setDwell v) → t.settings.dwellTime = s.settings.dwellTime
  locked : c ≠ .lockGeometry → t.settings.locked = s.settings.locked

/-- Only the knife profile may have changed. -/
theorem SettingsKept.ofKnife (straps : t.ctl.strap = s.ctl.strap ∧ t.ctl.activeZones = s.ctl.activeZones)
    (settings : t.settings = { s.settings with knife := t.settings.knife })
    (knife : (∀ k, c ≠ .writeKnife k) → KnifeKept s t) : SettingsKept c s t := by
  refine ⟨straps, fun locked => ?_, fun _ => ?_, fun _ => ?_, knife, fun _ => ?_, fun _ => ?_, fun _ => ?_,
    fun _ => ?_⟩ <;> rw [settings]
  exact ⟨locked, rfl, rfl⟩

theorem SettingsKept.of (straps : t.ctl.strap = s.ctl.strap ∧ t.ctl.activeZones = s.ctl.activeZones)
    (settings : t.settings = s.settings) (pending : t.track.pendingKnife = s.track.pendingKnife) :
    SettingsKept c s t :=
  .ofKnife straps (by rw [settings]) fun _ => .inl ⟨by rw [settings], pending⟩

theorem SettingsKept.trans (h : SettingsKept c s t) (h' : SettingsKept c t u) : SettingsKept c s u where
  straps := ⟨h'.straps.1.trans h.straps.1, h'.straps.2.trans h.straps.2⟩
  lock locked := by
    obtain ⟨locked', geometry, scale⟩ := h.lock locked
    obtain ⟨locked'', geometry', scale'⟩ := h'.lock locked'
    exact ⟨locked'', geometry'.trans geometry, scale'.trans scale⟩
  articles other := (h'.articles other).trans (h.articles other)
  current other := (h'.current other).trans (h.current other)
  knife other := (h.knife other).trans (h'.knife other)
  geometry other := (h'.geometry other).trans (h.geometry other)
  scale other := (h'.scale other).trans (h.scale other)
  dwellTime other := (h'.dwellTime other).trans (h.dwellTime other)
  locked other := (h'.locked other).trans (h.locked other)

theorem Change.settingsKept (change : Change c s t) : SettingsKept c s t := by
  have straps := change.strap
  cases change with
  | setting x step =>
    refine ⟨straps, fun locked => ?_, step.articles, step.current, fun _ => .inl ⟨step.knife, rfl⟩, step.geometry,
      fun _ => step.scale, step.dwellTime, step.locked⟩
    exact ⟨(step.lock locked).1, (step.lock locked).2, step.scale⟩
  | scale v own unlocked =>
    refine ⟨straps, fun locked => ?_, fun _ => rfl, fun _ => rfl, fun _ => .inl ⟨rfl, rfl⟩, fun _ => rfl,
      fun other => absurd own (other v), fun _ => rfl, fun _ => rfl⟩
    rw [unlocked] at locked
    contradiction
  | knife offsets own =>
    refine .ofKnife straps ?_ fun other => absurd own (other offsets)
    obtain ⟨_, eq⟩ | ⟨_, eq⟩ := takeKnife_cases offsets s
    · rw [eq]
    · rw [eq]
      rfl
  | table h tr step => exact .of straps rfl step.pending
  | finish h tr step =>
    obtain ⟨eq, _⟩ | ⟨k, pending, _, eq⟩ := applyPending_cases { s with hides := h, track := tr }
    · rw [eq]
      exact .of ⟨rfl, rfl⟩ rfl step.pending
    · rw [eq]
      exact .ofKnife ⟨rfl, rfl⟩ rfl fun _ => .inr ⟨step.pending ▸ pending, rfl⟩
  | gaugeNotice n => exact .of straps (by simp) (by simp)
  | haltLevel b => exact .of straps (by simp) (by simp)
  | phase p => exact .of straps (by simp) (by simp)
  | _ => exact .of straps rfl rfl

theorem Trail.settingsKept (path : Trail c s t) : SettingsKept c s t :=
  path.relates (R := SettingsKept c) (fun _ => .of ⟨rfl, rfl⟩ rfl rfl) (fun _ _ _ => SettingsKept.trans)
    fun _ _ => Change.settingsKept

/-- Settles O18: the settings' own requests are the only changes of a setting, apart from the pending profile and
what a RESET does before its trail begins. -/
theorem settingsChangeByTheirRequestsAlone : Obligations.SettingsChangeByTheirRequestsAlone := by
  intro c s t next notPower
  by_cases isReset : c = .reset
  · subst isReset
    have kept := (exec_reset_trail next).settingsKept
    have knife : t.settings.knife = (resetBlocks s).settings.knife := by
      obtain ⟨same, _⟩ | ⟨some, _⟩ := kept.knife (by simp)
      · exact same
      · simp [resetBlocks, Track.initial] at some
    refine ⟨kept.straps.2, kept.straps.1, fun locked => kept.lock locked, fun _ => kept.articles (by simp),
      fun _ other => absurd rfl other, fun _ => ?_, fun _ => kept.geometry (by simp), fun _ => kept.scale (by simp),
      fun _ => kept.dwellTime (by simp), fun _ => kept.locked (by simp)⟩
    rw [knife]
    cases pending : s.track.pendingKnife with
    | none => exact .inl (by simp [resetBlocks, Settings.afterReset, pending])
    | some k => exact .inr (by simp [resetBlocks, Settings.afterReset, pending])
  · have kept := (exec_trail next ⟨notPower, isReset⟩).settingsKept
    refine ⟨kept.straps.2, kept.straps.1, kept.lock, kept.articles, fun other _ => kept.current other, fun other => ?_,
      kept.geometry, kept.scale, kept.dwellTime, kept.locked⟩
    exact (kept.knife other).imp And.left And.left

/-! ## Strobes (O19) -/

/-- What a command leaves of the pulses on SCAN STROBE; a bottom pulse comes to no state that issues strobes from
one that does not. -/
structure StrobesKept (c : Instr) (s t : State) : Prop where
  issues : isBottomPulse c = true → t.ctl.phase.permitsStrobes = true → s.ctl.phase.permitsStrobes = true
  pulses : t.feed.strobePulses = s.feed.strobePulses ∨
    (isBottomPulse c = true ∧ s.ctl.phase.permitsStrobes = true ∧ s.feed.strobePulses < t.feed.strobePulses)

theorem StrobesKept.of (phase : t.ctl.phase = s.ctl.phase) (pulses : t.feed.strobePulses = s.feed.strobePulses) :
    StrobesKept c s t :=
  ⟨fun _ permits => phase ▸ permits, .inl pulses⟩

theorem StrobesKept.trans (h : StrobesKept c s t) (h' : StrobesKept c t u) : StrobesKept c s u := by
  refine ⟨fun pulse permits => h.issues pulse (h'.issues pulse permits), ?_⟩
  obtain same | ⟨pulse, permits, more⟩ := h'.pulses
  · rw [same]
    exact h.pulses
  · obtain same | ⟨_, permits', more'⟩ := h.pulses
    · exact .inr ⟨pulse, h.issues pulse permits, same ▸ more⟩
    · exact .inr ⟨pulse, permits', more'.trans more⟩

theorem applyGate_strobePulses (s : State) : (applyGate s).feed.strobePulses = s.feed.strobePulses := by
  obtain ⟨r, eq⟩ := applyGate_feed s
  rw [eq]

theorem Change.strobesKept (change : Change c s t) : StrobesKept c s t := by
  cases change with
  | feed f step => exact .of rfl step.pulses
  | strobe newest num pos pulse permitted => exact ⟨fun _ => id, .inr ⟨pulse, permitted, Nat.lt_succ_self _⟩⟩
  | haltLevel b => exact .of (by simp) (applyGate_strobePulses _)
  | phase p empty pulse =>
    obtain ⟨r, eq⟩ := enterPhase_spec p s
    rw [eq]
    exact ⟨fun isPulse _ => pulse isPulse, .inl rfl⟩
  | gaugeNotice n => exact .of (by simp) (by simp)
  | finish h tr => exact .of (by simp) (by simp)
  | knife offsets => obtain ⟨_, eq⟩ | ⟨_, eq⟩ := takeKnife_cases offsets s <;> rw [eq] <;> exact .of rfl rfl
  | _ => exact .of rfl rfl

theorem Trail.strobesKept (path : Trail c s t) : StrobesKept c s t :=
  path.relates (R := StrobesKept c) (fun _ => .of rfl rfl) (fun _ _ _ => StrobesKept.trans)
    fun _ _ => Change.strobesKept

theorem isBottomPulse_iff : isBottomPulse c = true ↔ ∃ a b order, c = .bottomPulse a b order := by
  cases c <;> simp [isBottomPulse]

/-- Settles O19: a strobe asks for a bottom pulse in a state that issues strobes, and one that has left them stays
out for the pulse. -/
theorem strobesAreIssuedOnlyWherePermitted : Obligations.StrobesAreIssuedOnlyWherePermitted := by
  intro c s t next notPower changed
  by_cases isReset : c = .reset
  · subst isReset
    obtain same | ⟨pulse, _⟩ := (exec_reset_trail next).strobesKept.pulses
    · exact absurd same changed
    · exact absurd pulse (by decide)
  · obtain same | ⟨pulse, permitted, more⟩ := (exec_trail next ⟨notPower, isReset⟩).strobesKept.pulses
    · exact absurd same changed
    · exact ⟨isBottomPulse_iff.mp pulse, permitted, more⟩

/-! ## Nothing left where strobes are not issued (half of O13) -/

theorem raiseGauge_list (n : GaugeNotice) (s : State) : (raiseGauge n s).intake.list = s.intake.list := by
  unfold raiseGauge
  split <;> rfl

theorem Change.restEmpty (change : Change c s t) (rest : RestEmpty s) : RestEmpty t := by
  intro quiet
  change Emptied t
  cases change with
  | phase p empty =>
    rw [enterPhase_phase] at quiet
    have emptied : Emptied s := by
      cases issued : s.ctl.phase.permitsStrobes with
      | true => exact empty quiet issued
      | false => exact rest issued
    exact emptied.of (by simp) (by simp) (by simp)
  | port i l list => exact (show Emptied s from rest quiet).of list rfl rfl
  | list l fewer =>
    obtain ⟨list, slices, finished⟩ := rest quiet
    exact ⟨fewer list, slices, finished⟩
  | join num pos permitted =>
    have quiet' : s.ctl.phase.permitsStrobes = false := quiet
    simp [permitted] at quiet'
  | table h tr step =>
    obtain ⟨list, slices, finished⟩ := rest quiet
    exact ⟨list, step.noSlices slices finished, step.finished finished⟩
  | finish h tr step =>
    obtain ⟨list, slices, finished⟩ := rest (by simpa using quiet)
    have emptied : Emptied { s with hides := h, track := tr } :=
      ⟨list, step.noSlices slices finished, step.finished finished⟩
    exact emptied.of (by simp) (by simp) (by rw [applyPending_slices])
  | drop n h own kept =>
    obtain ⟨list, slices, finished⟩ := rest quiet
    refine ⟨list, slices, ?_⟩
    rw [anyUnfinished_eq_false_iff] at finished ⊢
    intro r held
    rw [kept] at held
    exact finished r (List.mem_of_mem_filter held)
  | fill r n own profile permitted =>
    have quiet' : s.ctl.phase.permitsStrobes = false := quiet
    simp [permitted] at quiet'
  | gaugeNotice n =>
    exact (show Emptied s from rest (by simpa using quiet)).of (raiseGauge_list n s) (by simp) (by simp)
  | haltLevel b => exact (show Emptied s from rest (by simpa using quiet)).of (by simp) (by simp) (by simp)
  | knife offsets =>
    obtain ⟨_, eq⟩ | ⟨_, eq⟩ := takeKnife_cases offsets s <;> rw [eq] at quiet ⊢ <;>
      exact (show Emptied s from rest quiet).of rfl rfl rfl
  | _ => exact (show Emptied s from rest quiet).of rfl rfl rfl

theorem step_restEmpty (rest : RestEmpty s) (next : step s = .next t) : RestEmpty t :=
  step_keeps (fun _ _ => id) (fun _ _ _ => Change.restEmpty) (fun _ _ _ => ⟨rfl, rfl, rfl⟩)
    (fun _ _ _ => ⟨rfl, rfl, rfl⟩) rest next

end Sys2Proof.Machine

/-! PROOFS. What a command makes of the records in use: one knife profile for each hide (O20), its snapshot (O21)
and its report (O22). -/

namespace Sys2Proof.Machine

variable {c : Instr} {s t u : State}

/-! ## The way of the records over a command that opens no hide -/

/-- Every record in use has come, by steps, from one in use before, and a slice in the track from its hide. -/
structure Evolves (s t : State) : Prop where
  numbers : (t.hides.records.map HideRecord.number).Sublist (s.hides.records.map HideRecord.number)
  nextNumber : t.hides.nextNumber = s.hides.nextNumber
  origin : ∀ r' ∈ t.hides.records, ∃ r ∈ s.hides.records, RecordStep s r r'
  slices : ∀ sl ∈ t.track.slices, (∃ x ∈ s.track.slices, x.hide = sl.hide) ∨
    ∃ r ∈ s.hides.records, r.number = sl.hide ∧ r.state.unfinished = true
  knife : DistinctNumbers s → t.settings.knife = s.settings.knife ∨
    ∀ r ∈ s.hides.records, ∀ r' ∈ t.hides.records, r'.number = r.number → r.state.converting = true →
      r'.state.converting = false

theorem Evolves.distinct (h : Evolves s t) (distinct : DistinctNumbers s) : DistinctNumbers t :=
  distinct.sublist h.numbers

theorem RecordStep.ofConvertingAfter {r r' : HideRecord} (step : RecordStep s r r') (conv : r'.state.converting = true)
    (grown : 1 ≤ r.state.age) : r.state.converting = true := by
  have older := step.age
  rw [HideState.converting_iff_age] at conv ⊢
  omega

theorem Evolves.trans (h : Evolves s t) (h' : Evolves t u) : Evolves s u where
  numbers := h'.numbers.trans h.numbers
  nextNumber := h'.nextNumber.trans h.nextNumber
  origin r'' held := by
    obtain ⟨r', there, step'⟩ := h'.origin r'' held
    obtain ⟨r, first, step⟩ := h.origin r' there
    refine ⟨r, first, step'.number.trans step.number, step.age.trans step'.age, fun distinct grown => ?_,
      fun distinct finished none active => ?_, step'.slip ∘ step.slip⟩
    · obtain ⟨article, row⟩ := step.snapshot distinct grown
      obtain ⟨article', row'⟩ := step'.snapshot (h.distinct distinct) (grown.trans_le step.age)
      exact ⟨article'.trans article, row'.trans row⟩
    · have still : r'.state.unfinished = false := by
        rw [Bool.eq_false_iff, Ne, HideState.unfinished_iff_age] at finished ⊢
        exact fun young => finished (step.age.trans_lt young)
      have none' : ∀ sl ∈ t.track.slices, sl.hide ≠ r'.number := fun sl held same => by
        obtain ⟨x, before, hide⟩ | ⟨q, before, number, unfinished⟩ := h.slices sl held
        · exact none x before (hide.trans (same.trans step.number))
        · rw [distinct.unique before first (number.trans (same.trans step.number)), finished] at unfinished
          contradiction
      rw [step'.report (h.distinct distinct) still none' active, step.report distinct finished none active]
  slices sl held := by
    obtain ⟨x, there, hide⟩ | ⟨r', there, number, unfinished⟩ := h'.slices sl held
    · obtain ⟨y, first, hide'⟩ | ⟨r, first, number, unfinished⟩ := h.slices x there
      · exact .inl ⟨y, first, hide'.trans hide⟩
      · exact .inr ⟨r, first, number.trans hide, unfinished⟩
    · obtain ⟨r, first, step⟩ := h.origin r' there
      refine .inr ⟨r, first, step.number.symm.trans number, ?_⟩
      rw [HideState.unfinished_iff_age] at unfinished ⊢
      exact step.age.trans_lt unfinished
  knife distinct := by
    have between : ∀ r ∈ s.hides.records, ∀ r'' ∈ u.hides.records, r''.number = r.number →
        r.state.converting = true → r''.state.converting = true →
        ∃ r' ∈ t.hides.records, r'.number = r.number ∧ r''.number = r'.number ∧ r'.state.converting = true := by
      intro r first r'' held same conv conv''
      obtain ⟨r', there, step'⟩ := h'.origin r'' held
      obtain ⟨q, before, step⟩ := h.origin r' there
      have number : r'.number = r.number := step'.number.symm.trans same
      obtain rfl : q = r := distinct.unique before first (step.number.symm.trans number)
      rw [HideState.converting_iff_age] at conv
      exact ⟨r', there, number, step'.number, step'.ofConvertingAfter conv'' (conv.ge.trans step.age)⟩
    refine or_iff_not_imp_right.mpr fun some => ?_
    push Not at some
    obtain ⟨r, first, r'', held, same, conv, conv''⟩ := some
    have conv'' := (Bool.not_eq_false _).mp conv''
    obtain ⟨r', there, number, number', conv'⟩ := between r first r'' held same conv conv''
    obtain knife | none := h.knife distinct
    · obtain knife' | none' := h'.knife (h.distinct distinct)
      · exact knife'.trans knife
      · rw [none' r' there r'' held number' conv'] at conv''
        contradiction
    · rw [none r first r' there number conv] at conv'
      contradiction

theorem Evolves.of (hides : t.hides = s.hides) (slices : t.track.slices = s.track.slices)
    (knife : t.settings.knife = s.settings.knife) : Evolves s t :=
  ⟨by rw [hides], by rw [hides], fun r held => ⟨r, hides ▸ held, .refl s r⟩,
    fun sl held => .inl ⟨sl, slices ▸ held, rfl⟩, fun _ => .inl knife⟩

theorem forall₂_map_eq {α β : Type} {R : α → α → Prop} {f : α → β} (same : ∀ a b, R a b → f b = f a) {l l' : List α}
    (all : List.Forall₂ R l l') : l'.map f = l.map f := by
  induction all with
  | nil => rfl
  | cons related _ ih => rw [List.map_cons, List.map_cons, same _ _ related, ih]

theorem TableStep.evolves {h : HideTable} {tr : Track} (step : TableStep s h tr) :
    Evolves s { s with hides := h, track := tr } :=
  ⟨by rw [forall₂_map_eq (f := HideRecord.number) (fun _ _ related => related.number) step.records],
    step.nextNumber, fun _ held => forall₂_mem_right step.records held, step.slices, fun _ => .inl rfl⟩

theorem Change.evolves (change : Change c s t) (noneOpened : ∀ f tag, c ≠ .announce f tag) : Evolves s t := by
  cases change with
  | fill r n own =>
    obtain ⟨f, tag, rfl⟩ := own
    exact absurd rfl (noneOpened f tag)
  | drop n h own kept completion nextNumber =>
    have fewer : h.records.Sublist s.hides.records := kept ▸ List.filter_sublist
    exact ⟨fewer.map _, nextNumber, fun r held => ⟨r, fewer.subset held, .refl s r⟩, fun sl held => .inl ⟨sl, held, rfl⟩,
      fun _ => .inl rfl⟩
  | table h tr step => exact step.evolves
  | finish h tr step =>
    have tabled := step.evolves
    obtain ⟨eq, _⟩ | ⟨k, _, none, eq⟩ := applyPending_cases { s with hides := h, track := tr }
    · rwa [eq]
    · rw [eq]
      obtain ⟨numbers, nextNumber, origin, slices, _⟩ := tabled
      refine ⟨numbers, nextNumber, origin, slices, fun _ => .inr fun r _ r' held _ _ => ?_⟩
      simpa using List.any_eq_false.mp none r' held
  | knife offsets =>
    obtain ⟨_, eq⟩ | ⟨none, eq⟩ := takeKnife_cases offsets s <;> rw [eq]
    · exact .of rfl rfl rfl
    · obtain ⟨numbers, nextNumber, origin, slices, _⟩ := Evolves.of (s := s) (t := s) rfl rfl rfl
      refine ⟨numbers, nextNumber, origin, slices, fun _ => .inr fun r held _ _ _ conv => ?_⟩
      simp [List.any_eq_false.mp none r held] at conv
  | setting x step => exact .of rfl rfl step.knife
  | gaugeNotice n => exact .of (by simp) (by simp) (by simp)
  | haltLevel b => exact .of (by simp) (by simp) (by simp)
  | phase p => exact .of (by simp) (by simp) (by simp)
  | _ => exact .of rfl rfl rfl

theorem Trail.evolves (path : Trail c s t) (noneOpened : ∀ f tag, c ≠ .announce f tag) : Evolves s t :=
  path.relates (R := Evolves) (fun _ => .of rfl rfl rfl) (fun _ _ _ => Evolves.trans)
    fun _ _ change => change.evolves noneOpened

/-! ## ANNOUNCE -/

/-- The state in which an ANNOUNCE that is taken fills its record (R48, R49). -/
def madeRoom (e : Entry) (s : State) : State :=
  match openHide s with
  | some r =>
    if replaces e.num r then { s with hides := s.hides.free r.number }
    else consumeCapture (reclaim (endAt r.number (e.num - 1) true s))
  | none => consumeCapture (reclaim s)

/-- The edge that an ANNOUNCE gives its record: that of the hide replaced, or the captured one (R49, R50). -/
def edgeFor (e : Entry) (s : State) : Option Pos :=
  match openHide s with
  | some r => if replaces e.num r then r.edge else (reclaim (endAt r.number (e.num - 1) true s)).feed.capture
  | none => (reclaim s).feed.capture

theorem openNew_eq (e : Entry) (tag : Num) (s : State) :
    openNew e tag s = fillRecord e tag (edgeFor e s) (madeRoom e s) := by
  unfold openNew madeRoom edgeFor
  cases openHide s with
  | none => rfl
  | some r => dsimp only; split <;> rfl

theorem reclaim_released : ∃ n, Trail (.release n) s (reclaim s) := by
  refine ⟨(s.hides.completion.head?).getD 0, reclaim_trail fun n head => .inl ?_⟩
  rw [Option.mem_def.mp head]
  rfl

/-- Room is made as a release makes it. -/
theorem madeRoom_trail (e : Entry) (s : State) : ∃ n, Trail (.release n) s (madeRoom e s) := by
  unfold madeRoom
  split
  case h_1 r found =>
    obtain ⟨held, isOpen⟩ := openHide_mem found
    split
    · exact ⟨r.number, (Change.drop r.number (s.hides.free r.number) (.inl rfl) rfl (List.Subset.refl _) rfl fun sound =>
        sound.free held (HideState.unfinished_of_isOpen isOpen)).trail⟩
    · obtain ⟨n, reclaimed⟩ := reclaim_released (s := endAt r.number (e.num - 1) true s)
      exact ⟨n, (endAt_trail (e.num - 1) true held rfl (HideState.unfinished_of_isOpen isOpen) rfl).trans <|
        reclaimed.trans consumeCapture_trail⟩
  case h_2 =>
    obtain ⟨n, reclaimed⟩ := reclaim_released (s := s)
    exact ⟨n, reclaimed.trans consumeCapture_trail⟩

/-- An ANNOUNCE is refused, or its record is filled. -/
theorem announce_cases (f tag : Num) (s : State) :
    (∃ status, announce f tag s = refuseAnnounce status s) ∨
      ∃ newest e, s.feed.newest = some newest ∧ older newest.num f = false ∧ e ∈ s.intake.list ∧ e.num = f ∧
        s.ctl.phase.permitsStrobes = true ∧ claimedByEnded f s = false ∧ recordAvailable f s = true ∧
        s.intake.list.find? (fun e => e.num = f) = some e ∧
        announce f tag s = answerGauge 0x02 .ok (be16 s.hides.nextNumber) (openNew e tag s) := by
  unfold announce
  split
  · exact .inl ⟨_, rfl⟩
  case isFalse issuing =>
    split
    · exact .inl ⟨_, rfl⟩
    case h_2 newest issued =>
      split
      · exact .inl ⟨_, rfl⟩
      case isFalse old =>
        split
        · exact .inl ⟨_, rfl⟩
        case h_2 e found =>
          split
          · exact .inl ⟨_, rfl⟩
          case isFalse unclaimed =>
            split
            · exact .inl ⟨_, rfl⟩
            case isFalse available =>
              refine .inr ⟨newest, e, issued, by simpa using old, List.mem_of_find?_eq_some found,
                by simpa using List.find?_some found, by simpa using issuing, by simpa using unclaimed,
                by simpa using available, found, rfl⟩

/-- What filling a record makes of the table, and what it leaves. -/
theorem fillRecord_table (e : Entry) (tag : Num) (edge : Option Pos) (s : State) :
    (fillRecord e tag edge s).hides.records = s.hides.records ++ [filledRecord e tag edge s] ∧
      (fillRecord e tag edge s).track = s.track ∧ (fillRecord e tag edge s).settings = s.settings := by
  rw [fillRecord_eq]
  simp

/-- Over an ANNOUNCE the records go as over a release, and one in SCANNING may join them under the next number. -/
theorem execAnnounce_outcome {f tag : Num} (next : exec (.announce f tag) s = .next t) :
    Evolves s t ∨ ∃ m r, Evolves s m ∧ r.number = s.hides.nextNumber ∧ r.state = .scanning ∧
      t.hides.records = m.hides.records ++ [r] ∧ t.settings = m.settings := by
  have refused : ∀ status, Evolves s (refuseAnnounce status s) := fun status =>
    (refuseAnnounce_trail (c := .miss) status).evolves (by simp)
  cases strap : s.ctl.strap with
  | fixed =>
    simp only [exec, execAnnounce, strap] at next
    obtain rfl := Host.Outcome.next.inj next
    exact .inl (refused _)
  | profile =>
    simp only [exec, execAnnounce, strap] at next
    obtain rfl := Host.Outcome.next.inj next
    obtain ⟨status, eq⟩ | ⟨newest, e, _, _, _, _, _, _, _, _, eq⟩ := announce_cases f tag s
    · exact .inl (eq ▸ refused status)
    · obtain ⟨n, path⟩ := madeRoom_trail e s
      have room := path.evolves (by simp)
      obtain ⟨records, _, settings⟩ := fillRecord_table e tag (edgeFor e s) (madeRoom e s)
      rw [eq, openNew_eq]
      exact .inr ⟨madeRoom e s, _, room, (filledRecord_number ..).trans room.nextNumber, filledRecord_state .., records,
        settings⟩

/-! ## Rules for one record (O20 to O22) -/

theorem resetBlocks_records (next : exec .reset s = .next t) : t.hides.records = [] := by
  have records := ((exec_reset_trail next).evolves (by simp)).numbers
  simpa [resetBlocks, HideTable.initial] using records

theorem powerOn_records {pins : PinLevels} (next : exec (.powerOnReset pins) s = .next t) : t.hides.records = [] := by
  have records := ((exec_powerOn_trail next).evolves (by simp)).numbers
  simpa [State.powerOn, HideTable.initial] using records

/-- Over any command a record in use has come by steps from one in use before, or is new: in SCANNING, under the
next hide number. -/
theorem exec_evolves (next : exec c s = .next t) (some : t.hides.records ≠ []) :
    Evolves s t ∨ ∃ m r, Evolves s m ∧ r.number = s.hides.nextNumber ∧ r.state = .scanning ∧
      t.hides.records = m.hides.records ++ [r] ∧ t.settings = m.settings := by
  by_cases announced : ∃ f tag, c = .announce f tag
  · obtain ⟨f, tag, rfl⟩ := announced
    exact execAnnounce_outcome next
  · by_cases power : ∃ pins, c = .powerOnReset pins
    · obtain ⟨pins, rfl⟩ := power
      exact absurd (powerOn_records next) some
    · by_cases isReset : c = .reset
      · subst isReset
        exact absurd (resetBlocks_records next) some
      · exact .inl <| (exec_trail next ⟨fun pins same => power ⟨pins, same⟩, isReset⟩).evolves
          fun f tag same => announced ⟨f, tag, same⟩

/-- A record that keeps its number over a command has come from it by steps. -/
theorem exec_recordStep (distinct : DistinctNumbers s) (fresh : ∀ r ∈ s.hides.records, r.number ≠ s.hides.nextNumber)
    (next : exec c s = .next t) {r r' : HideRecord} (before : r ∈ s.hides.records) (held : r' ∈ t.hides.records)
    (same : r'.number = r.number) : RecordStep s r r' := by
  have from_origin : (∃ q ∈ s.hides.records, RecordStep s q r') → RecordStep s r r' := by
    rintro ⟨q, there, step⟩
    rwa [distinct.unique before there (same.symm.trans step.number)]
  obtain evolved | ⟨m, q, evolved, number, _, records, _⟩ := exec_evolves next (List.ne_nil_of_mem held)
  · exact from_origin (evolved.origin r' held)
  · rw [records] at held
    obtain held | held := List.mem_append.mp held
    · exact from_origin (evolved.origin r' held)
    · rw [List.mem_singleton.mp held] at same
      exact absurd (same.symm.trans number) (fresh r before)

/-- Settles O21: a record keeps its snapshot from its first conversion on. -/
theorem snapshotIsFixedOnceConverted : Obligations.SnapshotIsFixedOnceConverted := by
  intro c s t r r' sound next before held same notScanning notScanned
  refine (exec_recordStep sound.distinct sound.fresh next before held same).snapshot sound.distinct ?_
  cases state : r.state <;> simp_all [HideState.age]

/-- Settles O22: no step of a finished record without a slice in the track reaches its report. -/
theorem finishedReportsDoNotChange : Obligations.FinishedReportsDoNotChange := by
  intro c s t r r' sound next before held same finished none
  exact (exec_recordStep sound.distinct sound.fresh next before held same).report sound.distinct finished none

/-- Over any command the applied profile stands for a hide that was converting and is. -/
theorem exec_knife (distinct : DistinctNumbers s) (next : exec c s = .next t) {r r' : HideRecord}
    (before : r ∈ s.hides.records) (held : r' ∈ t.hides.records) (same : r'.number = r.number)
    (conv : r.state.converting = true) (conv' : r'.state.converting = true) :
    t.settings.knife = s.settings.knife := by
  obtain evolved | ⟨m, q, evolved, _, scanning, records, settings⟩ := exec_evolves next (List.ne_nil_of_mem held)
  · obtain knife | none := evolved.knife distinct
    · exact knife
    · simp [none r before r' held same conv] at conv'
  · rw [settings]
    obtain knife | none := evolved.knife distinct
    · exact knife
    · rw [records] at held
      obtain held | held := List.mem_append.mp held
      · simp [none r before r' held same conv] at conv'
      · rw [List.mem_singleton.mp held, scanning] at conv'
        exact absurd conv' (by decide)

end Sys2Proof.Machine

/-! PROOFS. The hide table over every command (first half of O9), and the pending knife profile (O20). -/

namespace Sys2Proof.Machine

variable {c : Instr} {s t : State}

/-! ## The next hide number (R46) -/

theorem nextNumberAfter_ne_zero (n : Num) : nextNumberAfter n ≠ 0 := by
  unfold nextNumberAfter
  split <;> bv_omega

theorem toNat_iterate_nextNumberAfter {n : Num} (positive : n ≠ 0) (i : Nat) :
    (nextNumberAfter^[i] n).toNat = (n.toNat - 1 + i) % 65535 + 1 := by
  induction i with
  | zero =>
    have : n.toNat ≠ 0 := fun zero => positive (BitVec.eq_of_toNat_eq zero)
    have := n.isLt
    simp only [Function.iterate_zero, id_eq]
    omega
  | succ i ih =>
    rw [Function.iterate_succ_apply']
    generalize nextNumberAfter^[i] n = m at ih
    unfold nextNumberAfter
    split
    case isTrue last =>
      rw [last] at ih
      have wrap : (n.toNat - 1 + i) % 65535 = 65534 := by simpa using ih.symm
      have : (n.toNat - 1 + (i + 1)) % 65535 = 0 := by omega
      rw [this]
      rfl
    case isFalse inner =>
      have notLast : m.toNat ≠ 65535 := fun last => inner (BitVec.eq_of_toNat_eq last)
      have := m.isLt
      rw [BitVec.toNat_add, show (1 : Num).toNat = 1 from rfl]
      omega

/-- The search ends at a number not in use, or has passed `fuel` numbers in use. -/
theorem advanceNumber_cases (inUse : List Num) (fuel : Nat) (n : Num) :
    advanceNumber inUse fuel n ∉ inUse ∨ ∀ i < fuel, nextNumberAfter^[i] n ∈ inUse := by
  induction fuel generalizing n with
  | zero => exact .inr fun i below => absurd below (Nat.not_lt_zero i)
  | succ fuel ih =>
    unfold advanceNumber
    by_cases used : n ∈ inUse
    · rw [if_pos (by simpa using used)]
      refine (ih (nextNumberAfter n)).imp_right fun all i below => ?_
      cases i with
      | zero => exact used
      | succ i => exact all i (Nat.lt_of_succ_lt_succ below)
    · rw [if_neg (by simpa using used)]
      exact .inl used

theorem advanceNumber_ne_zero (inUse : List Num) (fuel : Nat) {n : Num} (positive : n ≠ 0) :
    advanceNumber inUse fuel n ≠ 0 := by
  induction fuel generalizing n with
  | zero => exact positive
  | succ fuel ih =>
    unfold advanceNumber
    split
    · exact ih (nextNumberAfter_ne_zero n)
    · exact positive

/-- Of nine numbers one is not among eight in use. -/
theorem advanceNumber_fresh {inUse : List Num} (eight : inUse.length ≤ 8) {n : Num} (positive : n ≠ 0) :
    advanceNumber inUse 9 n ∉ inUse := by
  refine (advanceNumber_cases inUse 9 n).resolve_right fun all => ?_
  have nodup : ((List.range 9).map fun i => nextNumberAfter^[i] n).Nodup := by
    refine List.Nodup.map_on (fun i first j second same => ?_) List.nodup_range
    have equal := congrArg BitVec.toNat same
    rw [toNat_iterate_nextNumberAfter positive, toNat_iterate_nextNumberAfter positive] at equal
    rw [List.mem_range] at first second
    omega
  have subset : ((List.range 9).map fun i => nextNumberAfter^[i] n) ⊆ inUse := fun m held => by
    obtain ⟨i, below, rfl⟩ := List.mem_map.mp held
    exact all i (List.mem_range.mp below)
  have := (nodup.subperm subset).length_le
  simp at this
  omega

/-! ## Over a command that opens no hide -/

theorem Change.hideTableSound (change : Change c s t) (noneOpened : ∀ f tag, c ≠ .announce f tag)
    (sound : HideTableSound s) : HideTableSound t := by
  cases change with
  | table h tr step => exact step.sound sound
  | finish h tr step => exact (step.sound sound).of (by simp)
  | drop n h own kept completion nextNumber keeps => exact keeps sound
  | fill r n own =>
    obtain ⟨f, tag, rfl⟩ := own
    exact absurd rfl (noneOpened f tag)
  | knife offsets => obtain ⟨_, eq⟩ | ⟨_, eq⟩ := takeKnife_cases offsets s <;> rw [eq] <;> exact sound.of rfl
  | gaugeNotice n => exact sound.of (by simp)
  | haltLevel b => exact sound.of (by simp)
  | phase p => exact sound.of (by simp)
  | _ => exact sound.of rfl

theorem Trail.hideTableSound (path : Trail c s t) (noneOpened : ∀ f tag, c ≠ .announce f tag)
    (sound : HideTableSound s) : HideTableSound t :=
  path.keeps (fun _ _ change => change.hideTableSound noneOpened) sound

/-! ## Over an ANNOUNCE (R46 to R49) -/

/-- Two open hides are one (R49). -/
theorem HideTableSound.open_unique (sound : HideTableSound s) {q r : HideRecord} (hq : q ∈ s.hides.records)
    (hr : r ∈ s.hides.records) (open_q : q.state.isOpen = true) (open_r : r.state.isOpen = true) : q = r := by
  obtain ⟨_, _, _, _, oneOpen, _, _⟩ := sound
  have memQ : q ∈ s.hides.records.filter fun r => r.state.isOpen := List.mem_filter.mpr ⟨hq, open_q⟩
  have memR : r ∈ s.hides.records.filter fun r => r.state.isOpen := List.mem_filter.mpr ⟨hr, open_r⟩
  match filtered : s.hides.records.filter (fun r => r.state.isOpen), oneOpen with
  | [], _ => simp [filtered] at memQ
  | [x], _ =>
    rw [filtered, List.mem_singleton] at memQ memR
    exact memQ.trans memR.symm
  | _ :: _ :: _, two => exact absurd two (by rw [filtered, List.length_cons, List.length_cons]; omega)

/-- No hide is open. -/
def NoneOpen (s : State) : Prop := ∀ r ∈ s.hides.records, r.state.isOpen = false

theorem NoneOpen.of_openHide (none : openHide s = none) : NoneOpen s := by
  intro r held
  simpa using List.find?_eq_none.mp none r held

theorem tryDone_records (n : Num) (s : State) :
    (tryDone n s).hides.records = s.hides.records ∨
      (tryDone n s).hides.records = s.hides.records.map (HideRecord.doneIf n) := by
  unfold tryDone
  split
  · split
    · exact .inr (by simp [becomeDone, joinCompletion, updHide, updRecords, HideRecord.doneIf])
    · exact .inl rfl
  · exact .inl rfl

theorem tryDone_completion (n : Num) (s : State) : s.hides.completion <+: (tryDone n s).hides.completion := by
  unfold tryDone
  split
  · split
    · exact ⟨[n], by simp [becomeDone, joinCompletion, updHide, updRecords]⟩
    · exact List.prefix_rfl
  · exact List.prefix_rfl

theorem HideState.ended_not_isOpen (h : HideState) : h.ended.isOpen = false := by cases h <;> rfl

/-- The record of number n ended at a strobe (R53). -/
def HideRecord.endedIf (n e : Num) (forced : Bool) (r : HideRecord) : HideRecord :=
  if r.number = n then
    { r with state := r.state.ended, last := some e, flags := { r.flags with forcedEnd := r.flags.forcedEnd || forced } }
  else r

theorem endAt_eq (n e : Num) (forced : Bool) (s : State) :
    endAt n e forced s = tryDone n (raiseLineIf forced .forcedEnd (updRecords (HideRecord.endedIf n e forced) s)) := rfl

theorem endAt_records (n e : Num) (forced : Bool) (s : State) :
    (endAt n e forced s).hides.records = s.hides.records.map (HideRecord.endedIf n e forced) ∨
      (endAt n e forced s).hides.records =
        (s.hides.records.map (HideRecord.endedIf n e forced)).map (HideRecord.doneIf n) := by
  rw [endAt_eq]
  simpa [updRecords] using tryDone_records n (raiseLineIf forced .forcedEnd (updRecords (HideRecord.endedIf n e forced) s))

theorem endAt_records_length (n e : Num) (forced : Bool) (s : State) :
    (endAt n e forced s).hides.records.length = s.hides.records.length := by
  obtain eq | eq := endAt_records n e forced s <;> simp [eq]

theorem endAt_completion (n e : Num) (forced : Bool) (s : State) :
    s.hides.completion <+: (endAt n e forced s).hides.completion := by
  rw [endAt_eq]
  simpa [updRecords] using
    tryDone_completion n (raiseLineIf forced .forcedEnd (updRecords (HideRecord.endedIf n e forced) s))

/-- Where the hide of number n was the only one open, none is open after its end. -/
theorem endAt_noneOpen {n e : Num} {forced : Bool} (only : ∀ r ∈ s.hides.records, r.state.isOpen = true → r.number = n) :
    NoneOpen (endAt n e forced s) := by
  have ended : ∀ r ∈ s.hides.records, (r.endedIf n e forced).state.isOpen = false := by
    intro r held
    unfold HideRecord.endedIf
    split
    · exact r.state.ended_not_isOpen
    case isFalse other => exact Bool.eq_false_iff.mpr fun isOpen => other (only r held isOpen)
  intro q held
  obtain eq | eq := endAt_records n e forced s
  · rw [eq] at held
    obtain ⟨r, there, rfl⟩ := List.mem_map.mp held
    exact ended r there
  · rw [eq, List.map_map] at held
    obtain ⟨r, there, rfl⟩ := List.mem_map.mp held
    rw [Function.comp_apply, HideRecord.doneIf]
    split
    · rfl
    · exact ended r there

theorem reclaim_records (s : State) : (reclaim s).hides.records.Sublist s.hides.records := by
  unfold reclaim
  split
  · exact .refl _
  · split
    · exact .refl _
    · exact List.filter_sublist

/-- A record is FREE after a reclaim, where one was or a finished one could be reclaimed (R48). -/
theorem reclaim_length (sound : HideTableSound s)
    (available : s.hides.records.length < 8 ∨ s.hides.completion ≠ []) : (reclaim s).hides.records.length < 8 := by
  unfold reclaim
  split
  case isTrue free => exact free
  case isFalse full =>
    split
    case h_1 empty => exact absurd empty (available.resolve_left full)
    case h_2 n rest list =>
      obtain ⟨r, held, numbered, _⟩ := sound.mem_completion.mp (show n ∈ s.hides.completion by rw [list]; exact .head _)
      obtain ⟨eight, _⟩ := sound
      refine lt_of_lt_of_le ?_ eight
      exact List.length_filter_lt_length_iff_exists.mpr ⟨r, held, by simpa using numbered⟩

/-- After room has been made the table is sound, a record is FREE and no hide is open. -/
theorem madeRoom_sound {e : Entry} (sound : HideTableSound s) (available : recordAvailable e.num s = true) :
    HideTableSound (madeRoom e s) ∧ (madeRoom e s).hides.records.length < 8 ∧ NoneOpen (madeRoom e s) := by
  obtain ⟨n, path⟩ := madeRoom_trail e s
  refine ⟨path.hideTableSound (by simp) sound, ?_⟩
  simp only [recordAvailable, Bool.or_eq_true, decide_eq_true_eq, Bool.not_eq_true', List.isEmpty_eq_false_iff] at available
  unfold madeRoom
  cases found : openHide s with
  | none =>
    rw [found] at available
    refine ⟨reclaim_length sound (available.resolve_right (by simp)), fun r held => ?_⟩
    exact NoneOpen.of_openHide found r ((reclaim_records s).subset held)
  | some r =>
    obtain ⟨held, isOpen⟩ := openHide_mem found
    rw [found] at available
    dsimp only at available ⊢
    split
    case isTrue replaced =>
      refine ⟨?_, fun q there => Bool.eq_false_iff.mpr fun open_q => ?_⟩
      · refine lt_of_lt_of_le ?_ sound.1
        exact List.length_filter_lt_length_iff_exists.mpr ⟨r, held, by simp⟩
      · obtain ⟨there, other⟩ := List.mem_filter.mp there
        simp [sound.open_unique there held open_q isOpen] at other
    case isFalse stays =>
      have ended : Trail (.release 0) s (endAt r.number (e.num - 1) true s) :=
        endAt_trail (e.num - 1) true held rfl (HideState.unfinished_of_isOpen isOpen) rfl
      refine ⟨reclaim_length (ended.hideTableSound (by simp) sound) ?_, fun q there => ?_⟩
      · rw [endAt_records_length]
        refine (available.resolve_right stays).imp_right fun some empty => some ?_
        have front := endAt_completion r.number (e.num - 1) true s
        rw [empty] at front
        exact List.prefix_nil.mp front
      · refine endAt_noneOpen (fun q there open_q => ?_) q ((reclaim_records _).subset there)
        rw [sound.open_unique there held open_q isOpen]

/-- The table with a record joined to it (R46). -/
def HideTable.fill (r : HideRecord) (h : HideTable) : HideTable :=
  { h with
    records := h.records ++ [r]
    nextNumber := advanceNumber ((h.records ++ [r]).map HideRecord.number) 9 (nextNumberAfter r.number) }

theorem fillRecord_hides (e : Entry) (tag : Num) (edge : Option Pos) (s : State) :
    (fillRecord e tag edge s).hides = s.hides.fill (filledRecord e tag edge s) := by
  rw [fillRecord_eq, raiseLineIf_hides]
  rfl

theorem HideTableSound.fill {r : HideRecord} (sound : HideTableSound s) (number : r.number = s.hides.nextNumber)
    (state : r.state = .scanning) (free : s.hides.records.length < 8) (none : NoneOpen s) :
    HideTableSound { s with hides := s.hides.fill r } := by
  have nodup := sound.nodup_completion
  have mem : ∀ m, m ∈ s.hides.completion ↔ _ := fun m => sound.mem_completion (n := m)
  have cursor := sound.cursor
  have fresh := sound.fresh
  obtain ⟨length, distinct, numbers, next, oneOpen, _, _⟩ := sound
  have eight : (s.hides.records ++ [r]).length ≤ 8 := by rw [List.length_append]; exact free
  have distinct' : DistinctNumbers { s with hides := s.hides.fill r } := by
    unfold DistinctNumbers
    dsimp only [HideTable.fill]
    rw [List.map_append, List.nodup_append]
    refine ⟨distinct, List.nodup_singleton _, fun m first m' second same => ?_⟩
    obtain ⟨q, held, rfl⟩ := List.mem_map.mp first
    rw [List.map_singleton, List.mem_singleton, number] at second
    exact fresh q held (same.trans second)
  have next' := advanceNumber_fresh (inUse := (s.hides.records ++ [r]).map HideRecord.number)
    (by rw [List.length_map]; exact eight) (nextNumberAfter_ne_zero r.number)
  refine ⟨eight, distinct', fun q held => ⟨?_, fun same => next' ?_⟩,
    advanceNumber_ne_zero _ _ (nextNumberAfter_ne_zero _), ?_,
    (completion_perm_iff distinct').mpr ⟨nodup, fun m => ?_⟩, cursor⟩
  · obtain held | held := List.mem_append.mp held
    · exact (numbers q held).1
    · rw [List.mem_singleton.mp held, number]
      exact next
  · have numbered : q.number ∈ (s.hides.records ++ [r]).map HideRecord.number := List.mem_map_of_mem held
    rw [same] at numbered
    exact numbered
  · have empty : s.hides.records.filter (fun r => r.state.isOpen) = [] :=
      List.filter_eq_nil_iff.mpr fun q held => by simp [none q held]
    dsimp only [HideTable.fill]
    rw [List.filter_append, empty, List.nil_append]
    exact List.length_filter_le _ _
  · refine (mem m).trans ⟨fun ⟨q, held, rest⟩ => ⟨q, List.mem_append_left _ held, rest⟩, fun ⟨q, held, same, finished⟩ => ?_⟩
    obtain held | held := List.mem_append.mp held
    · exact ⟨q, held, same, finished⟩
    · rw [List.mem_singleton.mp held, state] at finished
      exact absurd finished (by decide)

theorem announce_sound {f tag : Num} (sound : HideTableSound s) (next : exec (.announce f tag) s = .next t) :
    HideTableSound t := by
  have refused : ∀ status, HideTableSound (refuseAnnounce status s) := fun status =>
    (refuseAnnounce_trail (c := .miss) status).hideTableSound (by simp) sound
  cases strap : s.ctl.strap with
  | fixed =>
    simp only [exec, execAnnounce, strap] at next
    obtain rfl := Host.Outcome.next.inj next
    exact refused _
  | profile =>
    simp only [exec, execAnnounce, strap] at next
    obtain rfl := Host.Outcome.next.inj next
    obtain ⟨status, eq⟩ | ⟨newest, e, _, _, _, rfl, _, _, available, _, eq⟩ := announce_cases f tag s
    · exact eq ▸ refused status
    · obtain ⟨roomSound, free, none⟩ := madeRoom_sound sound available
      rw [eq, openNew_eq]
      exact (roomSound.fill (filledRecord_number ..) (filledRecord_state ..) free none).of
        (fillRecord_hides e tag (edgeFor e s) (madeRoom e s))

theorem hideTableSound_initial (hides : s.hides = HideTable.initial) : HideTableSound s := by
  refine HideTableSound.of (s := State.reset) ?_ hides
  unfold HideTableSound
  decide

theorem step_hideTableSound (sound : HideTableSound s) (next : step s = .next t) : HideTableSound t := by
  cases front : s.pending with
  | nil =>
    rw [step_nil front] at next
    obtain rfl := Host.Outcome.next.inj next
    exact (tick_trail (c := .miss) rfl).hideTableSound (by simp) sound
  | cons c rest =>
    rw [step_cons front] at next
    have sound : HideTableSound { s with pending := rest } := sound.of rfl
    by_cases announced : ∃ f tag, c = .announce f tag
    · obtain ⟨f, tag, rfl⟩ := announced
      exact announce_sound sound next
    · by_cases power : ∃ pins, c = .powerOnReset pins
      · obtain ⟨pins, rfl⟩ := power
        exact (exec_powerOn_trail next).hideTableSound (by simp) (hideTableSound_initial rfl)
      · by_cases isReset : c = .reset
        · subst isReset
          exact (exec_reset_trail next).hideTableSound (by simp) (hideTableSound_initial rfl)
        · exact (exec_trail next ⟨fun pins same => power ⟨pins, same⟩, isReset⟩).hideTableSound
            (fun f tag same => announced ⟨f, tag, same⟩) sound

end Sys2Proof.Machine

/-! PROOFS. A pending knife profile waits for the last converting hide (O20). -/

namespace Sys2Proof.Machine

variable {c : Instr} {s t : State}

/-! ## The geometry's ranges (R162) -/

structure GeometryOk (g : Geometry) : Prop where
  pitch : 10 ≤ g.pitch ∧ g.pitch ≤ 500
  distance : 1000 ≤ g.distance ∧ g.distance ≤ 20000
  lead : 10 ≤ g.lead ∧ g.lead ≤ 20000
  parkGap : 20 ≤ g.parkGap ∧ g.parkGap ≤ 900
  entryGap : 20 ≤ g.entryGap ∧ g.entryGap ≤ 900
  settle : 100 ≤ g.settle ∧ g.settle ≤ 5000
  tolerance : g.tolerance ≤ 200
  window : 200 ≤ g.window ∧ g.window ≤ 5000
  maxLength : 5000 ≤ g.maxLength ∧ g.maxLength ≤ 60000
  pitchLead : g.pitch ≤ g.lead
  leadDistance : g.lead + g.pitch ≤ g.distance
  slices : g.distance ≤ 480 * g.pitch

theorem geometryOk_of_item {g : Geometry} (passes : geometryItem g = 0) : GeometryOk g := by
  rw [geometryItem, firstFailing_eq_zero_iff (by simp [geometryChecks])] at passes
  simp only [geometryChecks, List.forall_mem_cons, inRange, decide_eq_true_eq] at passes
  obtain ⟨h1, h2, h3, h4, h5, h6, h7, h8, h9, h10, h11, h12, h13, h14, h15, h16, h17, h18, _⟩ := passes
  constructor <;> omega

theorem SettingsSound.geometry (sound : SettingsSound s) : GeometryOk s.settings.geometry := by
  obtain ⟨_, _, _, _, _, passes, _⟩ := sound
  exact geometryOk_of_item passes

/-! ## How far back an open hide began (R49, R54) -/

/-- In LOCKED a strobe of the numbering lies as many pitches back as it has strobes, less the way to the next one. -/
theorem InNumbering.pastBy {x : StrobeId} (numbered : InNumbering s x) (base : StrobeBaseSound s)
    (locked : s.feed.sync = .locked) (pitch : s.settings.geometry.pitch ≤ 500) :
    pastBy s x.pos + (s.feed.nextPos - s.feed.h).toNat = strobesBack s x.num * s.settings.geometry.pitch := by
  obtain ⟨back, place⟩ := numbered
  obtain ⟨low, high⟩ := base.1 locked
  have far : strobesBack s x.num * s.settings.geometry.pitch < 2 ^ 32 := by
    have number : strobesBack s x.num < 65536 := BitVec.isLt _
    calc strobesBack s x.num * s.settings.geometry.pitch ≤ 65536 * 500 := Nat.mul_le_mul number.le pitch
      _ < 2 ^ 32 := by norm_num
  have ahead : s.settings.geometry.pitch ≤ strobesBack s x.num * s.settings.geometry.pitch :=
    Nat.le_mul_of_pos_left _ back
  unfold Machine.pastBy
  generalize strobesBack s x.num * s.settings.geometry.pitch = d at place far ahead
  rw [← place] at low high ⊢
  bv_omega

/-- Of two strobes of the numbering the one that lies further back is the older. -/
theorem older_of_back {a b : Num} (further : strobesBack s b < strobesBack s a) (near : strobesBack s a < 32768) :
    older a b = true := by
  unfold strobesBack at further near
  unfold older
  rw [decide_eq_true_eq, BitVec.toInt_eq_toNat_cond]
  have difference : (b - a).toNat = (s.feed.nextNum - a).toNat - (s.feed.nextNum - b).toNat := by bv_omega
  rw [difference, if_pos (by omega)]
  omega

theorem locked_of_unfinished (track : TrackSound s) {r : HideRecord} (held : r ∈ s.hides.records)
    (unfinished : r.state.unfinished = true) : s.feed.sync = .locked := by
  obtain ⟨_, settling, _⟩ := track
  cases sync : s.feed.sync with
  | locked => rfl
  | settling =>
    have finished := (settling sync).2
    rw [anyUnfinished, List.any_eq_false] at finished
    exact absurd unfinished (finished r held)

/-- An open hide began within the reach of the numbering. -/
theorem TrackSound.open_near (track : TrackSound s) (settings : SettingsSound s) {r : HideRecord}
    (held : r ∈ s.hides.records) (isOpen : r.state.isOpen = true) : strobesBack s r.first.num ≤ 6050 := by
  have locked := locked_of_unfinished track held (HideState.unfinished_of_isOpen isOpen)
  obtain ⟨base, _, _, _, _, _, records⟩ := track
  obtain ⟨_, opened⟩ := records r held
  obtain ⟨_, numbered, near, _⟩ := opened isOpen
  have geometry := settings.geometry
  have way := numbered.pastBy base locked geometry.pitch.2
  have gap := (base.1 locked).2
  have long := geometry.maxLength
  have far := geometry.distance
  have pitch := geometry.pitch
  have : strobesBack s r.first.num * 10 ≤ strobesBack s r.first.num * s.settings.geometry.pitch :=
    Nat.mul_le_mul_left _ pitch.1
  omega

theorem HideState.scanSplit_of_open (h : HideState) : h.converting = true → h.isOpen = true → h = .scanSplit := by
  cases h <;> decide

/-- The open hide that an ANNOUNCE replaces is still SCANNING (R49). -/
theorem TrackSound.replaced_not_converting (track : TrackSound s) (settings : SettingsSound s) {r : HideRecord}
    {e : Entry} (held : r ∈ s.hides.records) (isOpen : r.state.isOpen = true) (listed : e ∈ s.intake.list)
    (replaced : replaces e.num r = true) : r.state.converting = false := by
  refine Bool.eq_false_iff.mpr fun conv => ?_
  have scanSplit := HideState.scanSplit_of_open r.state conv isOpen
  have near := track.open_near settings held isOpen
  obtain ⟨_, _, _, _, _, _, records⟩ := track
  obtain ⟨_, opened⟩ := records r held
  obtain ⟨_, _, _, before⟩ := opened isOpen
  have newer := older_of_back (before (.inr scanSplit) e listed) (by omega)
  simp [replaces, atOrOlder, newer] at replaced

/-! ## The pending profile (R84) -/

theorem PendingKnifeSound.of (sound : PendingKnifeSound s) (pending : t.track.pendingKnife = s.track.pendingKnife)
    (hides : t.hides = s.hides) : PendingKnifeSound t := by
  unfold PendingKnifeSound anyConverting at sound ⊢
  rwa [pending, hides]

theorem applyPending_sound (s : State) : PendingKnifeSound (applyPending s) := by
  obtain ⟨eq, sound⟩ | ⟨k, _, _, eq⟩ := applyPending_cases s <;> rw [eq]
  · exact sound
  · exact fun some => absurd rfl some

/-- The command takes no record out of the table of its own. -/
def TakesNoRecord (c : Instr) : Prop := (∀ n, c ≠ .release n) ∧ ∀ f tag, c ≠ .announce f tag

theorem Change.pendingKnifeSound (change : Change c s t) (stays : TakesNoRecord c) (sound : PendingKnifeSound s) :
    PendingKnifeSound t := by
  obtain ⟨noRelease, noAnnounce⟩ := stays
  cases change with
  | table h tr step converting =>
    intro some
    exact converting (sound (step.pending ▸ some))
  | finish h tr step => exact applyPending_sound _
  | drop n h own =>
    obtain own | ⟨f, tag, own⟩ := own
    · exact absurd own (noRelease n)
    · exact absurd own (noAnnounce f tag)
  | fill r n own =>
    obtain ⟨f, tag, own⟩ := own
    exact absurd own (noAnnounce f tag)
  | knife offsets =>
    obtain ⟨conv, eq⟩ | ⟨_, eq⟩ := takeKnife_cases offsets s <;> rw [eq]
    · exact fun _ => conv
    · exact fun some => absurd rfl some
  | gaugeNotice n => exact sound.of (by simp) (by simp)
  | haltLevel b => exact sound.of (by simp) (by simp)
  | phase p => exact sound.of (by simp) (by simp)
  | _ => exact sound.of rfl rfl

theorem Trail.pendingKnifeSound (path : Trail c s t) (stays : TakesNoRecord c) (sound : PendingKnifeSound s) :
    PendingKnifeSound t :=
  path.keeps (fun _ _ change => change.pendingKnifeSound stays) sound

/-- A converting hide stays in the table where no converting one has the number that leaves. -/
theorem anyConverting_filter {n : Num} {h : HideTable} (records : h.records = s.hides.records.filter (·.number ≠ n))
    (other : ∀ r ∈ s.hides.records, r.number = n → r.state.converting = false) (conv : anyConverting s = true) :
    anyConverting { s with hides := h } = true := by
  obtain ⟨r, held, converting⟩ := List.any_eq_true.mp conv
  refine List.any_eq_true.mpr ⟨r, ?_, converting⟩
  dsimp only
  rw [records]
  refine List.mem_filter.mpr ⟨held, decide_eq_true fun numbered => ?_⟩
  rw [other r held numbered] at converting
  contradiction

theorem HideState.not_converting_of_finished (h : HideState) : h.unfinished = false → h.converting = false := by
  cases h <;> decide

theorem HideTableSound.listed_not_converting (sound : HideTableSound s) {n : Num} (listed : n ∈ s.hides.completion) :
    ∀ r ∈ s.hides.records, r.number = n → r.state.converting = false :=
  fun r held numbered => r.state.not_converting_of_finished (sound.finished_of_mem listed held numbered)

theorem reclaim_pendingKnifeSound (table : HideTableSound s) (sound : PendingKnifeSound s) :
    PendingKnifeSound (reclaim s) := by
  unfold reclaim
  split
  · exact sound
  · split
    · exact sound
    case h_2 n rest list =>
      have listed : n ∈ s.hides.completion := by rw [list]; exact .head _
      exact fun some => anyConverting_filter (h := (s.hides.leave n).free n) rfl (table.listed_not_converting listed)
        (sound some)

/-- Making room keeps a pending profile waiting for a converting hide. -/
theorem madeRoom_pendingKnifeSound {e : Entry} (table : HideTableSound s) (settings : SettingsSound s)
    (track : TrackSound s) (listed : e ∈ s.intake.list) (sound : PendingKnifeSound s) :
    PendingKnifeSound (madeRoom e s) := by
  unfold madeRoom
  cases found : openHide s with
  | none => exact (reclaim_pendingKnifeSound table sound).of rfl rfl
  | some r =>
    obtain ⟨held, isOpen⟩ := openHide_mem found
    dsimp only
    split
    case isTrue replaced =>
      have young := track.replaced_not_converting settings held isOpen listed replaced
      exact fun some => anyConverting_filter (h := s.hides.free r.number) rfl
        (fun q there same => table.distinct.unique there held same ▸ young) (sound some)
    case isFalse =>
      have ended : Trail .gaugeReset s (endAt r.number (e.num - 1) true s) :=
        endAt_trail (e.num - 1) true held rfl (HideState.unfinished_of_isOpen isOpen) rfl
      exact (reclaim_pendingKnifeSound (ended.hideTableSound (by simp) table)
        (ended.pendingKnifeSound ⟨by simp, by simp⟩ sound)).of rfl rfl

theorem fillRecord_pendingKnifeSound (e : Entry) (tag : Num) (edge : Option Pos) (sound : PendingKnifeSound s) :
    PendingKnifeSound (fillRecord e tag edge s) := by
  obtain ⟨records, track, _⟩ := fillRecord_table e tag edge s
  intro some
  rw [track] at some
  rw [anyConverting, records, List.any_append, show s.hides.records.any (fun r => r.state.converting) = true from sound some,
    Bool.true_or]

theorem announce_pendingKnifeSound {f tag : Num} (table : HideTableSound s) (settings : SettingsSound s)
    (track : TrackSound s) (sound : PendingKnifeSound s) (next : exec (.announce f tag) s = .next t) :
    PendingKnifeSound t := by
  have refused : ∀ status, PendingKnifeSound (refuseAnnounce status s) := fun status =>
    (refuseAnnounce_trail (c := .miss) status).pendingKnifeSound ⟨by simp, by simp⟩ sound
  cases strap : s.ctl.strap with
  | fixed =>
    simp only [exec, execAnnounce, strap] at next
    obtain rfl := Host.Outcome.next.inj next
    exact refused _
  | profile =>
    simp only [exec, execAnnounce, strap] at next
    obtain rfl := Host.Outcome.next.inj next
    obtain ⟨status, eq⟩ | ⟨newest, e, _, _, listed, rfl, _, _, _, _, eq⟩ := announce_cases f tag s
    · exact eq ▸ refused status
    · rw [eq, openNew_eq]
      exact (fillRecord_pendingKnifeSound e tag _ (madeRoom_pendingKnifeSound table settings track listed sound)).of rfl rfl

theorem release_pendingKnifeSound {n : Num} (table : HideTableSound s) (sound : PendingKnifeSound s)
    (next : exec (.release n) s = .next t) : PendingKnifeSound t := by
  simp only [exec, execRelease] at next
  split at next
  case h_1 =>
    obtain rfl := Host.Outcome.next.inj next
    exact sound.of rfl rfl
  case h_2 r found =>
    obtain ⟨held, numbered⟩ := findHide_mem found
    split at next <;> obtain rfl := Host.Outcome.next.inj next
    · exact sound.of rfl rfl
    case isFalse finished =>
      have done : r.state.converting = false := r.state.not_converting_of_finished (by simpa using finished)
      exact fun some => anyConverting_filter (h := (s.hides.leave n).free n) rfl
        (fun q there same => table.distinct.unique there held (same.trans numbered.symm) ▸ done) (sound some)

theorem pendingKnifeSound_initial (track : s.track = Track.initial) : PendingKnifeSound s := by
  intro some
  rw [track] at some
  exact absurd rfl some

theorem exec_pendingKnifeSound (table : HideTableSound s) (settings : SettingsSound s) (track : TrackSound s)
    (sound : PendingKnifeSound s) (next : exec c s = .next t) : PendingKnifeSound t := by
  by_cases announced : ∃ f tag, c = .announce f tag
  · obtain ⟨f, tag, rfl⟩ := announced
    exact announce_pendingKnifeSound table settings track sound next
  · by_cases released : ∃ n, c = .release n
    · obtain ⟨n, rfl⟩ := released
      exact release_pendingKnifeSound table sound next
    · by_cases power : ∃ pins, c = .powerOnReset pins
      · obtain ⟨pins, rfl⟩ := power
        exact (exec_powerOn_trail next).pendingKnifeSound ⟨by simp, by simp⟩ (pendingKnifeSound_initial rfl)
      · by_cases isReset : c = .reset
        · subst isReset
          exact (exec_reset_trail next).pendingKnifeSound ⟨by simp, by simp⟩ (pendingKnifeSound_initial rfl)
        · exact (exec_trail next ⟨fun pins same => power ⟨pins, same⟩, isReset⟩).pendingKnifeSound
            ⟨fun n same => released ⟨n, same⟩, fun f tag same => announced ⟨f, tag, same⟩⟩ sound

/-! ## The application of a pending profile (R84) -/

/-- The notices stay, and the profiles stand or the pending one has been applied with its notice. -/
structure KnifeRaised (s t : State) : Prop where
  notices : Keeps s.line.notices t.line.notices
  knife : (t.track.pendingKnife = s.track.pendingKnife ∧ t.settings.knife = s.settings.knife) ∨
    (s.track.pendingKnife = some t.settings.knife ∧ t.track.pendingKnife = none ∧
      Keeps LineNotice.knifeApplied.bit t.line.notices)

theorem KnifeRaised.of (notices : Keeps s.line.notices t.line.notices)
    (pending : t.track.pendingKnife = s.track.pendingKnife) (knife : t.settings.knife = s.settings.knife) :
    KnifeRaised s t :=
  ⟨notices, .inl ⟨pending, knife⟩⟩

theorem KnifeRaised.trans {u : State} (h : KnifeRaised s t) (h' : KnifeRaised t u) : KnifeRaised s u := by
  refine ⟨h.notices.trans h'.notices, ?_⟩
  obtain ⟨pending, knife⟩ | ⟨pending, none, notice⟩ := h.knife
  · exact h'.knife.imp (fun ⟨pending', knife'⟩ => ⟨pending'.trans pending, knife'.trans knife⟩)
      fun ⟨pending', rest⟩ => ⟨pending ▸ pending', rest⟩
  · obtain ⟨pending', knife'⟩ | ⟨pending', _⟩ := h'.knife
    · exact .inr ⟨knife' ▸ pending, pending'.trans none, notice.trans h'.notices⟩
    · simp [none] at pending'

theorem Keeps.right {n : Nat} (a x : BitVec n) : Keeps x (a ||| x) := by
  rw [BitVec.or_comm]
  exact .or x a

theorem applyPending_knifeRaised (s : State) : KnifeRaised s (applyPending s) := by
  obtain ⟨eq, _⟩ | ⟨k, pending, _, eq⟩ := applyPending_cases s <;> rw [eq]
  · exact .of (.refl _) rfl rfl
  · exact ⟨.or _ _, .inr ⟨pending, rfl, .right _ _⟩⟩

theorem Change.knifeRaised (change : Change c s t) (noWrite : ∀ k, c ≠ .writeKnife k)
    (noClear : ∀ named mask, c ≠ .clearNotices named mask) : KnifeRaised s t := by
  have notices := (change.flagsKept.line noClear).1
  cases change with
  | table h tr step => exact .of notices step.pending rfl
  | finish h tr step =>
    have applied := applyPending_knifeRaised { s with hides := h, track := tr }
    exact ⟨notices, applied.knife.imp (And.imp_left fun same => same.trans step.pending)
      (And.imp_left fun some => step.pending ▸ some)⟩
  | setting x step => exact .of notices rfl step.knife
  | knife offsets own => exact absurd own (noWrite offsets)
  | gaugeNotice n => exact .of notices (by simp) (by simp)
  | haltLevel b => exact .of notices (by simp) (by simp)
  | phase p => exact .of notices (by simp) (by simp)
  | _ => exact .of notices rfl rfl

theorem Trail.knifeRaised (path : Trail c s t) (noWrite : ∀ k, c ≠ .writeKnife k)
    (noClear : ∀ named mask, c ≠ .clearNotices named mask) : KnifeRaised s t :=
  path.relates (R := KnifeRaised) (fun _ => .of (.refl _) rfl rfl) (fun _ _ _ => KnifeRaised.trans)
    fun _ _ change => change.knifeRaised noWrite noClear

/-- A pending profile is gone over a command, other than a reset, only by its application. -/
theorem exec_knifeRaised (sound : PendingKnifeSound s) (next : exec c s = .next t)
    (running : (∀ pins, c ≠ .powerOnReset pins) ∧ c ≠ .reset) {k : List Int} (waiting : s.track.pendingKnife = some k)
    (gone : t.track.pendingKnife = none) :
    t.settings.knife = k ∧ Keeps LineNotice.knifeApplied.bit t.line.notices := by
  by_cases writes : ∃ offsets, c = .writeKnife offsets
  · obtain ⟨offsets, rfl⟩ := writes
    have conv := sound (by simp [waiting])
    simp only [exec, execWriteKnife] at next
    split at next <;> obtain rfl := Host.Outcome.next.inj next
    · exact absurd (waiting.symm.trans gone) (by simp)
    · obtain ⟨_, eq⟩ | ⟨none, _⟩ := takeKnife_cases offsets s
      · rw [eq] at gone
        exact absurd gone (by simp [answerLine])
      · simp [conv] at none
  · by_cases clears : ∃ named mask, c = .clearNotices named mask
    · obtain ⟨named, mask, rfl⟩ := clears
      obtain rfl := Host.Outcome.next.inj next
      exact absurd (waiting.symm.trans gone) (by simp)
    · have raised := (exec_trail next running).knifeRaised (fun k same => writes ⟨k, same⟩)
        fun named mask same => clears ⟨named, mask, same⟩
      obtain ⟨pending, _⟩ | ⟨pending, _, notice⟩ := raised.knife
      · exact absurd ((waiting.symm.trans pending.symm).trans gone) (by simp)
      · exact ⟨Option.some.inj (pending.symm.trans waiting), notice⟩

theorem reset_knife (next : exec .reset s = .next t) {k : List Int} (waiting : s.track.pendingKnife = some k) :
    t.settings.knife = k := by
  obtain ⟨_, knife⟩ | ⟨pending, _⟩ := ((exec_reset_trail next).knifeRaised (by simp) (by simp)).knife
  · rw [knife]
    simp [resetBlocks, Settings.afterReset, waiting]
  · simp [resetBlocks, Track.initial] at pending

/-- Settles O20: the profile changes only where no hide is converting, and a pending one is applied there. -/
theorem oneKnifeProfilePerHide : Obligations.OneKnifeProfilePerHide := by
  refine ⟨fun c s t r r' distinct next before held same => exec_knife distinct next before held same,
    fun s t table settings _ _ track sound next => ?_⟩
  cases front : s.pending with
  | nil =>
    rw [step_nil front] at next
    obtain rfl := Host.Outcome.next.inj next
    have path : Trail .miss s (tick s) := tick_trail rfl
    refine ⟨path.pendingKnifeSound ⟨by simp, by simp⟩ sound, fun _ k waiting gone => ?_⟩
    obtain ⟨pending, _⟩ | ⟨pending, _, notice⟩ := (path.knifeRaised (by simp) (by simp)).knife
    · exact absurd ((waiting.symm.trans pending.symm).trans gone) (by simp)
    · exact ⟨Option.some.inj (pending.symm.trans waiting), fun _ => BitVec.and_comm .. ▸ notice⟩
  | cons c rest =>
    rw [step_cons front] at next
    refine ⟨exec_pendingKnifeSound (s := { s with pending := rest }) (table.of rfl) settings track sound next,
      fun notPower k waiting gone => ?_⟩
    have notPower : ∀ pins, c ≠ .powerOnReset pins := fun pins same => notPower pins rest (by rw [same])
    by_cases isReset : c = .reset
    · subst isReset
      exact ⟨reset_knife next waiting, fun notReset => absurd rfl (notReset rest)⟩
    · obtain ⟨knife, notice⟩ := exec_knifeRaised (s := { s with pending := rest }) sound next ⟨notPower, isReset⟩ waiting gone
      exact ⟨knife, fun _ => BitVec.and_comm .. ▸ notice⟩

end Sys2Proof.Machine

/-! PROOFS. The zone channels and the link: what one event may make of them, and the operations on one channel as
such steps. -/

namespace Sys2Proof.Machine

variable {H K : Prop} {s t u : State} {z : Nat}

/-! ## Steps of the channels and the link -/

/-- The gaps a channel holds may reach a drive (R97, R114). -/
def ChannelGaps (c : Channel) : Prop :=
  (∀ r ∈ c.slot, TargetOk r) ∧ (∀ m ∈ c.flight, TargetOk m.target) ∧ ∀ b ∈ c.base, GapOk b.gap

/-- What HALT leaves of a channel (R123). -/
def ChannelStill (c : Channel) : Prop :=
  c.slot = none ∧ c.flight = none ∧ c.entryMark = false ∧ c.clearPoll = false

/-- The link after a change that grants nothing: no other transaction, and its copy carries the same gap. -/
structure LinkKept (l l' : Link) : Prop where
  last : l'.last = l.last
  txn : ∀ x' ∈ l'.txn, ∃ x ∈ l.txn, x'.zone = x.zone ∧ (x.overHalt = true → x'.overHalt = true) ∧
    ∀ r' ∈ x'.sent, ∃ r ∈ x.sent, r'.gap = r.gap

theorem LinkKept.refl (l : Link) : LinkKept l l := ⟨rfl, fun x held => ⟨x, held, rfl, id, fun r there => ⟨r, there, rfl⟩⟩⟩

theorem LinkKept.of_eq {l l' : Link} (same : l' = l) : LinkKept l l' := same ▸ .refl l

theorem LinkKept.trans {l l' l'' : Link} (h : LinkKept l l') (h' : LinkKept l' l'') : LinkKept l l'' := by
  refine ⟨h'.last.trans h.last, fun x'' held => ?_⟩
  obtain ⟨x', there, zone', halted', sent'⟩ := h'.txn x'' held
  obtain ⟨x, first, zone, halted, sent⟩ := h.txn x' there
  refine ⟨x, first, zone'.trans zone, halted' ∘ halted, fun r'' copy => ?_⟩
  obtain ⟨r', copy', gap'⟩ := sent' r'' copy
  obtain ⟨r, copy, gap⟩ := sent r' copy'
  exact ⟨r, copy, gap'.trans gap⟩

/-- The link with its transaction changed. -/
theorem LinkKept.map {l : Link} {f : Txn → Txn} (zone : ∀ x, (f x).zone = x.zone)
    (halted : ∀ x, x.overHalt = true → (f x).overHalt = true)
    (sent : ∀ x, ∀ r' ∈ (f x).sent, ∃ r ∈ x.sent, r'.gap = r.gap) : LinkKept l { l with txn := l.txn.map f } := by
  refine ⟨rfl, fun x' held => ?_⟩
  obtain ⟨x, there, rfl⟩ := Option.map_eq_some_iff.mp held
  exact ⟨x, there, zone x, halted x, sent x⟩

theorem linkKept_slotChanged (l : Link) (z : Nat) : LinkKept l (l.slotChanged z) :=
  .map (fun x => by split <;> rfl) (fun x => by split <;> exact id)
    fun x r held => ⟨r, by split at held <;> exact held, rfl⟩

theorem Target.detach_gap (leaving : SliceRef → Bool) (r : Target) : (r.detach leaving).gap = r.gap := by
  unfold Target.detach
  split
  · split <;> rfl
  · rfl

theorem linkKept_detach (l : Link) (leaving : SliceRef → Bool) : LinkKept l (l.detach leaving) :=
  .map (fun _ => rfl) (fun _ => id) fun x r' held => by
    obtain ⟨r, there, rfl⟩ := Option.map_eq_some_iff.mp held
    exact ⟨r, there, r.detach_gap leaving⟩

/-- A change that leaves the controller and the geometry alone and may change channel z and the link; what the
channel comes to keeps its soundness and its gaps, and an entry mark comes to it in RESUMING alone; where `H` asks
for it, it stays still in HALT, and where `K` asks for it, it keeps its entry mark. -/
structure ChannelStep (H K : Prop) (z : Nat) (s t : State) : Prop where
  ctl : t.ctl = s.ctl
  geometry : t.settings.geometry = s.settings.geometry
  count : t.zones.length = s.zones.length
  link : LinkKept s.link t.link
  others : ∀ y, y ≠ z → channel t y = channel s y
  sound : ∀ active, ChannelSound active z (channel s z) → ChannelSound active z (channel t z)
  gaps : GapsBounded s → ChannelGaps (channel s z) → ChannelGaps (channel t z)
  mark : (channel t z).entryMark = true → (channel s z).entryMark = true ∨ s.ctl.phase = .resuming
  still : H → s.ctl.phase = .halt → ChannelStill (channel s z) → ChannelStill (channel t z)
  kept : K → (channel s z).entryMark = true → (channel t z).entryMark = true

/-- The channel of z stands where z is no zone of the part. -/
theorem channel_beyond (beyond : s.zones.length ≤ z) : channel s z = Channel.initial .off := by
  simp [channel, List.getD_eq_getElem?_getD, List.getElem?_eq_none beyond]

theorem mem_zones_iff {c : Channel} : c ∈ s.zones ↔ ∃ z < s.zones.length, channel s z = c := by
  constructor
  · intro held
    obtain ⟨z, below, rfl⟩ := List.mem_iff_getElem.mp held
    exact ⟨z, below, by simp [channel, below]⟩
  · rintro ⟨z, below, rfl⟩
    simp [channel, below]

theorem channel_mem (below : z < s.zones.length) : channel s z ∈ s.zones := mem_zones_iff.mpr ⟨z, below, rfl⟩

/-- A change of one channel by a function, with the link. -/
theorem ChannelStep.of {f : Channel → Channel} (ctl : t.ctl = s.ctl)
    (geometry : t.settings.geometry = s.settings.geometry) (count : t.zones.length = s.zones.length)
    (link : LinkKept s.link t.link)
    (eq : ∀ y, channel t y = if y = z ∧ z < s.zones.length then f (channel s y) else channel s y)
    (sound : ∀ active, ChannelSound active z (channel s z) → ChannelSound active z (f (channel s z)))
    (gaps : GapsBounded s → ChannelGaps (channel s z) → ChannelGaps (f (channel s z)))
    (mark : (f (channel s z)).entryMark = true → (channel s z).entryMark = true ∨ s.ctl.phase = .resuming)
    (still : H → s.ctl.phase = .halt → ChannelStill (channel s z) → ChannelStill (f (channel s z)))
    (kept : K → (channel s z).entryMark = true → (f (channel s z)).entryMark = true := by simp) :
    ChannelStep H K z s t := by
  by_cases below : z < s.zones.length
  · have here : channel t z = f (channel s z) := by rw [eq, if_pos ⟨rfl, below⟩]
    refine ⟨ctl, geometry, count, link, fun y other => by rw [eq, if_neg fun h => other h.1], ?_, ?_, ?_, ?_, ?_⟩ <;>
      rw [here]
    · exact sound
    · exact gaps
    · exact mark
    · exact still
    · exact kept
  · have all : ∀ y, channel t y = channel s y := fun y => by rw [eq, if_neg fun h => below h.2]
    refine ⟨ctl, geometry, count, link, fun y _ => all y, ?_, ?_, ?_, ?_, ?_⟩ <;> rw [all]
    · exact fun _ => id
    · exact fun _ => id
    · exact .inl
    · exact fun _ _ => id
    · exact fun _ => id

/-- A change that leaves every channel alone. -/
theorem ChannelStep.ofSame (ctl : t.ctl = s.ctl) (geometry : t.settings.geometry = s.settings.geometry)
    (zones : t.zones = s.zones) (link : LinkKept s.link t.link) : ChannelStep H K z s t :=
  .of (f := id) ctl geometry (by rw [zones]) link (fun y => by rw [channel_congr zones]; simp)
    (fun _ => id) (fun _ => id) .inl (fun _ _ => id) fun _ => id

/-! ## The operations on one channel -/

theorem linkKept_setSlot (r : Option Target) (z : Nat) (s : State) : LinkKept s.link (setSlot r z s).link :=
  linkKept_slotChanged s.link z

theorem linkKept_place (r : Target) (z : Nat) (s : State) : LinkKept s.link (place r z s).link := by
  simpa [place] using linkKept_setSlot (some r) z (report (channel s z).slot z .skipped s)

theorem channelStep_place (r : Target)
    (inService : ∀ active, ChannelSound active z (channel s z) → (channel s z).mode.inService = true)
    (ok : GapsBounded s → TargetOk r) (running : H → s.ctl.phase ≠ .halt) : ChannelStep H K z s (place r z s) := by
  refine .of (f := fun c => { c with slot := some r }) (by simp [place]) (by simp [place]) (by simp)
    (linkKept_place r z s) (fun y => channel_place r z y s) (fun active sound => ?_) ?_ .inl
    (fun h halted => absurd halted (running h)) fun _ => id
  · obtain ⟨off, stopped, rest⟩ := sound
    exact ⟨off, fun out => by simp [show (channel s z).mode.inService = false from out] at inService; exact
      (inService active ⟨off, stopped, rest⟩).elim, rest⟩
  · rintro bounded ⟨_, flight, base⟩
    refine ⟨fun r' held => ?_, flight, base⟩
    exact Option.some.inj held ▸ ok bounded

theorem channelStep_discardSlot (z : Nat) (s : State) : ChannelStep H K z s (discardSlot z s) := by
  refine .of (f := fun c => { c with slot := none }) (by simp [discardSlot]) (by simp [discardSlot]) (by simp)
    ?_ (fun y => channel_discardSlot z y s) ?_ ?_ .inl
    (fun _ _ ⟨_, rest⟩ => ⟨rfl, rest⟩) fun _ => id
  · simpa [discardSlot, setSlot] using linkKept_slotChanged s.link z
  · exact fun active ⟨off, stopped, rest⟩ => ⟨off, fun out => ⟨rfl, (stopped out).2⟩, rest⟩
  · exact fun _ ⟨_, rest⟩ => ⟨by simp, rest⟩

theorem channelStep_endFlight (p : Progress) (z : Nat) (s : State) : ChannelStep H K z s (endFlight p z s) := by
  refine .of (f := fun c => { c with flight := none }) (by simp [endFlight]) (by simp [endFlight]) (by simp)
    (.of_eq (by simp [endFlight])) (fun y => channel_endFlight p z y s) ?_ ?_ .inl
    (fun _ _ ⟨slot, _, rest⟩ => ⟨slot, rfl, rest⟩) fun _ => id
  · exact fun active ⟨off, stopped, rest⟩ => ⟨off, fun out => ⟨(stopped out).1, rfl⟩, rest⟩
  · exact fun _ ⟨slot, _, base⟩ => ⟨slot, by simp, base⟩

/-- FAULT is entered by a channel that is not OFF. -/
theorem ChannelSound.fault {active : Nat} {c : Channel} (sound : ChannelSound active z c) (on : c.mode ≠ .off) :
    ChannelSound active z { c with mode := .fault, slot := none, flight := none, entryMark := false } := by
  obtain ⟨off, _, _, _, misses, timeouts, _⟩ := sound
  exact ⟨⟨fun fault => by simp at fault, fun high => absurd (off.mpr high) on⟩, fun _ => ⟨rfl, rfl⟩, by simp,
    fun service => absurd service (by simp [ZoneMode.inService]), misses, timeouts, by simp⟩

theorem ZoneMode.ne_off_of_inService {m : ZoneMode} (inService : m.inService = true) : m ≠ .off := by
  rintro rfl
  exact absurd inService (by decide)

theorem channelStep_enterFault (on : z < s.zones.length → (channel s z).mode ≠ .off) :
    ChannelStep H False z s (enterFault z s) := by
  have link : LinkKept s.link (enterFault z s).link := by
    simpa [enterFault, discardSlot, setSlot, endFlight] using linkKept_slotChanged s.link z
  by_cases below : z < s.zones.length
  · refine .of (f := fun c => { c with mode := .fault, slot := none, flight := none, entryMark := false })
      (by simp [enterFault]) (by simp [enterFault]) (by simp) link (fun y => channel_enterFault z y s)
      (fun active sound => sound.fault (on below)) (fun _ ⟨_, _, base⟩ => ⟨by simp, by simp, base⟩) (by simp)
      (fun _ _ ⟨_, _, _, poll⟩ => ⟨rfl, rfl, rfl, poll⟩) False.elim
  · exact .of (f := id) (by simp [enterFault]) (by simp [enterFault]) (by simp) link
      (fun y => by rw [channel_enterFault, if_neg fun h => below h.2]; simp) (fun _ => id) (fun _ => id) .inl
      (fun _ _ => id) fun _ => id

/-- A change of fields that no rule about a channel in service speaks of. -/
theorem channelStep_updChannel {f : Channel → Channel} (z : Nat) (s : State)
    (sound : ∀ active, ChannelSound active z (channel s z) → ChannelSound active z (f (channel s z)))
    (gaps : ChannelGaps (channel s z) → ChannelGaps (f (channel s z)))
    (mark : (f (channel s z)).entryMark = true → (channel s z).entryMark = true)
    (still : H → s.ctl.phase = .halt → ChannelStill (channel s z) → ChannelStill (f (channel s z)))
    (kept : K → (channel s z).entryMark = true → (f (channel s z)).entryMark = true := by simp) :
    ChannelStep H K z s (updChannel f z s) :=
  .of (f := f) rfl rfl (by simp) (.refl _) (channel_updChannel f z · s) sound (fun _ => gaps) (fun m => .inl (mark m)) still
    kept

/-- Steps of one channel after one another. -/
theorem ChannelStep.trans (h : ChannelStep H K z s t) (h' : ChannelStep H K z t u) (bounded : GapsBounded s → GapsBounded t) :
    ChannelStep H K z s u where
  ctl := h'.ctl.trans h.ctl
  geometry := h'.geometry.trans h.geometry
  count := h'.count.trans h.count
  link := h.link.trans h'.link
  others y other := (h'.others y other).trans (h.others y other)
  sound active sound := h'.sound active (h.sound active sound)
  gaps ok gaps := h'.gaps (bounded ok) (h.gaps ok gaps)
  mark mark := (h'.mark mark).elim h.mark fun resuming => .inr (h.ctl ▸ resuming)
  still must halted still := h'.still must (h.ctl ▸ halted) (h.still must halted still)
  kept must mark := h'.kept must (h.kept must mark)

theorem GapsBounded.iff : GapsBounded s ↔ (∀ y < s.zones.length, ChannelGaps (channel s y)) ∧
    (∀ x ∈ s.link.txn, ∀ r ∈ x.sent, TargetOk r) ∧ GapOk s.settings.geometry.parkGap ∧
    GapOk s.settings.geometry.entryGap := by
  unfold GapsBounded
  refine and_congr_left fun _ => ⟨fun all y below => all _ (channel_mem below), fun all c held => ?_⟩
  obtain ⟨y, below, rfl⟩ := mem_zones_iff.mp held
  exact all y below

theorem LinkKept.sent {l l' : Link} (kept : LinkKept l l') (ok : ∀ x ∈ l.txn, ∀ r ∈ x.sent, TargetOk r) :
    ∀ x ∈ l'.txn, ∀ r ∈ x.sent, TargetOk r := by
  intro x' held r' copy
  obtain ⟨x, there, _, _, sent⟩ := kept.txn x' held
  obtain ⟨r, first, gap⟩ := sent r' copy
  unfold TargetOk
  rw [gap]
  exact ok x there r first

theorem ChannelStep.gapsBounded (h : ChannelStep H K z s t) (bounded : GapsBounded s) : GapsBounded t := by
  have whole := bounded
  rw [GapsBounded.iff] at bounded ⊢
  obtain ⟨channels, sent, machine⟩ := bounded
  refine ⟨fun y below => ?_, h.link.sent sent, by rw [h.geometry]; exact machine⟩
  rw [h.count] at below
  by_cases same : y = z
  · subst same
    exact h.gaps whole (channels y below)
  · rw [h.others y same]
    exact channels y below

end Sys2Proof.Machine

/-! PROOFS. The events on one channel as steps: misses, faults, replies, timeouts, modes. -/

namespace Sys2Proof.Machine

variable {H K : Prop} {s t u : State} {z : Nat}

/-! ## Misses and FAULT (R117, R119) -/

@[simp] theorem clearMisses_count (z : Nat) (s : State) : (clearMisses z s).zones.length = s.zones.length := by
  unfold clearMisses
  split <;> simp

theorem channelStep_clearMisses (z : Nat) (s : State) : ChannelStep H K z s (clearMisses z s) := by
  unfold clearMisses
  split
  · refine channelStep_updChannel z s (fun active sound => ?_) id id fun _ _ => id
    obtain ⟨off, stopped, mark, counts, misses, timeouts, poll⟩ := sound
    exact ⟨off, stopped, mark, fun service => ⟨Nat.zero_le _, (counts service).2⟩, Nat.zero_le _, timeouts, poll⟩
  · exact .ofSame rfl rfl rfl (.refl _)

theorem channelStep_faultReply (z : Nat) (s : State) : ChannelStep H False z s (faultReply z s) := by
  unfold faultReply
  split
  case isTrue inService => exact channelStep_enterFault fun _ => ZoneMode.ne_off_of_inService inService
  case isFalse => exact .ofSame rfl rfl rfl (.refl _)

/-- FAULT entered behind a change of counts that stays within 3. -/
theorem channelStep_fault_of_counts {f : Channel → Channel} (on : (channel s z).mode ≠ .off)
    (poll : ∀ c, (f c).clearPoll = c.clearPoll) (base : ∀ c, (f c).base = c.base)
    (counts : ∀ active, ChannelSound active z (channel s z) → (f (channel s z)).misses ≤ 3 ∧ (f (channel s z)).timeouts ≤ 3) :
    ChannelStep H False z s (enterFault z (updChannel f z s)) := by
  have link : LinkKept s.link (enterFault z (updChannel f z s)).link := by
    simpa [enterFault, discardSlot, setSlot, endFlight] using linkKept_slotChanged s.link z
  refine .of (f := fun c => { f c with mode := .fault, slot := none, flight := none, entryMark := false })
    (by simp [enterFault]) (by simp [enterFault]) (by simp) link (fun y => ?_) (fun active sound => ?_)
    (fun _ ⟨_, _, gaps⟩ => ⟨by simp, by simp, by rw [base]; exact gaps⟩) (by simp)
    fun _ _ ⟨_, _, _, clear⟩ => ⟨rfl, rfl, rfl, (poll _).trans clear⟩
  · rw [channel_enterFault, channel_updChannel, updChannel_count]
    split <;> rfl
  · obtain ⟨misses, timeouts⟩ := counts active sound
    obtain ⟨off, _⟩ := sound
    exact ⟨⟨fun fault => by simp at fault, fun high => absurd (off.mpr high) on⟩, fun _ => ⟨rfl, rfl⟩, by simp,
      fun service => absurd service (by simp [ZoneMode.inService]), misses, timeouts, by simp⟩

theorem channelStep_countMiss (z : Nat) (s : State) : ChannelStep H False z s (countMiss z s) := by
  unfold countMiss
  split
  case isTrue inService =>
    have on := ZoneMode.ne_off_of_inService inService
    dsimp only
    split
    case isTrue third =>
      refine channelStep_fault_of_counts on (fun _ => rfl) (fun _ => rfl) fun active sound => ?_
      obtain ⟨_, _, _, counts, _, timeouts, _⟩ := sound
      exact ⟨Nat.succ_le_succ (counts inService).1, timeouts⟩
    case isFalse few =>
      refine .of (f := fun c => { c with misses := c.misses + 1 }) rfl rfl (by simp) (.refl _)
        (channel_updChannel _ z · s) (fun active sound => ?_) (fun _ => id) .inl fun _ _ => id
      obtain ⟨off, stopped, mark, counts, misses, timeouts, poll⟩ := sound
      rw [channel_updChannel] at few
      split at few
      · refine ⟨off, stopped, mark, fun service => ⟨?_, (counts service).2⟩, ?_, timeouts, poll⟩ <;>
          dsimp only at few ⊢ <;> omega
      case isFalse beyond =>
        rw [channel_beyond (by simpa using beyond)] at inService
        exact absurd inService (by decide)
  case isFalse => exact .ofSame rfl rfl rfl (.refl _)

/-! ## Replies (R114 to R116) -/

theorem channelStep_freeLink (z : Nat) (s : State) : ChannelStep H K z s (freeLink s) :=
  .ofSame rfl rfl rfl ⟨rfl, fun _ held => absurd held (by simp [freeLink])⟩

theorem channelStep_endClearPoll (x : Txn) (s : State) : ChannelStep H K x.zone s (endClearPoll x s) := by
  unfold endClearPoll
  split
  · refine channelStep_updChannel x.zone s (fun active sound => ?_) id id fun _ _ ⟨slot, flight, mark, _⟩ => ⟨slot, flight, mark, rfl⟩
    obtain ⟨off, stopped, mark, counts, misses, timeouts, _⟩ := sound
    exact ⟨off, stopped, mark, counts, misses, timeouts, by simp⟩
  · exact .ofSame rfl rfl rfl (.refl _)

theorem channelStep_completeMove (z : Nat) (s : State) : ChannelStep H False z s (completeMove z s) := by
  unfold completeMove
  split
  · exact .ofSame rfl rfl rfl (.refl _)
  · refine (channelStep_endFlight .complete z s).trans (channelStep_updChannel z _ (fun active sound => ?_) id ?_ ?_)
      (channelStep_endFlight (H := False) (K := False) .complete z s).gapsBounded
    · obtain ⟨off, stopped, mark, counts, misses, timeouts, poll⟩ := sound
      refine ⟨off, stopped, fun marked => mark ?_, fun service => ⟨(counts service).1, Nat.zero_le _⟩, misses, Nat.zero_le _, poll⟩
      simp only [Bool.and_eq_true] at marked
      exact marked.1
    · intro marked
      simp only [Bool.and_eq_true] at marked
      exact marked.1
    · rintro _ _ ⟨slot, flight, mark, poll⟩
      exact ⟨slot, flight, by simp [mark], poll⟩

theorem ChannelStep.seq (h : ChannelStep H K z s t) (h' : ChannelStep H K z t u) : ChannelStep H K z s u :=
  h.trans h' h.gapsBounded

theorem channelStep_statusReply (x : Txn) (position : BitVec 16) (flags : Byte) (s : State) :
    ChannelStep H False x.zone s (statusReply x position flags s) := by
  have recorded : ChannelStep H False x.zone s
      (updChannel (fun c => { c with position := some position }) x.zone (endClearPoll x s)) :=
    (channelStep_endClearPoll x s).seq (channelStep_updChannel x.zone _ (fun _ => id) id id fun _ _ => id)
  unfold statusReply
  dsimp only
  split
  · exact recorded.seq (channelStep_faultReply _ _)
  · split
    · exact recorded.seq <| (channelStep_clearMisses _ _).seq (channelStep_completeMove _ _)
    · exact recorded.seq (channelStep_clearMisses _ _)

theorem channel_startMove (x : Txn) (r : Target) (y : Nat) (s : State)
    (inService : (channel s x.zone).mode.inService = true) : channel (startMove x r s) y =
      if y = x.zone ∧ x.zone < s.zones.length then { channel s y with
        flight := some { target := r, accepted := s.now, deadline := s.now + s.settings.geometry.moveTimeout * 1000 }
        slot := if x.slotHolds then none else (channel s y).slot
        misses := 0 } else channel s y := by
  have below : x.zone < s.zones.length := by
    refine Nat.lt_of_not_le fun beyond => ?_
    rw [channel_beyond beyond] at inService
    exact absurd inService (by decide)
  unfold startMove clearMisses
  dsimp only
  rw [channel_report, if_pos (by simp [channel_updChannel, below, inService]), channel_updChannel, channel_updChannel,
    updChannel_count]
  split <;> rfl

theorem channelStep_acceptReply {x : Txn} (flags : Byte) (sending : s.link.txn = some x)
    (halted : H → s.ctl.phase = .halt → x.overHalt = true) :
    ChannelStep H False x.zone s (acceptReply x flags (freeLink s)) := by
  have freed : ChannelStep H False x.zone s (freeLink s) := channelStep_freeLink _ _
  unfold acceptReply
  split
  · exact freed.seq (channelStep_faultReply _ _)
  · split
    · exact freed.seq (channelStep_clearMisses _ _)
    case isFalse notHalt =>
      split
      case isTrue inService =>
        split
        case h_1 r sent =>
          refine .of (f := fun c => { c with
              flight := some { target := r, accepted := s.now,
                               deadline := s.now + s.settings.geometry.moveTimeout * 1000 }
              slot := if x.slotHolds then none else c.slot
              misses := 0 }) (by simp [startMove, freeLink]) (by simp [startMove, freeLink])
            (by simp [startMove, freeLink]) ⟨by simp [startMove, freeLink], by simp [startMove, freeLink]⟩ (fun y => channel_startMove x r y (freeLink s) inService)
            (fun active sound => ?_) (fun bounded gaps => ?_) .inl fun h halt => absurd (halted h halt) notHalt
          · obtain ⟨off, stopped, mark, counts, misses, timeouts, poll⟩ := sound
            exact ⟨off, fun out => absurd inService (by simp [show (channel (freeLink s) x.zone).mode.inService = false from out]),
              mark, fun service => ⟨Nat.zero_le _, (counts service).2⟩, Nat.zero_le _, timeouts, poll⟩
          · obtain ⟨_, sentOk, _⟩ := GapsBounded.iff.mp bounded
            obtain ⟨slot, _, base⟩ := gaps
            refine ⟨fun r' held => slot r' ?_, fun m moving => ?_, base⟩
            · dsimp only at held
              split at held
              · simp at held
              · exact held
            · rw [← Option.some.inj moving]
              exact sentOk x sending r sent
        case h_2 => exact freed.seq (channelStep_clearMisses _ _)
      case isFalse => exact freed

/-! ## Move timeouts (R118) -/

theorem channelStep_retryEntry (m : Move) (z : Nat) (s : State) (running : H → s.ctl.phase ≠ .halt) :
    ChannelStep H K z s (retryEntry m z s) := by
  unfold retryEntry
  split
  case isTrue again =>
    simp only [Bool.and_eq_true, decide_eq_true_eq] at again
    refine channelStep_place _ (fun active sound => ?_) (fun bounded => ?_) running
    · obtain ⟨_, _, mark, _⟩ := sound
      rw [mark again.1.2]
      rfl
    · obtain ⟨_, _, _, entry⟩ := GapsBounded.iff.mp bounded
      exact entry
  case isFalse => exact .ofSame rfl rfl rfl (.refl _)

/-- The channels at a move timeout, before what ends its event. -/
def timedOut (m : Move) (z : Nat) (s : State) : State :=
  raiseLine .zoneLagging
    (updChannel (fun c => { c with lagging := true, timeouts := c.timeouts + 1 }) z
      (endFlight .timedOut z (advanceTo m.deadline s)))

theorem timeoutMove_eq (m : Move) (z : Nat) (s : State) : timeoutMove m z s = finishLink
    (if 3 ≤ (channel (timedOut m z s) z).timeouts then enterFault z (timedOut m z s)
      else retryEntry m z (timedOut m z s)) := rfl

theorem channel_timedOut (m : Move) (z y : Nat) (s : State) : channel (timedOut m z s) y =
    if y = z ∧ z < s.zones.length then
      { channel s y with flight := none, lagging := true, timeouts := (channel s y).timeouts + 1 }
    else channel s y := by
  have advanced : channel (advanceTo m.deadline s) y = channel s y := rfl
  have count : (advanceTo m.deadline s).zones.length = s.zones.length := rfl
  unfold timedOut
  rw [channel_raiseLine, channel_updChannel, channel_endFlight, endFlight_count, advanced, count]
  split <;> rfl

theorem timedOut_link (m : Move) (z : Nat) (s : State) : (timedOut m z s).link = s.link := by
  simp [timedOut, endFlight, advanceTo]

/-- A channel that moves is in service. -/
theorem ChannelSound.inService_of_flight {active : Nat} {c : Channel} (sound : ChannelSound active z c)
    (moving : c.flight ≠ none) : c.mode.inService = true := by
  obtain ⟨_, stopped, _⟩ := sound
  exact (Bool.not_eq_false _).mp fun out => moving (stopped out).2

/-- The third timeout in a row is FAULT entry. -/
theorem channelStep_thirdTimeout {m : Move} (moving : (channel s z).flight = some m) :
    ChannelStep H False z s (enterFault z (timedOut m z s)) := by
  have flies : (channel s z).flight ≠ none := by simp [moving]
  have link : LinkKept s.link (enterFault z (timedOut m z s)).link := by
    simpa [enterFault, discardSlot, setSlot, endFlight, timedOut_link] using linkKept_slotChanged s.link z
  refine .of (f := fun c => { c with
      mode := .fault, slot := none, flight := none, entryMark := false, lagging := true,
      timeouts := c.timeouts + 1 }) (by simp [timedOut, advanceTo]) (by simp [timedOut, advanceTo])
    (by simp [timedOut, advanceTo]) link (fun y => ?_) (fun active sound => ?_)
    (fun _ ⟨_, _, base⟩ => ⟨by simp, by simp, base⟩) (by simp) fun _ _ ⟨_, still, _⟩ => absurd still flies
  · rw [channel_enterFault, channel_timedOut]
    simp only [timedOut, raiseLine_zones, updChannel_count, endFlight_count, advanceTo]
    split <;> rfl
  · have inService := sound.inService_of_flight flies
    have on := ZoneMode.ne_off_of_inService inService
    obtain ⟨off, _, _, counts, misses, _⟩ := sound
    exact ⟨⟨fun fault => by simp at fault, fun high => absurd (off.mpr high) on⟩, fun _ => ⟨rfl, rfl⟩, by simp,
      fun service => absurd service (by simp [ZoneMode.inService]), misses, Nat.succ_le_succ (counts inService).2, by simp⟩

/-- A timeout before the third leaves the channel in service. -/
theorem channelStep_timedOut {m : Move} (moving : (channel s z).flight = some m)
    (few : (channel (timedOut m z s) z).timeouts < 3) : ChannelStep H False z s (timedOut m z s) := by
  have flies : (channel s z).flight ≠ none := by simp [moving]
  have below : z < s.zones.length := by
    refine Nat.lt_of_not_le fun beyond => ?_
    rw [channel_beyond beyond] at flies
    exact flies rfl
  rw [channel_timedOut, if_pos ⟨rfl, below⟩] at few
  refine .of (f := fun c => { c with flight := none, lagging := true, timeouts := c.timeouts + 1 })
    (by simp [timedOut, advanceTo]) (by simp [timedOut, advanceTo]) (by simp [timedOut, advanceTo])
    (.of_eq (timedOut_link m z s)) (fun y => channel_timedOut m z y s) (fun active sound => ?_)
    (fun _ ⟨slot, _, base⟩ => ⟨slot, by simp, base⟩) .inl fun _ _ ⟨_, still, _⟩ => absurd still flies
  have inService := sound.inService_of_flight flies
  obtain ⟨off, stopped, mark, counts, misses, timeouts, poll⟩ := sound
  dsimp only at few
  exact ⟨off, fun out => absurd inService (by simp [show (channel s z).mode.inService = false from out]), mark,
    fun service => ⟨(counts service).1, by dsimp only; omega⟩, misses, by dsimp only; omega, poll⟩

theorem channelStep_timeout {m : Move} (moving : (channel s z).flight = some m) (running : H → s.ctl.phase ≠ .halt) :
    ChannelStep H False z s (if 3 ≤ (channel (timedOut m z s) z).timeouts then enterFault z (timedOut m z s)
      else retryEntry m z (timedOut m z s)) := by
  split
  case isTrue => exact channelStep_thirdTimeout moving
  case isFalse few =>
    exact (channelStep_timedOut moving (Nat.lt_of_not_le few)).seq
      (channelStep_retryEntry m z _ (by simpa [timedOut, advanceTo] using running))

/-! ## Requests and conversions (R74, R109, R128, R129) -/

theorem channelStep_placeEntry (z : Nat) (s : State) (resuming : s.ctl.phase = .resuming) :
    ChannelStep H K z s (placeEntry z s) := by
  unfold placeEntry
  split
  case isTrue track =>
    have placed : ChannelStep H K z s (place { gap := s.settings.geometry.entryGap, cause := .entry, ref := none } z s) := by
      refine channelStep_place _ (fun _ _ => by rw [track]; rfl) (fun bounded => ?_) fun _ => by simp [resuming]
      obtain ⟨_, _, _, entry⟩ := GapsBounded.iff.mp bounded
      exact entry
    refine placed.seq ?_
    generalize marked : place { gap := s.settings.geometry.entryGap, cause := .entry, ref := none } z s = t at placed
    have mode : (channel t z).mode = .track := by
      rw [← marked, channel_place]
      split <;> exact track
    refine .of (f := fun c => { c with entryMark := true }) rfl rfl (by simp) (.refl _) (channel_updChannel _ z · t)
      (fun active sound => ?_) (fun _ => id) (fun _ => .inr (placed.ctl ▸ resuming))
      fun _ halt => absurd (placed.ctl ▸ halt) (by simp [resuming])
    obtain ⟨off, stopped, _, rest⟩ := sound
    exact ⟨off, stopped, fun _ => mode, rest⟩
  case isFalse => exact .ofSame rfl rfl rfl (.refl _)

theorem channelStep_placePark (z : Nat) (s : State) (running : H → s.ctl.phase ≠ .halt) :
    ChannelStep H K z s (placePark z s) := by
  unfold placePark
  split
  case isTrue track =>
    refine channelStep_place _ (fun _ _ => by rw [track]; rfl) (fun bounded => ?_) running
    obtain ⟨_, _, park, _⟩ := GapsBounded.iff.mp bounded
    exact park
  case isFalse => exact .ofSame rfl rfl rfl (.refl _)

theorem channelStep_stillZone (z : Nat) (s : State) : ChannelStep H False z s (stillZone z s) := by
  refine (channelStep_endFlight .ended z s).seq <| (channelStep_discardSlot z _).seq
    (channelStep_updChannel z _ (fun active sound => ?_) id (by simp) fun _ _ ⟨slot, flight, _⟩ => ⟨slot, flight, rfl, rfl⟩)
  obtain ⟨off, stopped, _, counts, misses, timeouts, _⟩ := sound
  exact ⟨off, stopped, by simp, counts, misses, timeouts, by simp⟩

theorem channelStep_deliverTarget (sl : Slice) (z : Nat) {gap : Int} (track : (channel s z).mode = .track)
    (ok : GapOk gap) (running : H → s.ctl.phase ≠ .halt) : ChannelStep H K z s (deliverTarget sl z gap s) := by
  refine (channelStep_place _ (fun _ _ => by rw [track]; rfl) (fun _ => show TargetOk { gap := gap, cause := .track, ref := some { strobe := sl.strobe, hide := sl.hide } } from ok) running).seq
    (channelStep_updChannel z _ (fun _ => id) ?_ id fun _ _ => id)
  rintro ⟨slot, flight, _⟩
  exact ⟨slot, flight, fun b held => Option.some.inj held ▸ ok⟩

/-- A zone in service takes a mode in service (R128). -/
theorem channelStep_toMode {mode : ZoneMode} (z : Nat) (s : State) (serves : mode.inService = true)
    (inService : (channel s z).mode.inService = true) : ChannelStep H False z s (updChannel (Channel.toMode mode) z s) := by
  refine channelStep_updChannel z s (fun active sound => ?_) (fun ⟨slot, flight, _⟩ => ⟨slot, flight, by simp [Channel.toMode]⟩)
    ?_ ?_
  · obtain ⟨off, stopped, mark, counts, misses, timeouts, poll⟩ := sound
    have on := ZoneMode.ne_off_of_inService inService
    refine ⟨⟨fun out => ?_, fun high => absurd (off.mpr high) on⟩, fun out => ?_, fun marked => ?_,
      fun _ => counts inService, misses, timeouts, fun _ => ZoneMode.ne_off_of_inService serves⟩
    · exact absurd out (ZoneMode.ne_off_of_inService serves)
    · exact absurd serves (by simp [show mode.inService = false from out])
    · simp only [Channel.toMode, Bool.and_eq_true, Bool.not_eq_true', Bool.and_eq_false_iff, decide_eq_false_iff_not] at marked
      obtain ⟨held, left | stays⟩ := marked
      · exact absurd (mark held) left
      · exact not_not.mp stays
  · intro marked
    simp only [Channel.toMode, Bool.and_eq_true] at marked
    exact marked.1
  · rintro _ _ ⟨slot, flight, mark, poll⟩
    exact ⟨slot, flight, by simp [Channel.toMode, mark], poll⟩

theorem channelStep_slotForMode (z : Nat) (mode : ZoneMode) (s : State) : ChannelStep H K z s (slotForMode z mode s) := by
  unfold slotForMode
  split
  · exact channelStep_discardSlot z s
  · exact .ofSame rfl rfl rfl (.refl _)

theorem channelStep_zoneReset (z : Nat) (s : State) (fault : (channel s z).mode = .fault) :
    ChannelStep H K z s (takeZoneReset z s) := by
  refine channelStep_updChannel z s (fun active sound => ?_) id id fun _ _ => id
  obtain ⟨off, stopped, mark, _, _, _, _⟩ := sound
  have on : (channel s z).mode ≠ .off := by simp [fault]
  exact ⟨⟨by simp, fun high => absurd (off.mpr high) on⟩, fun out => absurd out (by simp [ZoneMode.inService]),
    fun marked => absurd (mark marked) (by simp [fault]), fun _ => ⟨Nat.zero_le _, Nat.zero_le _⟩, Nat.zero_le _,
    Nat.zero_le _, by simp⟩

end Sys2Proof.Machine

/-! PROOFS. Trails of changes of the channels, the link and the machine state, and what they keep: the rules behind
O10 to O13. -/

namespace Sys2Proof.Machine

variable {H K : Prop} {s t u : State} {z : Nat}

/-! ## Steps of all channels -/

/-- A change of channels and link that leaves the controller and the geometry alone; see `ChannelStep`. -/
structure ZonesStep (H K : Prop) (s t : State) : Prop where
  ctl : t.ctl = s.ctl
  geometry : t.settings.geometry = s.settings.geometry
  count : t.zones.length = s.zones.length
  link : LinkKept s.link t.link
  sound : ∀ z active, ChannelSound active z (channel s z) → ChannelSound active z (channel t z)
  gaps : GapsBounded s → ∀ z, ChannelGaps (channel s z) → ChannelGaps (channel t z)
  mark : ∀ z, (channel t z).entryMark = true → (channel s z).entryMark = true ∨ s.ctl.phase = .resuming
  still : H → s.ctl.phase = .halt → ∀ z, ChannelStill (channel s z) → ChannelStill (channel t z)
  kept : K → ∀ z, (channel s z).entryMark = true → (channel t z).entryMark = true

theorem ChannelStep.zones (h : ChannelStep H K z s t) : ZonesStep H K s t := by
  have each : ∀ y, (y = z) ∨ channel t y = channel s y := fun y => or_iff_not_imp_left.mpr (h.others y)
  refine ⟨h.ctl, h.geometry, h.count, h.link, fun y => ?_, fun bounded y => ?_, fun y => ?_, fun must halted y => ?_,
    fun must y => ?_⟩ <;> obtain rfl | same := each y
  · exact h.sound
  · rw [same]; exact fun _ => id
  · exact h.gaps bounded
  · rw [same]; exact id
  · exact h.mark
  · rw [same]; exact .inl
  · exact h.still must halted
  · rw [same]; exact id
  · exact h.kept must
  · rw [same]; exact id

theorem ZonesStep.gapsBounded (h : ZonesStep H K s t) (bounded : GapsBounded s) : GapsBounded t := by
  have whole := bounded
  rw [GapsBounded.iff] at bounded ⊢
  obtain ⟨channels, sent, machine⟩ := bounded
  refine ⟨fun y below => ?_, h.link.sent sent, by rw [h.geometry]; exact machine⟩
  rw [h.count] at below
  exact h.gaps whole y (channels y below)

theorem ZonesStep.trans (h : ZonesStep H K s t) (h' : ZonesStep H K t u) : ZonesStep H K s u where
  ctl := h'.ctl.trans h.ctl
  geometry := h'.geometry.trans h.geometry
  count := h'.count.trans h.count
  link := h.link.trans h'.link
  sound z active sound := h'.sound z active (h.sound z active sound)
  gaps ok z gaps := h'.gaps (h.gapsBounded ok) z (h.gaps ok z gaps)
  mark z mark := (h'.mark z mark).elim (h.mark z) fun resuming => .inr (h.ctl ▸ resuming)
  still must halted z still := h'.still must (h.ctl ▸ halted) z (h.still must halted z still)
  kept must z mark := h'.kept must z (h.kept must z mark)

/-- The channels and the link as they were. -/
theorem ZonesStep.ofSame (ctl : t.ctl = s.ctl) (geometry : t.settings.geometry = s.settings.geometry)
    (zones : t.zones = s.zones) (link : LinkKept s.link t.link) : ZonesStep H K s t :=
  (ChannelStep.ofSame (z := 0) ctl geometry zones link).zones

theorem ZonesStep.refl (s : State) : ZonesStep H K s s := .ofSame rfl rfl rfl (.refl _)

/-- Every channel changed by a function of itself. -/
theorem ZonesStep.map {f : Channel → Channel} (ctl : t.ctl = s.ctl)
    (geometry : t.settings.geometry = s.settings.geometry) (zones : t.zones = s.zones.map f)
    (link : LinkKept s.link t.link)
    (sound : ∀ z active c, ChannelSound active z c → ChannelSound active z (f c))
    (gaps : ∀ c, ChannelGaps c → ChannelGaps (f c)) (mark : ∀ c, (f c).entryMark = c.entryMark)
    (still : H → s.ctl.phase = .halt → ∀ c, ChannelStill c → ChannelStill (f c)) : ZonesStep H K s t := by
  have each : ∀ z, channel t z = f (channel s z) ∨ channel t z = channel s z := by
    intro z
    by_cases below : z < s.zones.length
    · exact .inl (by simp [channel, zones, below])
    · exact .inr (by rw [channel_beyond (by simpa [zones] using below), channel_beyond (by simpa using below)])
  refine ⟨ctl, geometry, by rw [zones, List.length_map], link, fun z => ?_, fun _ z => ?_, fun z => ?_,
    fun must halted z => ?_, fun _ z => ?_⟩ <;> obtain same | same := each z <;> rw [same]
  · exact fun active => sound z active _
  · exact fun _ => id
  · exact gaps _
  · exact id
  · rw [mark]; exact .inl
  · exact .inl
  · exact still must halted _
  · exact id
  · rw [mark]; exact id
  · exact id

theorem Option.mem_map_gap {o : Option Target} {f : Target → Target} (same : ∀ r, (f r).gap = r.gap) {r : Target}
    (held : r ∈ o.map f) : ∃ r' ∈ o, r.gap = r'.gap := by
  obtain ⟨r', there, rfl⟩ := Option.map_eq_some_iff.mp held
  exact ⟨r', there, same r'⟩

/-- Detaching keeps the modes, the marks, the counts and every gap. -/
theorem zonesStep_detach (leaving : SliceRef → Bool) (s : State) : ZonesStep H K s (detach leaving s) := by
  refine .map (f := Channel.detach leaving) rfl rfl rfl (linkKept_detach _ leaving) (fun z active c sound => ?_)
    (fun c gaps => ?_) (fun _ => rfl) fun _ _ c still => ?_
  · obtain ⟨off, stopped, rest⟩ := sound
    refine ⟨off, fun out => ?_, rest⟩
    obtain ⟨slot, flight⟩ := stopped out
    simp [Channel.detach, slot, flight]
  · obtain ⟨slot, flight, base⟩ := gaps
    refine ⟨fun r held => ?_, fun m moving => ?_, base⟩
    · obtain ⟨r', there, gap⟩ := Option.mem_map_gap (Target.detach_gap leaving) held
      unfold TargetOk
      rw [gap]
      exact slot r' there
    · obtain ⟨m', there, rfl⟩ := Option.map_eq_some_iff.mp moving
      unfold TargetOk
      rw [Target.detach_gap]
      exact flight m' there
  · obtain ⟨slot, flight, marks⟩ := still
    exact ⟨by simp [Channel.detach, slot], by simp [Channel.detach, flight], marks⟩

/-- What an operation does zone by zone, in turn. -/
theorem forZones_related {R : State → State → Prop} (refl : ∀ s, R s s) (trans : ∀ {s t u}, R s t → R t u → R s u)
    {f : Nat → State → State} (each : ∀ z s, R s (f z s)) (s : State) : R s (forZones f s) := by
  unfold forZones
  generalize zoneList = zs
  induction zs generalizing s with
  | nil => exact refl s
  | cons z rest ih => exact trans (each z s) (ih (f z s))

theorem zonesStep_forZones {f : Nat → State → State} {P : State → Prop} (each : ∀ z s, P s → ZonesStep H K s (f z s))
    (keeps : ∀ z s, P s → P (f z s)) (s : State) (holds : P s) : ZonesStep H K s (forZones f s) := by
  unfold forZones
  generalize zoneList = zs
  induction zs generalizing s with
  | nil => exact .refl s
  | cons z rest ih => exact (each z s holds).trans (ih (f z s) (keeps z s holds))

/-! ## Trails of changes of channels, link and machine state -/

/-- A change that leaves the channels, the link, the machine state and the active zones alone. -/
structure SameZones (s t : State) : Prop where
  zones : t.zones = s.zones
  link : t.link = s.link
  phase : t.ctl.phase = s.ctl.phase
  active : t.ctl.activeZones = s.ctl.activeZones
  geometry : GapOk s.settings.geometry.parkGap ∧ GapOk s.settings.geometry.entryGap →
    GapOk t.settings.geometry.parkGap ∧ GapOk t.settings.geometry.entryGap
  dwell : t.ctl.dwell.running = true → s.ctl.dwell.running = true

theorem SameZones.of (zones : t.zones = s.zones) (link : t.link = s.link) (ctl : t.ctl = s.ctl)
    (geometry : t.settings.geometry = s.settings.geometry) : SameZones s t :=
  ⟨zones, link, by rw [ctl], by rw [ctl], by rw [geometry]; exact id, by rw [ctl]; exact id⟩

theorem SameZones.refl (s : State) : SameZones s s := .of rfl rfl rfl rfl

theorem SameZones.trans (h : SameZones s t) (h' : SameZones t u) : SameZones s u :=
  ⟨h'.zones.trans h.zones, h'.link.trans h.link, h'.phase.trans h.phase, h'.active.trans h.active,
    h'.geometry ∘ h.geometry, h.dwell ∘ h'.dwell⟩

theorem feed_same (f : Feed) (s : State) : SameZones s { s with feed := f } := .of rfl rfl rfl rfl

theorem table_same (h : HideTable) (tr : Track) (s : State) : SameZones s { s with hides := h, track := tr } :=
  .of rfl rfl rfl rfl

theorem intake_same (i : Intake) (s : State) : SameZones s { s with intake := i } := .of rfl rfl rfl rfl

/-- The elementary changes: of the channels, of what is neither channel nor link, of the machine state, and a grant.
HALT is entered by `halted` alone. -/
inductive ZoneChange (H K : Prop) (s : State) : State → Prop
  | zones {t : State} (step : ZonesStep H K s t) : ZoneChange H K s t
  | quiet {t : State} (same : SameZones s t) : ZoneChange H K s t
  | startDwell (running : H → s.ctl.phase ≠ .halt) : ZoneChange H K s (startDwell s)
  | phase (p : Phase) (marks : p = .resuming ∨ s.ctl.phase ≠ .resuming ∨ anyEntryMark s = false)
      (halt : p ≠ .halt) (kept : K → p ≠ .resuming) : ZoneChange H K s (enterPhase p s)
  | halted {t : State} (phase : t.ctl.phase = .halt) (active : t.ctl.activeZones = s.ctl.activeZones)
      (geometry : t.settings.geometry = s.settings.geometry) (count : t.zones.length = s.zones.length)
      (link : LinkKept s.link t.link) (halting : ∀ x ∈ t.link.txn, x.overHalt = true)
      (dwell : t.ctl.dwell.running = false) (still : s.zones.length = 16 → ∀ c ∈ t.zones, ChannelStill c)
      (sound : ∀ z < 16, ∀ active, ChannelSound active z (channel s z) → ChannelSound active z (channel t z))
      (gaps : GapsBounded s → GapsBounded t) : ZoneChange H K s t
  | arbitrate : ZoneChange H K s (arbitrate s)

/-- A trail of such changes. -/
abbrev ZTrail (H K : Prop) : State → State → Prop := Relation.ReflTransGen (ZoneChange H K)

theorem ZTrail.refl (s : State) : ZTrail H K s s := Relation.ReflTransGen.refl

theorem ZoneChange.trail (h : ZoneChange H K s t) : ZTrail H K s t := Relation.ReflTransGen.single h

theorem ZonesStep.trail (h : ZonesStep H K s t) : ZTrail H K s t := (ZoneChange.zones h).trail

theorem ChannelStep.trail (h : ChannelStep H K z s t) : ZTrail H K s t := h.zones.trail

theorem SameZones.trail (h : SameZones s t) : ZTrail H K s t := (ZoneChange.quiet h).trail

theorem ZTrail.keeps {P : State → Prop} (each : ∀ s t, ZoneChange H K s t → P s → P t) (path : ZTrail H K s t)
    (holds : P s) : P t := by
  induction path with
  | refl => exact holds
  | tail _ last ih => exact each _ _ last ih

/-! ## The grant -/

theorem firstRequest_spec (s : State) (zs : List Nat) : ∀ z k, firstRequest s zs = some (z, k) →
    z ∈ zs ∧ (channel s z).request = some k := by
  induction zs with
  | nil => exact fun z k found => absurd found (by simp [firstRequest])
  | cons y rest ih =>
    intro z k found
    unfold firstRequest at found
    split at found
    case h_1 k' asks =>
      obtain ⟨rfl, rfl⟩ := Prod.mk.inj (Option.some.inj found)
      exact ⟨.head _, asks⟩
    case h_2 =>
      obtain ⟨there, asks⟩ := ih z k found
      exact ⟨.tail _ there, asks⟩

theorem firstRequest_none {zs : List Nat} (found : firstRequest s zs = none) :
    ∀ z ∈ zs, (channel s z).request = none := by
  induction zs with
  | nil => exact fun z there => absurd there (List.not_mem_nil)
  | cons y rest ih =>
    unfold firstRequest at found
    split at found
    case h_1 => exact absurd found (by simp)
    case h_2 silent =>
      intro z there
      cases there with
      | head => exact silent
      | tail _ later => exact ih found z later

theorem mem_grantOrder {last : Nat} : z ∈ grantOrder last ↔ z < 16 := by
  simp only [grantOrder, List.mem_map, List.mem_range]
  constructor
  · rintro ⟨i, below, rfl⟩
    exact Nat.mod_lt _ (by decide)
  · intro below
    have sixteen : Config.zones = 16 := rfl
    refine ⟨(z + 16 * (last + 1) - (last + 1)) % 16, ?_, ?_⟩ <;> rw [sixteen] <;> omega

/-- What the arbiter may make of the link: it stays, or one zone with a request is granted. -/
theorem granted_cases (s : State) : granted s = s.link ∨ s.ctl.phase ≠ .halt ∧ s.link.free = true ∧
    ∃ z k, z < 16 ∧ (channel s z).request = some k ∧
      granted s = { s.link with last := z, txn := some (startTxn s z k) } := by
  unfold granted
  split
  · exact .inl rfl
  next running =>
    split
    next isFree =>
      split
      next z k found =>
        obtain ⟨there, asks⟩ := firstRequest_spec s _ z k found
        exact .inr ⟨running, isFree, z, k, mem_grantOrder.mp there, asks, rfl⟩
      · exact .inl rfl
    · exact .inl rfl

/-- A grant's copy is the record of the slot. -/
theorem startTxn_sent {k : TxnKind} : ∀ r ∈ (startTxn s z k).sent, r ∈ (channel s z).slot := by
  intro r held
  unfold startTxn at held
  cases k <;> simp_all

/-! ## What a trail keeps -/

/-- A change that leaves the channels, the link and the geometry alone keeps the gaps. -/
theorem GapsBounded.of_same (zones : t.zones = s.zones) (link : t.link = s.link)
    (geometry : GapOk s.settings.geometry.parkGap ∧ GapOk s.settings.geometry.entryGap →
      GapOk t.settings.geometry.parkGap ∧ GapOk t.settings.geometry.entryGap) (bounded : GapsBounded s) :
    GapsBounded t := by
  obtain ⟨channels, sent, machine⟩ := bounded
  exact ⟨by rw [zones]; exact channels, by rw [link]; exact sent, geometry machine⟩

theorem GapsBounded.arbitrate (bounded : GapsBounded s) : GapsBounded (arbitrate s) := by
  obtain ⟨channels, sent, machine⟩ := bounded
  refine ⟨channels, ?_, machine⟩
  rw [arbitrate_link]
  rcases granted_cases s with same | ⟨_, _, z, k, _, asks, grant⟩
  · rw [same]
    exact sent
  · rw [grant]
    rintro x held r copy
    obtain rfl := Option.some.inj held
    by_cases below : z < s.zones.length
    · exact (channels _ (channel_mem below)).1 r (startTxn_sent r copy)
    · rw [channel_beyond (Nat.le_of_not_lt below)] at asks
      exact absurd asks (by simp [Channel.initial, Channel.request])

theorem ZoneChange.gapsBounded (h : ZoneChange H K s t) (bounded : GapsBounded s) : GapsBounded t := by
  cases h with
  | zones step => exact step.gapsBounded bounded
  | quiet same => exact bounded.of_same same.zones same.link same.geometry
  | startDwell => exact bounded.of_same rfl rfl id
  | phase p => exact bounded.of_same (by simp) (by simp) (by simp)
  | halted _ _ _ _ _ _ _ _ _ gaps => exact gaps bounded
  | arbitrate => exact bounded.arbitrate

theorem ZTrail.gapsBounded (path : ZTrail H K s t) (bounded : GapsBounded s) : GapsBounded t :=
  path.keeps (P := GapsBounded) (fun _ _ => ZoneChange.gapsBounded) bounded

/-- What `ChannelsSound` says, but that RESUMING lasts only while a channel holds an entry mark. -/
structure ZonesSound (s : State) : Prop where
  count : s.zones.length = 16
  active : s.ctl.activeZones = 12 ∨ s.ctl.activeZones = 16
  channels : ∀ z < 16, ChannelSound s.ctl.activeZones z (channel s z)
  last : s.link.last < 16
  zone : ∀ x ∈ s.link.txn, x.zone < 16
  mark : ∀ z, (channel s z).entryMark = true → s.ctl.phase = .resuming

/-- RESUMING lasts only while a channel holds an entry mark. -/
def ResumingMarked (s : State) : Prop := s.ctl.phase = .resuming → anyEntryMark s = true

theorem anyEntryMark_iff : anyEntryMark s = true ↔ ∃ z, (channel s z).entryMark = true := by
  unfold anyEntryMark
  rw [List.any_eq_true]
  constructor
  · rintro ⟨c, held, marked⟩
    obtain ⟨z, _, rfl⟩ := mem_zones_iff.mp held
    exact ⟨z, marked⟩
  · rintro ⟨z, marked⟩
    refine ⟨_, channel_mem (Nat.lt_of_not_le fun beyond => ?_), marked⟩
    rw [channel_beyond beyond] at marked
    exact absurd marked (by simp [Channel.initial])

theorem channelsSound_iff : ChannelsSound s ↔ ZonesSound s ∧ ResumingMarked s := by
  constructor
  · rintro ⟨count, active, channels, last, zone, marked⟩
    exact ⟨⟨count, active, channels, last, zone, fun z mark => marked.mpr (anyEntryMark_iff.mpr ⟨z, mark⟩)⟩, marked.mp⟩
  · rintro ⟨⟨count, active, channels, last, zone, mark⟩, marked⟩
    refine ⟨count, active, channels, last, zone, marked, fun held => ?_⟩
    obtain ⟨z, held⟩ := anyEntryMark_iff.mp held
    exact mark z held

theorem ZonesSound.arbitrate (sound : ZonesSound s) : ZonesSound (arbitrate s) := by
  obtain ⟨count, active, channels, last, zone, mark⟩ := sound
  refine ⟨count, active, channels, ?_, ?_, mark⟩ <;> rw [arbitrate_link] <;>
    rcases granted_cases s with same | ⟨_, _, z, k, below, _, grant⟩
  · rwa [same]
  · rw [grant]
    exact below
  · rwa [same]
  · rw [grant]
    rintro x held
    obtain rfl := Option.some.inj held
    exact below

theorem LinkKept.zones {l l' : Link} (kept : LinkKept l l') (zone : ∀ x ∈ l.txn, x.zone < 16) :
    ∀ x ∈ l'.txn, x.zone < 16 := by
  intro x' held
  obtain ⟨x, there, same, _⟩ := kept.txn x' held
  rw [same]
  exact zone x there

theorem LinkKept.halting {l l' : Link} (kept : LinkKept l l') (marked : ∀ x ∈ l.txn, x.overHalt = true) :
    ∀ x ∈ l'.txn, x.overHalt = true := by
  intro x' held
  obtain ⟨x, there, _, marks, _⟩ := kept.txn x' held
  exact marks (marked x there)

/-- No channel that stands still holds an entry mark. -/
theorem unmarked_of_still (still : ∀ c ∈ s.zones, ChannelStill c) (z : Nat) : (channel s z).entryMark = false := by
  by_cases below : z < s.zones.length
  · exact (still _ (channel_mem below)).2.2.1
  · rw [channel_beyond (Nat.le_of_not_lt below)]
    rfl

theorem ZoneChange.zonesSound (h : ZoneChange H K s t) (sound : ZonesSound s) : ZonesSound t := by
  cases h with
  | arbitrate => exact sound.arbitrate
  | zones step =>
    obtain ⟨count, active, channels, last, zone, mark⟩ := sound
    rw [← step.ctl] at active channels mark
    exact ⟨step.count.trans count, active, fun z below => step.sound z _ (channels z below),
      by rw [step.link.last]; exact last, step.link.zones zone,
      fun z held => (step.mark z held).elim (mark z) fun resuming => by rw [step.ctl]; exact resuming⟩
  | quiet same =>
    obtain ⟨count, active, channels, last, zone, mark⟩ := sound
    have all : ∀ z, channel t z = channel s z := fun z => by rw [channel_congr same.zones]
    refine ⟨by rw [same.zones]; exact count, by rw [same.active]; exact active, fun z below => ?_,
      by rw [same.link]; exact last, by rw [same.link]; exact zone, fun z held => ?_⟩
    · rw [same.active, all]
      exact channels z below
    · rw [same.phase]
      exact mark z (all z ▸ held)
  | startDwell => exact ⟨sound.count, sound.active, sound.channels, sound.last, sound.zone, sound.mark⟩
  | phase p marks =>
    obtain ⟨count, active, channels, last, zone, mark⟩ := sound
    have all : ∀ z, channel (enterPhase p s) z = channel s z := fun z => by rw [channel_congr (enterPhase_zones p s)]
    have phase := enterPhase_phase p s
    refine ⟨by simpa using count, by simpa [enterPhase] using active, fun z below => ?_, by simpa using last,
      by simpa using zone, fun z held => ?_⟩
    · rw [all]
      simpa [enterPhase] using channels z below
    · rw [all] at held
      rw [phase]
      rcases marks with resuming | other | unmarked
      · exact resuming
      · exact absurd (mark z held) other
      · exact absurd (anyEntryMark_iff.mpr ⟨z, held⟩) (by simp [unmarked])
  | halted _ same geometry count link _ _ still channels =>
    refine ⟨count.trans sound.count, by rw [same]; exact sound.active, fun z below => ?_,
      by rw [link.last]; exact sound.last, link.zones sound.zone, fun z held => ?_⟩
    · rw [same]
      exact channels z below _ (sound.channels z below)
    · exact absurd held (by simp [unmarked_of_still (still sound.count) z])

theorem ZTrail.zonesSound (path : ZTrail H K s t) (sound : ZonesSound s) : ZonesSound t :=
  path.keeps (P := ZonesSound) (fun _ _ => ZoneChange.zonesSound) sound

theorem ResumingMarked.of_kept (phase : t.ctl.phase = .resuming → s.ctl.phase = .resuming)
    (kept : ∀ z, (channel s z).entryMark = true → (channel t z).entryMark = true) (marked : ResumingMarked s) :
    ResumingMarked t := by
  intro resuming
  obtain ⟨z, held⟩ := anyEntryMark_iff.mp (marked (phase resuming))
  exact anyEntryMark_iff.mpr ⟨z, kept z held⟩

theorem ZoneChange.resumingMarked (h : ZoneChange H True s t) (marked : ResumingMarked s) : ResumingMarked t := by
  cases h with
  | arbitrate => exact marked
  | zones step => exact marked.of_kept (by rw [step.ctl]; exact id) (step.kept trivial)
  | quiet same =>
    exact marked.of_kept (by rw [same.phase]; exact id) fun z held => by rw [channel_congr same.zones]; exact held
  | startDwell => exact marked
  | phase p _ _ kept =>
    have phase := enterPhase_phase p s
    exact fun resuming => absurd (phase ▸ resuming) (kept trivial)
  | halted phase => exact fun resuming => absurd resuming (by simp [phase])

theorem ZTrail.resumingMarked (path : ZTrail H True s t) (marked : ResumingMarked s) : ResumingMarked t :=
  path.keeps (P := ResumingMarked) (fun _ _ => ZoneChange.resumingMarked) marked

theorem ZoneChange.haltStill (h : ZoneChange True K s t) (sixteen : s.zones.length = 16) (still : HaltStill s) :
    HaltStill t := by
  cases h with
  | arbitrate =>
    intro halt
    obtain ⟨zones, txn, dwell⟩ := still halt
    refine ⟨zones, ?_, dwell⟩
    have same : granted s = s.link := by
      unfold granted
      exact if_pos halt
    rw [arbitrate_link, same]
    exact txn
  | zones step =>
    intro halt
    rw [step.ctl] at halt
    obtain ⟨zones, txn, dwell⟩ := still halt
    refine ⟨fun c held => ?_, step.link.halting txn, by rw [step.ctl]; exact dwell⟩
    obtain ⟨z, below, rfl⟩ := mem_zones_iff.mp held
    rw [step.count] at below
    exact step.still trivial halt z (zones _ (channel_mem below))
  | quiet same =>
    intro halt
    rw [same.phase] at halt
    obtain ⟨zones, txn, dwell⟩ := still halt
    refine ⟨by rw [same.zones]; exact zones, by rw [same.link]; exact txn, ?_⟩
    exact (Bool.not_eq_true _).mp fun running => by simp [same.dwell running] at dwell
  | startDwell running => exact fun halt => absurd halt (running trivial)
  | phase p _ other =>
    have phase := enterPhase_phase p s
    exact fun halt => absurd (phase ▸ halt) other
  | halted _ _ _ _ _ txn dwell zones => exact fun _ => ⟨zones sixteen, txn, dwell⟩

theorem ZTrail.haltStill (path : ZTrail True K s t) (sound : ZonesSound s) (still : HaltStill s) : HaltStill t :=
  (path.keeps (P := fun s => ZonesSound s ∧ HaltStill s)
    (fun _ _ change ⟨sound, still⟩ => ⟨change.zonesSound sound, change.haltStill sound.count still⟩) ⟨sound, still⟩).2

end Sys2Proof.Machine

/-! PROOFS. The shared operations as trails of channels, link and machine state: transitions, rest, HALT, wake, and
the path of a strobe. -/

namespace Sys2Proof.Machine

variable {H K : Prop} {s t u : State} {z : Nat}

/-! ## All channels after an operation on each -/

/-- What an operation does to each channel in turn, it does to every channel of the sixteen once. -/
theorem channel_forZones {f : Nat → State → State} {g : Settings → Channel → Channel}
    (settings : ∀ z s, (f z s).settings = s.settings) (count : ∀ z s, (f z s).zones.length = s.zones.length)
    (each : ∀ z y s, channel (f z s) y = if y = z ∧ z < s.zones.length then g s.settings (channel s y) else channel s y)
    (y : Nat) (s : State) : channel (forZones f s) y =
      if y < 16 ∧ y < s.zones.length then g s.settings (channel s y) else channel s y := by
  have run : ∀ (zs : List Nat) (s : State), zs.Nodup → channel (zs.foldl (fun t z => f z t) s) y =
      if y ∈ zs ∧ y < s.zones.length then g s.settings (channel s y) else channel s y := by
    intro zs
    induction zs with
    | nil => exact fun s _ => by simp
    | cons z rest ih =>
      intro s nodup
      obtain ⟨fresh, nodup⟩ := List.nodup_cons.mp nodup
      rw [List.foldl_cons, ih _ nodup, each, settings, count]
      by_cases same : y = z
      · subst same
        simp [fresh]
      · simp [same]
  have nodup : zoneList.Nodup := List.nodup_range
  rw [forZones, run zoneList s nodup]
  simp [zoneList, Config.zones]

theorem forZones_count {f : Nat → State → State} (count : ∀ z s, (f z s).zones.length = s.zones.length) (s : State) :
    (forZones f s).zones.length = s.zones.length :=
  forZones_keeps (fun t => t.zones.length) f count s

@[simp] theorem stillZone_count (z : Nat) (s : State) : (stillZone z s).zones.length = s.zones.length := by
  rw [stillZone, updChannel_count, discardSlot_count, endFlight_count]

/-- Every channel of sixteen after HALT has stilled them (R123). -/
theorem channel_stillZones (y : Nat) (s : State) : channel (forZones stillZone s) y =
    if y < 16 ∧ y < s.zones.length then
      { channel s y with position := none, slot := none, flight := none, entryMark := false, clearPoll := false }
    else channel s y :=
  channel_forZones
    (g := fun _ c => { c with position := none, slot := none, flight := none, entryMark := false, clearPoll := false })
    stillZone_settings stillZone_count channel_stillZone y s

/-! ## Transitions (R139, R140, R142, R143) -/

theorem stopDwell_same (s : State) : SameZones s (stopDwell s) :=
  ⟨rfl, rfl, rfl, rfl, id, by simp [stopDwell]⟩

theorem enterRun_ztrail (unmarked : s.ctl.phase ≠ .resuming ∨ anyEntryMark s = false) : ZTrail H K s (enterRun s) :=
  (ZoneChange.phase .run (.inr unmarked) (by simp) (by simp)).trail.tail
    (.quiet (stopDwell_same _))

theorem passResuming_ztrail : ZTrail H K s (passResuming s) := by
  unfold passResuming
  split
  case isTrue pass =>
    simp only [Bool.and_eq_true, Bool.not_eq_true'] at pass
    exact enterRun_ztrail (.inr pass.2)
  case isFalse => exact .refl s

/-- RESUMING is passed where no mark is left (R139). -/
theorem passResuming_marked (s : State) : ResumingMarked (passResuming s) := by
  unfold passResuming
  split
  case isTrue => exact fun resuming => absurd resuming (by simp [enterRun, stopDwell])
  case isFalse stays => exact fun resuming => by simpa [resuming] using stays

theorem ResumingMarked.arbitrate (marked : ResumingMarked s) : ResumingMarked (arbitrate s) := marked

theorem ResumingMarked.raiseLine (n : LineNotice) (marked : ResumingMarked s) : ResumingMarked (raiseLine n s) := marked

theorem finishLink_ztrail : ZTrail H K s (finishLink s) := passResuming_ztrail.tail .arbitrate

theorem finishLink_marked (s : State) : ResumingMarked (finishLink s) := passResuming_marked s

theorem raiseLine_same (n : LineNotice) (s : State) : SameZones s (raiseLine n s) := .of rfl rfl rfl rfl

@[simp] theorem applyPending_geometry (s : State) : (applyPending s).settings.geometry = s.settings.geometry := by
  unfold applyPending
  split
  · rfl
  · split <;> rfl

theorem applyPending_same (s : State) : SameZones s (applyPending s) := by
  exact .of (by simp) (by simp) (by simp) (by simp)

/-- The emptying touches the channels by detaching alone (R80, R81). -/
theorem emptyTrack_ztrail (cause : AbandonCause) (s : State) : ZTrail H K s (emptyTrack cause s) := by
  rw [emptyTrack_eq]
  have cleared : SameZones s { s with intake := { s.intake with list := [] } } := .of rfl rfl rfl rfl
  refine .trans (b := detach (fun _ => true) { s with intake := { s.intake with list := [] } }) ?_ ?_
  · exact cleared.trail.trans (zonesStep_detach _ _).trail
  · refine (SameZones.trans ?_ (applyPending_same _)).trail
    exact .of (by simp) (by simp) (by simp) (by simp)

theorem flush_ztrail (cause : AbandonCause) (s : State) : ZTrail H K s (flush cause s) :=
  (emptyTrack_ztrail cause s).tail (.quiet (.of rfl rfl rfl rfl))

theorem enterDwell_ztrail (awake : s.ctl.phase ≠ .resuming) : ZTrail H K s (enterDwell s) := by
  refine ((ZoneChange.phase .dwell (.inr (.inl awake)) (by simp) (by simp)).trail.tail
    (.startDwell fun _ => by simp)).tail (.quiet (raiseLine_same _ _))

theorem placePark_ztrail (s : State) (parked : s.ctl.phase = .park) : ZTrail H K s (forZones placePark s) :=
  (zonesStep_forZones (P := fun t => t.ctl.phase = .park)
    (fun z t parked => (channelStep_placePark z t fun _ => by simp [parked]).zones)
    (fun z t parked => by rw [placePark_ctl]; exact parked) s parked).trail

theorem forZones_ctl {f : Nat → State → State} (each : ∀ z s, (f z s).ctl = s.ctl) (s : State) :
    (forZones f s).ctl = s.ctl := forZones_keeps State.ctl f each s

theorem enterPark_ztrail (awake : s.ctl.phase ≠ .resuming) : ZTrail H K s (enterPark s) := by
  have parked : (emptyTrack .park (enterPhase .park s)).ctl.phase = .park := by simp
  have placed : (forZones placePark (emptyTrack .park (enterPhase .park s))).ctl.phase = .park := by
    rw [forZones_ctl placePark_ctl]
    exact parked
  exact ((((ZoneChange.phase .park (.inr (.inl awake)) (by simp) (by simp)).trail.trans
    (emptyTrack_ztrail .park _)).trans (placePark_ztrail _ parked)).tail
    (.startDwell fun _ => by rw [placed]; simp)).tail (.quiet (raiseLine_same _ _))

theorem enterRest_ztrail (awake : s.ctl.phase ≠ .resuming) : ZTrail H K s (enterRest s) := by
  unfold enterRest
  split
  · exact enterDwell_ztrail awake
  · exact enterPark_ztrail awake

theorem enterBraking_ztrail (awake : s.ctl.phase ≠ .resuming) : ZTrail H K s (enterBraking s) := by
  have braking : ZTrail H K s (enterPhase .braking s) := (ZoneChange.phase .braking (.inr (.inl awake)) (by simp) (by simp)).trail
  unfold enterBraking
  dsimp only
  split
  · exact braking.trans (enterRest_ztrail (by simp))
  · exact braking

theorem passClearing_ztrail : ZTrail H K s (passClearing s) := by
  unfold passClearing
  split
  case isTrue clear =>
    simp only [Bool.and_eq_true, decide_eq_true_eq] at clear
    exact enterBraking_ztrail (by simp [clear.1])
  case isFalse => exact .refl s

theorem settle_ztrail : ZTrail H K s (settle s) := passClearing_ztrail.tail .arbitrate

/-! ## RESUMING and wake events (R134, R139) -/

theorem enterResuming_ztrail : ZTrail H False s (enterResuming s) := by
  refine ((ZoneChange.phase .resuming (.inl rfl) (by simp) False.elim).trail.trans ?_).trans passResuming_ztrail
  exact (zonesStep_forZones (P := fun t => t.ctl.phase = .resuming)
    (fun z t resuming => (channelStep_placeEntry z t resuming).zones)
    (fun z t resuming => by rw [placeEntry_ctl]; exact resuming) _ (by simp)).trail

theorem enterResuming_marked (s : State) : ResumingMarked (enterResuming s) := passResuming_marked _

theorem wakeEvent_ztrail : ZTrail H False s (wakeEvent s) := by
  unfold wakeEvent
  split
  case h_1 phase => exact (enterRun_ztrail (.inl (by simp [phase]))).tail (.quiet (raiseLine_same _ _))
  case h_2 phase => exact (enterRun_ztrail (.inl (by simp [phase]))).tail (.quiet (raiseLine_same _ _))
  case h_3 phase => exact (enterRun_ztrail (.inl (by simp [phase]))).tail (.quiet (raiseLine_same _ _))
  case h_4 => exact (((stopDwell_same s).trail.trans enterResuming_ztrail).tail .arbitrate).tail (.quiet (raiseLine_same _ _))
  all_goals exact .refl s

theorem wakeEvent_marked (marked : ResumingMarked s) : ResumingMarked (wakeEvent s) := by
  unfold wakeEvent
  split
  case h_4 => exact (enterResuming_marked (stopDwell s)).arbitrate.raiseLine _
  case h_1 => exact fun resuming => absurd resuming (by simp [enterRun, stopDwell])
  case h_2 => exact fun resuming => absurd resuming (by simp [enterRun, stopDwell])
  case h_3 => exact fun resuming => absurd resuming (by simp [enterRun, stopDwell])
  all_goals exact marked

/-- A change of flags or enables. -/
theorem changeWake_ztrail {f : Controller → Controller} (phase : (f s.ctl).phase = s.ctl.phase)
    (active : (f s.ctl).activeZones = s.ctl.activeZones) (dwell : (f s.ctl).dwell = s.ctl.dwell) :
    ZTrail H False s (changeWake f s) := by
  have changed : SameZones s { s with ctl := f s.ctl } :=
    ⟨rfl, rfl, phase, active, id, by rw [dwell]; exact id⟩
  unfold changeWake
  dsimp only
  split
  · exact changed.trail.trans wakeEvent_ztrail
  · exact changed.trail

theorem changeWake_marked {f : Controller → Controller} (phase : (f s.ctl).phase = s.ctl.phase)
    (marked : ResumingMarked s) : ResumingMarked (changeWake f s) := by
  have changed : ResumingMarked { s with ctl := f s.ctl } := fun resuming => marked (phase ▸ resuming)
  unfold changeWake
  dsimp only
  split
  · exact wakeEvent_marked changed
  · exact changed

theorem setWakeFlag_ztrail (w : WakeFlag) : ZTrail H False s (setWakeFlag w s) := by
  unfold setWakeFlag
  exact changeWake_ztrail rfl rfl rfl

theorem setWakeFlag_marked (w : WakeFlag) (marked : ResumingMarked s) : ResumingMarked (setWakeFlag w s) := by
  unfold setWakeFlag
  exact changeWake_marked rfl marked

/-! ## HALT (R123, R150) -/

theorem stillZones_zones (s : State) : (stillZones s).zones = (forZones stillZone s).zones := by
  unfold stillZones
  generalize forZones stillZone s = t
  rfl

theorem zonesStep_stillZones (s : State) : ZonesStep H False s (stillZones s) := by
  have stilled : ZonesStep H False s (forZones stillZone s) :=
    zonesStep_forZones (P := fun _ => True) (fun z t _ => (channelStep_stillZone z t).zones) (fun _ _ _ => trivial) s trivial
  unfold stillZones
  generalize forZones stillZone s = t at stilled
  refine stilled.trans (.ofSame rfl rfl rfl ?_)
  exact .map (fun _ => rfl) (fun _ _ => rfl) fun x r held => ⟨r, held, rfl⟩

theorem stillZones_still (sixteen : s.zones.length = 16) : ∀ c ∈ (stillZones s).zones, ChannelStill c := by
  intro c held
  have count : (stillZones s).zones.length = 16 := by
    rw [stillZones_zones, forZones_count stillZone_count]
    exact sixteen
  obtain ⟨z, below, rfl⟩ := mem_zones_iff.mp held
  rw [channel_congr (stillZones_zones s), channel_stillZones, if_pos ⟨count ▸ below, by rw [sixteen, ← count]; exact below⟩]
  exact ⟨rfl, rfl, rfl, rfl⟩

theorem stillZones_halting (s : State) : ∀ x ∈ (stillZones s).link.txn, x.overHalt = true := by
  unfold stillZones
  generalize forZones stillZone s = t
  rintro x held
  obtain ⟨y, _, rfl⟩ := Option.map_eq_some_iff.mp held
  rfl

/-- The channels at the entry to HALT, before the transition. -/
theorem zonesStep_halting (s : State) : ZonesStep False False (stopDwell s) (stillZones (flush .halt (stopDwell s))) := by
  have flushed : ZonesStep False False (stopDwell s) (flush .halt (stopDwell s)) := by
    unfold flush
    rw [emptyTrack_eq]
    refine .trans (.ofSame (t := { stopDwell s with intake := { s.intake with list := [] } }) rfl rfl rfl (.refl _)) <|
      (zonesStep_detach (fun _ => true) _).trans (.ofSame ?_ ?_ ?_ (.of_eq ?_))
    · simp
    · simp
    · simp
    · simp
  exact flushed.trans (zonesStep_stillZones _)

end Sys2Proof.Machine

/-! PROOFS. Trails of channels, link and machine state, continued: HALT, conversions, the knife crossing, and the
pulses of the bottom encoder. -/

namespace Sys2Proof.Machine

variable {H K : Prop} {s t u : State} {z : Nat}

/-! ## HALT (R123, R150) -/

theorem enterHalt_ztrail (s : State) : ZTrail H K s (enterHalt s) := by
  have step := zonesStep_halting s
  have still : s.zones.length = 16 → ∀ c ∈ (stillZones (flush .halt (stopDwell s))).zones, ChannelStill c := by
    refine fun sixteen => stillZones_still (Eq.trans ?_ sixteen)
    simp [flush, emptyTrack_eq]
  have halting := stillZones_halting (flush .halt (stopDwell s))
  rw [enterHalt_eq]
  generalize stillZones (flush .halt (stopDwell s)) = m at step still halting
  have zones : ∀ z, channel (enterPhase .halt (raiseLine .halt m)) z = channel m z := fun z => by simp
  refine (ZoneChange.halted (by simp) ?_ ?_ ?_ ?_ ?_ ?_ ?_ ?_ ?_).trail
  · simp [enterPhase, step.ctl, stopDwell]
  · simpa using step.geometry
  · simpa using step.count
  · simpa using step.link
  · simpa using halting
  · simp [enterPhase, step.ctl, stopDwell]
  · simpa using still
  · exact fun z _ active sound => by rw [zones]; exact step.sound z active sound
  · exact fun bounded => (step.gapsBounded (bounded.of_same rfl rfl id)).of_same (by simp) (by simp) (by simp)

theorem haltIfAsserted_ztrail (s : State) : ZTrail H K s (haltIfAsserted s) := by
  unfold haltIfAsserted
  split
  · exact enterHalt_ztrail s
  · exact .refl s

theorem haltIfAsserted_marked (marked : ResumingMarked s) : ResumingMarked (haltIfAsserted s) := by
  unfold haltIfAsserted
  split
  · rw [enterHalt_eq]
    exact fun resuming => absurd resuming (by simp)
  · exact marked

/-! ## Conversions (R73, R74, R97) -/

theorem gapOk_clampGap (v : Int) : GapOk (clampGap v) := by
  rw [clampGap_eq_max_min]
  unfold GapOk
  omega

/-- A zone has a target in TRACK alone, and within floor and ceiling (R89, R97). -/
theorem SplitInput.zone_target {i : SplitInput} {g : Int} (target : (i.zone z).result.target = some g) :
    (i.channel z).mode = .track ∧ GapOk g := by
  unfold SplitInput.zone at target
  split at target
  case h_4 track =>
    refine ⟨track, ?_⟩
    split at target
    · exact absurd target (by simp [ZoneSplit.without])
    · split at target
      · exact absurd target (by simp [ZoneSplit.without])
      · exact Option.some.inj target ▸ gapOk_clampGap _
      · split at target
        · exact Option.some.inj target ▸ gapOk_clampGap _
        · exact absurd target (by simp [ZoneSplit.without])
  all_goals exact absurd target (by simp [ZoneSplit.without])

theorem SplitInput.run_target {i : SplitInput} {r : ZoneResult} {g : Int}
    (result : (i.run.map ZoneSplit.result)[z]? = some r) (target : r.target = some g) :
    (i.channel z).mode = .track ∧ GapOk g := by
  simp only [SplitInput.run, List.map_map, List.getElem?_map, Option.map_eq_some_iff] at result
  obtain ⟨y, at', rfl⟩ := result
  obtain rfl : z = y := by
    obtain ⟨_, at''⟩ := List.getElem?_eq_some_iff.mp at'
    simpa using at''
  exact SplitInput.zone_target target

theorem splitInput_channel (sl : Slice) (r : HideRecord) (s : State) (z : Nat) :
    (splitInput sl r s).channel z = channel s z := rfl

/-- A delivered target fills the slot and becomes the base (R74, R98). -/
theorem channel_deliverTarget (sl : Slice) (z : Nat) (gap : Int) (y : Nat) (s : State) :
    channel (deliverTarget sl z gap s) y =
      if y = z ∧ z < s.zones.length then { channel s y with
        slot := some { gap := gap, cause := .track, ref := some { strobe := sl.strobe, hide := sl.hide } }
        base := some { gap := gap, hide := sl.hide } }
      else channel s y := by
  unfold deliverTarget
  rw [channel_updChannel, channel_place, place_count]
  split <;> rfl

theorem deliverTargets_ztrail (sl : Slice) (running : H → s.ctl.phase ≠ .halt) : ∀ (rs : List ZoneResult) (z : Nat),
    (∀ i r g, rs[i]? = some r → r.target = some g → (channel s (z + i)).mode = .track ∧ GapOk g) →
    ZTrail H K s (deliverTargets sl z rs s) := by
  intro rs
  induction rs generalizing s with
  | nil => exact fun z _ => .refl s
  | cons r rest ih =>
    intro z ok
    unfold deliverTargets
    split
    case h_1 g target =>
      obtain ⟨track, gapOk⟩ := ok 0 r g rfl target
      refine (channelStep_deliverTarget sl z track gapOk running).trail.trans (ih (by simpa using running) (z + 1) ?_)
      intro i r' g' at' target'
      rw [channel_deliverTarget, if_neg (by omega), show z + 1 + i = z + (i + 1) by omega]
      exact ok (i + 1) r' g' at' target'
    case h_2 =>
      refine ih running (z + 1) fun i r' g' at' target' => ?_
      rw [show z + 1 + i = z + (i + 1) by omega]
      exact ok (i + 1) r' g' at' target'

theorem convertSlice_ztrail (sl : Slice) (running : H → s.ctl.phase ≠ .halt) : ZTrail H K s (convertSlice sl s) := by
  cases found : findHide s sl.hide with
  | none =>
    unfold convertSlice
    rw [found]
  | some r =>
    rw [convertSlice_eq found]
    refine (table_same _ _ s).trail.trans (deliverTargets_ztrail (H := H) sl (by exact running) _ 0 ?_)
    intro i r' g at' target
    obtain ⟨track, ok⟩ := SplitInput.run_target at' target
    rw [Nat.zero_add]
    exact ⟨track, ok⟩

/-! ## Departures and the crossings -/

theorem departReplied_same (fuel : Nat) (s : State) : SameZones s (departReplied fuel s) := by
  induction fuel generalizing s with
  | zero => exact .refl s
  | succ fuel ih =>
    unfold departReplied
    split
    · exact .refl s
    · split
      · exact SameZones.trans (.of (by simp) (by simp) (by simp) (by simp)) (ih _)
      · exact .refl s

theorem departHead_same (s : State) : SameZones s (departHead s) := .of (by simp) (by simp) (by simp) (by simp)

theorem departDue_same (s : State) : SameZones s (departDue s) := departReplied_same _ s

theorem departAll_same (fuel : Nat) (s : State) : SameZones s (departAll fuel s) := by
  induction fuel generalizing s with
  | zero => exact .refl s
  | succ fuel ih => exact (departHead_same s).trans (ih _)

theorem joinList_same (num : Num) (pos : Pos) (s : State) : SameZones s (joinList num pos s) := by
  unfold joinList
  dsimp only
  split
  · exact ((departHead_same s).trans (departDue_same _)).trans (.of rfl rfl rfl rfl)
  · exact .of rfl rfl rfl rfl

theorem riseStrobe_same (s : State) : SameZones s (riseStrobe s) := by
  have locked : SameZones s (lockSync s) := .of (by simp) (by simp) (by simp) (by simp)
  unfold riseStrobe
  dsimp only
  split
  · split
    · exact locked.trans ((joinList_same _ _ _).trans (feed_same _ _))
    · exact locked
  · exact locked.trans (feed_same _ _)

/-- Nothing waits to be converted in HALT. -/
theorem RestEmpty.halted (empty : RestEmpty s) (halt : s.ctl.phase = .halt) :
    s.intake.list = [] ∧ s.track.slices = [] := by
  obtain ⟨list, slices, _⟩ := empty (by rw [halt]; rfl)
  exact ⟨list, slices⟩

theorem convertEntered_ztrail (running : H → s.ctl.phase ≠ .halt) : ZTrail H K s (convertEntered s) := by
  unfold convertEntered
  split
  · exact convertSlice_ztrail _ running
  · exact .refl s

theorem riseLead_ztrail (empty : H → RestEmpty s) : ZTrail H K s (riseLead s) := by
  unfold riseLead
  split
  case h_1 sl found =>
    split
    · refine convertSlice_ztrail sl fun must halt => ?_
      have held := (oldestEntered_mem found).1
      rw [((empty must).halted halt).2] at held
      exact absurd held (List.not_mem_nil)
    · exact .refl s
  case h_2 =>
    split
    · exact .refl s
    case h_2 e rest list =>
      split
      · refine ((departHead_same s).trail.trans (convertEntered_ztrail fun must halt => ?_)).tail (.quiet (departDue_same _))
        rw [departHead_ctl] at halt
        rw [((empty must).halted halt).1] at list
        exact absurd list (by simp)
      · exact .refl s

theorem tryDone_same (n : Num) (s : State) : SameZones s (tryDone n s) := by
  refine .of (by simp) (by simp) (by simp) ?_
  unfold tryDone
  split
  · split
    · simp [becomeDone]
    · rfl
  · rfl

theorem endAt_same (n e : Num) (forced : Bool) (s : State) : SameZones s (endAt n e forced s) := by
  rw [endAt_eq]
  exact SameZones.trans (.of (by simp) (by simp) (by simp) (by simp)) (tryDone_same _ _)

theorem riseKnife_ztrail (s : State) : ZTrail H K s (riseKnife s) := by
  unfold riseKnife
  split
  · exact .refl s
  · split
    · rw [retire_eq]
      exact ((table_same _ _ s).trail.trans (zonesStep_detach _ _).trail).tail (.quiet (tryDone_same _ _))
    · exact .refl s

theorem riseLength_same (s : State) : SameZones s (riseLength s) := by
  unfold riseLength
  split
  · split
    · exact endAt_same _ _ _ _
    · exact .refl s
  · exact .refl s
  · exact .refl s

theorem riseSlip_same (s : State) : SameZones s (riseSlip s) := .of (by simp) (by simp) (by simp) (by simp)

/-! ## Rises and falls (R3, R5 to R7) -/

theorem riseEvent_ztrail (e : RiseEvent) (empty : H → RestEmpty s) : ZTrail H K s (riseEvent e s) := by
  cases e with
  | strobe => exact (riseStrobe_same s).trail.trans settle_ztrail
  | slip => exact (riseSlip_same s).trail.trans settle_ztrail
  | lead => exact (riseLead_ztrail empty).trans settle_ztrail
  | knife => exact (riseKnife_ztrail s).trans settle_ztrail
  | length => exact (riseLength_same s).trail.trans settle_ztrail

theorem RestEmpty.feed (f : Feed) (empty : RestEmpty s) : RestEmpty { s with feed := f } := empty

theorem enterSettling_same (s : State) : SameZones s (enterSettling s) := .of (by simp) (by simp) (by simp) (by simp)

theorem restartWindow_same (s : State) : SameZones s (restartWindow s) := feed_same _ s

end Sys2Proof.Machine

/-! PROOFS. The commands that leave the channels, the link and the machine state alone. -/

namespace Sys2Proof.Machine

variable {H K : Prop} {s t u : State} {z : Nat}

/-! ## Ports -/

theorem line_same (l : LinePort) (s : State) : SameZones s { s with line := l } := .of rfl rfl rfl rfl

theorem answerLine_same (kind : Byte) (status : Status) (fields : List Byte) (s : State) :
    SameZones s (answerLine kind status fields s) := .of (by simp) (by simp) (by simp) (by simp)

theorem answerGauge_same (kind : Byte) (status : Status) (fields : List Byte) (s : State) :
    SameZones s (answerGauge kind status fields s) := .of (by simp) (by simp) (by simp) (by simp)

theorem raiseGauge_same (n : GaugeNotice) (s : State) : SameZones s (raiseGauge n s) :=
  .of (by simp) (by simp) (by simp) (by simp)

/-- A change answered at the line port. -/
theorem SameZones.answerLine (same : SameZones s t) (kind : Byte) (status : Status) (fields : List Byte) :
    SameZones s (answerLine kind status fields t) := same.trans (answerLine_same _ _ _ t)

/-- A change answered at the gauge port. -/
theorem SameZones.answerGauge (same : SameZones s t) (kind : Byte) (status : Status) (fields : List Byte) :
    SameZones s (answerGauge kind status fields t) := same.trans (answerGauge_same _ _ _ t)

theorem SameZones.raiseGauge (same : SameZones s t) (n : GaugeNotice) : SameZones s (raiseGauge n t) :=
  same.trans (raiseGauge_same n t)

theorem answerGaugeBadFrame_same (kind : Byte) (s : State) : SameZones s (answerGaugeBadFrame kind s) := by
  have counted : SameZones s (countGaugeBadFrame s) := intake_same _ s
  unfold answerGaugeBadFrame
  dsimp only
  split
  · exact (counted.answerGauge _ _ _).raiseGauge _
  · exact counted.answerGauge _ _ _

theorem gaugeExamine_same (sdi : List Byte) (s : State) : SameZones s (gaugeExamine sdi s) := by
  have taken : SameZones s (takeGauge sdi s) := intake_same _ s
  unfold gaugeExamine
  split
  · exact .refl s
  · exact intake_same _ s
  · exact taken.trans (answerGaugeBadFrame_same _ _)
  · exact taken.answerGauge _ _ _
  · exact taken

theorem execGaugeTransferEnd_same (sdi : List Byte) (lead : Lead) (s : State) :
    Leads (SameZones s) (execGaugeTransferEnd sdi lead s) := by
  unfold execGaugeTransferEnd
  dsimp only
  split
  · exact (intake_same _ s).trans (gaugeExamine_same sdi _)
  · refine (intake_same { s.intake with port := s.intake.port.recordSdo sdi.length lead } s).trans ?_
    split
    · exact (intake_same _ _).raiseGauge _
    · exact .refl _

theorem execGaugeResponsePlaced_same (s : State) : Leads (SameZones s) (execGaugeResponsePlaced s) := by
  unfold execGaugeResponsePlaced
  split
  · exact .refl s
  · exact intake_same _ s

theorem lineExamine_same (sdi : List Byte) (s : State) : SameZones s (lineExamine sdi s) := by
  have taken : SameZones s (takeLine sdi s) := line_same _ s
  unfold lineExamine
  split
  · exact .refl s
  · exact line_same _ s
  · exact (taken.trans (line_same _ _)).answerLine _ _ _
  · exact taken.answerLine _ _ _
  · split
    · exact taken.trans (feed_same _ _)
    · exact taken

theorem lineLate_same (sdi : List Byte) (s : State) : SameZones s (lineLate sdi s) := by
  unfold lineLate
  split
  · exact (line_same _ s).trans (feed_same _ _)
  · split
    · exact (line_same _ s).trans (raiseLine_same _ _)
    · exact .refl s

theorem execLineTransferEnd_same (sdi : List Byte) (lead : Lead) (s : State) :
    Leads (SameZones s) (execLineTransferEnd sdi lead s) := by
  unfold execLineTransferEnd
  dsimp only
  split
  · exact (line_same _ s).trans (lineExamine_same sdi _)
  · exact (line_same _ s).trans (lineLate_same sdi _)

theorem execLineResponsePlaced_same (s : State) : Leads (SameZones s) (execLineResponsePlaced s) := by
  unfold execLineResponsePlaced
  split
  · exact .refl s
  · dsimp only [Leads]
    split
    · exact .refl s
    · unfold placeLine
      dsimp only
      split
      · exact .of (by simp) (by simp) (by simp) (by simp)
      · exact line_same _ s

/-! ## Feed reference, settings, hide requests -/

theorem endHigh_same (s : State) : SameZones s (endHigh s) := by
  unfold endHigh
  split
  · exact .of rfl rfl rfl rfl
  · exact .refl s

theorem slice_same (n : Num) (reply : List Reading) (s : State) : SameZones s (slice n reply s) := by
  have refused : ∀ {u} (status : Status), SameZones s u → SameZones s (refuseSlice status u) :=
    fun status same => (same.raiseGauge _).answerGauge _ _ _
  unfold slice
  split
  · exact refused _ (.refl s)
  · split
    · exact refused _ (.refl s)
    · split
      · exact refused _ (intake_same _ s)
      · split
        · exact refused _ (intake_same _ s)
        · exact ((intake_same _ s).trans (departDue_same _)).answerGauge _ _ _

theorem execSlice_same (n : Num) (raw : List (BitVec 16)) (s : State) : Leads (SameZones s) (execSlice n raw s) := by
  unfold execSlice
  split
  · exact answerGaugeBadFrame_same _ s
  · split
    · exact ((SameZones.refl s).raiseGauge _).answerGauge _ _ _
    · exact slice_same _ _ s

theorem execBind_same (hide : Num) (row : Nat) (s : State) : Leads (SameZones s) (execBind hide row s) := by
  have bound : SameZones s (takeBind hide row s) := .of (by simp [takeBind]) (by simp [takeBind]) (by simp [takeBind]) (by simp [takeBind])
  unfold execBind
  split
  · exact answerLine_same _ _ _ s
  · split
    · exact answerLine_same _ _ _ s
    · split
      · exact bound.answerLine _ _ _
      · exact bound.answerLine _ _ _
      all_goals exact answerLine_same _ _ _ s

theorem execRelease_same (hide : Num) (s : State) : Leads (SameZones s) (execRelease hide s) := by
  unfold execRelease
  split
  · exact answerLine_same _ _ _ s
  · split
    · exact answerLine_same _ _ _ s
    · exact (table_same _ s.track s).answerLine _ _ _

theorem takeKnife_same (offsets : List Int) (s : State) : SameZones s (takeKnife offsets s) := by
  unfold takeKnife
  split
  · exact .of rfl rfl rfl rfl
  · exact .of (by simp) (by simp) (by simp) (by simp [applyKnife])

/-- A setting other than the geometry. -/
theorem setting_same (x : Settings) (s : State) (geometry : x.geometry = s.settings.geometry) :
    SameZones s { s with settings := x } := .of rfl rfl rfl geometry

/-- The two machine gaps of a geometry that passes its checks may reach a drive (R162). -/
theorem gapOk_of_geometryItem {g : Geometry} (passed : geometryItem g = 0) : GapOk g.parkGap ∧ GapOk g.entryGap := by
  have park := (geometryOk_of_item passed).parkGap
  have entry := (geometryOk_of_item passed).entryGap
  unfold GapOk
  omega

theorem takeGeometry_same (g : Geometry) (s : State) (passed : geometryItem g = 0) : SameZones s (takeGeometry g s) :=
  ⟨rfl, rfl, rfl, rfl, fun _ => gapOk_of_geometryItem passed, id⟩

/-- The commands that leave the channels, the link and the machine state alone. -/
def isQuiet : Instr → Bool
  | .topPulse _ _ | .haltReleased | .feedStillReleased | .feedRefPeriodStart | .feedRefHighEnd
  | .gaugeTransferEnd _ _ | .gaugeResponsePlaced | .slice _ _ | .gaugeStatus | .gaugeSetup
  | .clearGaugeNotices _ _ | .lineTransferEnd _ _ | .lineResponsePlaced | .clearWake _ | .bind _ _ | .release _
  | .readHide _ | .readReport | .readTrack _ _ | .readZones | .writeArticle _ _ | .selectArticle _ | .readArticle _
  | .writeKnife _ | .setGeometry _ | .lockGeometry | .setSpeed _ _ | .setTrim _ | .setDwell _ | .readSettings
  | .readStatus | .readCounters | .clearNotices _ _ => true
  | _ => false

theorem exec_quiet {c : Instr} (quiet : isQuiet c = true) (s : State) : Leads (SameZones s) (exec c s) := by
  cases c with
  | topPulse a b =>
    rw [exec_topPulse]
    cases s.feed.topRef.step ⟨a, b⟩ <;> exact feed_same _ s
  | haltReleased => exact ⟨by simp, by simp, by simp, by simp, by simp, by simp⟩
  | feedStillReleased => exact .of rfl rfl rfl rfl
  | feedRefPeriodStart => exact .of rfl rfl rfl rfl
  | feedRefHighEnd => exact endHigh_same s
  | gaugeTransferEnd sdi lead => exact execGaugeTransferEnd_same sdi lead s
  | gaugeResponsePlaced => exact execGaugeResponsePlaced_same s
  | slice n raw => exact execSlice_same n raw s
  | gaugeStatus =>
    simp only [exec, execGaugeStatus]
    split <;> exact answerGauge_same _ _ _ s
  | gaugeSetup => exact answerGauge_same _ _ _ s
  | clearGaugeNotices named mask =>
    simp only [exec, execClearGaugeNotices]
    split
    · exact answerGauge_same _ _ _ s
    · exact (intake_same _ s).answerGauge _ _ _
  | lineTransferEnd sdi lead => exact execLineTransferEnd_same sdi lead s
  | lineResponsePlaced => exact execLineResponsePlaced_same s
  | clearWake flags => exact ⟨by simp, by simp, by simp, by simp, by simp, by simp⟩
  | bind hide row => exact execBind_same hide row s
  | release hide => exact execRelease_same hide s
  | readHide hide =>
    simp only [exec, execReadHide]
    split <;> exact answerLine_same _ _ _ s
  | readReport =>
    simp only [exec, execReadReport]
    split
    · exact answerLine_same _ _ _ s
    · exact (table_same _ s.track s).answerLine _ _ _
  | readTrack place count =>
    simp only [exec, execReadTrack]
    split <;> exact answerLine_same _ _ _ s
  | readZones => exact answerLine_same _ _ _ s
  | writeArticle row a =>
    simp only [exec, execWriteArticle]
    split
    · exact (setting_same _ s (by rfl)).answerLine _ _ _
    · exact answerLine_same _ _ _ s
  | selectArticle row =>
    simp only [exec, execSelectArticle]
    split
    · exact answerLine_same _ _ _ s
    · exact (setting_same _ s (by rfl)).answerLine _ _ _
  | readArticle row =>
    simp only [exec, execReadArticle]
    split <;> exact answerLine_same _ _ _ s
  | writeKnife offsets =>
    simp only [exec, execWriteKnife]
    split
    · exact answerLine_same _ _ _ s
    · exact (takeKnife_same offsets s).answerLine _ _ _
  | setGeometry g =>
    simp only [exec, execSetGeometry]
    split
    · exact answerLine_same _ _ _ s
    · split
      · split
        case isTrue passed => exact (takeGeometry_same g s passed).answerLine _ _ _
        case isFalse => exact answerLine_same _ _ _ s
      · exact answerLine_same _ _ _ s
  | lockGeometry => exact (setting_same { s.settings with locked := true } s rfl).answerLine _ _ _
  | setSpeed period duty =>
    simp only [exec, execSetSpeed]
    split
    · exact (feed_same _ s).answerLine _ _ _
    · exact answerLine_same _ _ _ s
  | setTrim trim => exact (feed_same { s.feed with trim := min trim 4 } s).answerLine _ _ _
  | setDwell time =>
    simp only [exec, execSetDwell]
    split
    · exact (setting_same _ s (by rfl)).answerLine _ _ _
    · exact answerLine_same _ _ _ s
  | readSettings => exact answerLine_same _ _ _ s
  | readStatus => exact answerLine_same _ _ _ s
  | readCounters => exact answerLine_same _ _ _ s
  | clearNotices named mask => exact (line_same _ s).answerLine _ _ _
  | _ => exact absurd quiet Bool.false_ne_true

end Sys2Proof.Machine

/-! PROOFS. Every command as a run of the channels and the link (O10 to O13). -/

namespace Sys2Proof.Machine

variable {H K : Prop} {s t u : State} {z : Nat}

/-! ## The link after a grant (R111) -/

/-- After the arbiter has looked at it the link is not idle while a channel has a request. -/
theorem linkNeverIdles_arbitrate (s : State) : LinkNeverIdles (arbitrate s) := by
  intro running isFree z below
  rw [arbitrate_ctl] at running
  rw [arbitrate_link] at isFree
  rw [channel_arbitrate]
  unfold granted at isFree
  rw [if_neg running] at isFree
  split at isFree
  case isTrue =>
    split at isFree
    case h_1 => exact absurd isFree (by simp [Link.free])
    case h_2 silent => exact firstRequest_none silent z (mem_grantOrder.mpr below)
  case isFalse busy => exact absurd isFree busy

theorem LinkNeverIdles.of_same (zones : t.zones = s.zones) (link : t.link = s.link)
    (halt : t.ctl.phase ≠ .halt → s.ctl.phase ≠ .halt) (idle : LinkNeverIdles s) : LinkNeverIdles t := by
  intro running isFree z below
  rw [channel_congr zones]
  exact idle (halt running) (link ▸ isFree) z below

/-! ## Runs -/

/-- What a command makes of the channels, the link and the machine state: a trail, after which RESUMING lasts only
while a mark is held and the link is not idle, where both held before. -/
structure ZoneRun (H : Prop) (s t : State) : Prop where
  trail : ZTrail H False s t
  marked : ResumingMarked s → ResumingMarked t
  idle : ChannelsSound s → LinkNeverIdles s → LinkNeverIdles t

theorem ZoneRun.channelsSound (run : ZoneRun H s t) (sound : ChannelsSound s) : ChannelsSound t := by
  rw [channelsSound_iff] at sound ⊢
  exact ⟨run.trail.zonesSound sound.1, run.marked sound.2⟩

theorem ZoneRun.trans (run : ZoneRun H s t) (run' : ZoneRun H t u) : ZoneRun H s u where
  trail := run.trail.trans run'.trail
  marked := run'.marked ∘ run.marked
  idle sound idle := run'.idle (run.channelsSound sound) (run.idle sound idle)

theorem SameZones.idle (same : SameZones s t) (idle : LinkNeverIdles s) : LinkNeverIdles t :=
  idle.of_same same.zones same.link (by rw [same.phase]; exact id)

theorem SameZones.run (same : SameZones s t) : ZoneRun H s t where
  trail := same.trail
  marked marked := (ZoneChange.quiet (H := False) same).resumingMarked marked
  idle _ := same.idle

theorem ZoneRun.refl (s : State) : ZoneRun H s s := (SameZones.refl s).run

/-- A trail that keeps the marks, up to a grant. -/
theorem ZoneRun.of_kept (path : ∀ {K : Prop}, ZTrail H K s t) : ZoneRun H s (arbitrate t) where
  trail := path.tail .arbitrate
  marked marked := (path (K := True)).resumingMarked marked
  idle _ _ := linkNeverIdles_arbitrate t

/-- A change of channels after which RESUMING may pass, up to a grant. -/
theorem ZoneRun.finishLink (path : ZTrail H False s t) : ZoneRun H s (finishLink t) where
  trail := path.trans finishLink_ztrail
  marked _ := finishLink_marked t
  idle _ _ := linkNeverIdles_arbitrate _

theorem ZoneRun.then (run : ZoneRun H s t) (same : SameZones t u) : ZoneRun H s u := run.trans same.run

theorem ZoneRun.answerLine (run : ZoneRun H s t) (kind : Byte) (status : Status) (fields : List Byte) :
    ZoneRun H s (answerLine kind status fields t) := run.then (answerLine_same _ _ _ t)

theorem ZoneRun.answerGauge (run : ZoneRun H s t) (kind : Byte) (status : Status) (fields : List Byte) :
    ZoneRun H s (answerGauge kind status fields t) := run.then (answerGauge_same _ _ _ t)

theorem settle_run (path : ∀ {K : Prop}, ZTrail H K s t) : ZoneRun H s (settle t) :=
  .of_kept (path.trans passClearing_ztrail)

/-! ## Pulses of the bottom encoder -/

theorem riseEvent_run (e : RiseEvent) (empty : H → RestEmpty s) : ZoneRun H s (riseEvent e s) := by
  cases e with
  | strobe => exact settle_run (riseStrobe_same s).trail
  | slip => exact settle_run (riseSlip_same s).trail
  | lead => exact settle_run (riseLead_ztrail empty)
  | knife => exact settle_run (riseKnife_ztrail s)
  | length => exact settle_run (riseLength_same s).trail

theorem riseEvents_run (es : List RiseEvent) (empty : H → RestEmpty s) :
    ZoneRun H s (es.foldl (fun t e => riseEvent e t) s) := by
  induction es generalizing s with
  | nil => exact .refl s
  | cons e es ih =>
    refine (riseEvent_run e empty).trans (ih fun must => ?_)
    exact (riseEvent_trail (c := .bottomPulse false false []) rfl e).keeps (fun _ _ => Change.restEmpty) (empty must)

theorem riseF_run (order : List RiseEvent) (empty : H → RestEmpty s) : ZoneRun H s (riseF order s) := by
  unfold riseF
  dsimp only
  split
  · unfold riseH
    exact (((feed_same _ s).trans (feed_same _ _)).run).trans
      (riseEvents_run _ fun must => ((empty must).feed _).feed _)
  · exact (feed_same _ s).run

theorem fallF_run (s : State) : ZoneRun H s (fallF s) := by
  unfold fallF
  dsimp only
  split
  · unfold discontinuity
    exact settle_run ((((feed_same _ s).trans ((feed_same _ _).trans (enterSettling_same _))).trail.trans
      (flush_ztrail .reverse _)).tail (.quiet (restartWindow_same _)))
  · exact (feed_same _ s).run

theorem times_run {f : State → State} {P : State → Prop} (each : ∀ s, P s → ZoneRun H s (f s))
    (keeps : ∀ s, P s → P (f s)) (n : Nat) (holds : P s) : ZoneRun H s (times f n s) := by
  induction n generalizing s with
  | zero => exact .refl s
  | succ n ih => exact (each s holds).trans (ih (keeps s holds))

theorem bottomPulse_run (order : List RiseEvent) (step : Step) (empty : H → RestEmpty s) :
    ZoneRun H s (bottomPulse order step s) := by
  cases step with
  | still => exact .refl s
  | forward =>
    refine (feed_same _ s).run.trans (times_run (P := fun t => H → RestEmpty t)
      (fun t held => riseF_run order held) (fun t held must => ?_) _ fun must => (empty must).feed _)
    exact (riseF_trail (c := .bottomPulse false false []) rfl order).keeps (fun _ _ => Change.restEmpty) (held must)
  | backward =>
    exact (feed_same _ s).run.trans
      (times_run (P := fun _ => True) (fun t _ => fallF_run t) (fun _ _ => trivial) _ trivial)

/-! ## HALT, rest and wake -/

theorem haltIfAsserted_run (s : State) : ZoneRun H s (haltIfAsserted s) where
  trail := haltIfAsserted_ztrail s
  marked := haltIfAsserted_marked
  idle _ idle := by
    unfold haltIfAsserted
    split
    · rw [enterHalt_eq]
      exact fun running => absurd (enterPhase_phase .halt _) running
    · exact idle

theorem haltAsserted_run (s : State) : Leads (ZoneRun H s) (exec .haltAsserted s) :=
  (SameZones.run ⟨by simp, by simp, by simp, by simp, by simp, by simp⟩).trans (haltIfAsserted_run _)

theorem feedStillAsserted_run (s : State) : Leads (ZoneRun H s) (exec .feedStillAsserted s) := by
  have level : SameZones s { s with pins := { s.pins with feedStill := true } } := .of rfl rfl rfl rfl
  simp only [exec, execFeedStillAsserted]
  split
  case isTrue braking =>
    exact level.run.trans (.of_kept (enterRest_ztrail (by simp [show s.ctl.phase = .braking from braking])))
  case isFalse => exact level.run

theorem enterRun_idle (running : s.ctl.phase ≠ .halt) (idle : LinkNeverIdles s) : LinkNeverIdles (enterRun s) :=
  idle.of_same (by simp) (by simp) fun _ => running

theorem LinkNeverIdles.raiseLine (n : LineNotice) (idle : LinkNeverIdles s) : LinkNeverIdles (raiseLine n s) := idle

theorem wakeEvent_idle (idle : LinkNeverIdles s) : LinkNeverIdles (wakeEvent s) := by
  unfold wakeEvent
  split
  case h_1 phase => exact (enterRun_idle (by simp [phase]) idle).raiseLine _
  case h_2 phase => exact (enterRun_idle (by simp [phase]) idle).raiseLine _
  case h_3 phase => exact (enterRun_idle (by simp [phase]) idle).raiseLine _
  case h_4 => exact (linkNeverIdles_arbitrate _).raiseLine _
  all_goals exact idle

/-- A change of the wake flags or enables. -/
theorem changeWake_run {f : Controller → Controller} (phase : (f s.ctl).phase = s.ctl.phase)
    (active : (f s.ctl).activeZones = s.ctl.activeZones) (dwell : (f s.ctl).dwell = s.ctl.dwell) :
    ZoneRun H s (changeWake f s) where
  trail := changeWake_ztrail phase active dwell
  marked := changeWake_marked phase
  idle _ idle := by
    have changed : LinkNeverIdles { s with ctl := f s.ctl } := idle.of_same (s := s) rfl rfl fun running => by
      rwa [show ({ s with ctl := f s.ctl } : State).ctl.phase = s.ctl.phase from phase] at running
    unfold changeWake
    dsimp only
    split
    · exact wakeEvent_idle changed
    · exact changed

theorem setWakeFlag_run (w : WakeFlag) (s : State) : ZoneRun H s (setWakeFlag w s) := by
  unfold setWakeFlag
  exact changeWake_run rfl rfl rfl

theorem infeedEdge_run (s : State) : Leads (ZoneRun H s) (exec .infeedEdge s) :=
  (feed_same _ s).run.trans (setWakeFlag_run .infeed _)

theorem advanceTo_same (n : Nat) (s : State) : SameZones s (advanceTo n s) := .of rfl rfl rfl rfl

theorem expireDwell_run (s : State) : ZoneRun H s (expireDwell s) := by
  unfold expireDwell
  dsimp only
  refine ZoneRun.trans (SameZones.run ?_) (setWakeFlag_run .timer _)
  exact ⟨rfl, rfl, rfl, rfl, id, by simp⟩

theorem dwellTimerExpiry_run (s : State) : Leads (ZoneRun H s) (exec .dwellTimerExpiry s) := by
  simp only [exec, execDwellTimerExpiry]
  split
  · exact expireDwell_run s
  · exact .refl s

theorem wakeRequest_run (s : State) : Leads (ZoneRun H s) (exec .wakeRequest s) := by
  simp only [exec, execWakeRequest]
  split
  · exact (answerGauge_same _ _ _ s).run
  · exact (setWakeFlag_run .gauge s).answerGauge _ _ _

theorem wake_run (s : State) : Leads (ZoneRun H s) (exec .wake s) := (setWakeFlag_run .line s).answerLine _ _ _

theorem wakeEnable_run (enables : Byte) (s : State) : Leads (ZoneRun H s) (exec (.wakeEnable enables) s) := by
  simp only [exec, execWakeEnable]
  exact (changeWake_run rfl rfl rfl).answerLine _ _ _

theorem start_run (s : State) : Leads (ZoneRun H s) (exec .start s) := by
  simp only [exec, execStart]
  split
  · exact (answerLine_same _ _ _ s).run
  · split
    · exact ZoneRun.answerLine ⟨enterResuming_ztrail.tail .arbitrate, fun _ => (enterResuming_marked s).arbitrate,
        fun _ _ => linkNeverIdles_arbitrate _⟩ _ _ _
    · exact (answerLine_same _ _ _ s).run

theorem rest_run (code : Byte) (s : State) : Leads (ZoneRun H s) (exec (.rest code) s) := by
  simp only [exec, execRest]
  split
  · exact (answerLine_same _ _ _ s).run
  case h_2 target _ =>
    split
    case isTrue run =>
      split
      · exact (answerLine_same _ _ _ s).run
      · have named : SameZones s { s with ctl := { s.ctl with restTarget := target } } :=
          ⟨rfl, rfl, rfl, rfl, id, id⟩
        refine ZoneRun.answerLine (named.run.trans ?_) _ _ _
        cases target with
        | dwell => exact .of_kept (enterBraking_ztrail (by simp [run]))
        | park =>
          refine .of_kept (.trans (ZoneChange.phase .clearing (.inr (.inl (by simp [run]))) (by simp) (by simp)).trail
            passClearing_ztrail)
    case isFalse => exact (answerLine_same _ _ _ s).run

theorem zonesStep_setClearPolls (running : H → s.ctl.phase ≠ .halt) : ZonesStep H K s (setClearPolls s) := by
  refine .map (f := fun c => { c with clearPoll := c.clearPoll || decide (c.mode ≠ .off) }) rfl rfl rfl (.refl _)
    (fun z active c sound => ?_) (fun _ => id) (fun _ => rfl) fun must halt => absurd halt (running must)
  obtain ⟨off, stopped, mark, counts, misses, timeouts, poll⟩ := sound
  refine ⟨off, stopped, mark, counts, misses, timeouts, fun asks => ?_⟩
  rcases Bool.or_eq_true_iff.mp asks with held | on
  · exact poll held
  · exact of_decide_eq_true on

theorem clear_run (s : State) : Leads (ZoneRun H s) (exec .clear s) := by
  simp only [exec, execClear]
  split
  case isTrue halted =>
    simp only [Bool.and_eq_true, decide_eq_true_eq] at halted
    refine ZoneRun.answerLine (.of_kept ?_) _ _ _
    refine .trans (ZoneChange.phase .standby (.inr (.inl (by simp [halted.1]))) (by simp) (by simp)).trail ?_
    exact (zonesStep_setClearPolls fun _ => by simp).trail
  case isFalse => exact (answerLine_same _ _ _ s).run

/-! ## The zone link (R113 to R118, R131) -/

theorem accept_run (zone flags : Byte) (s : State) (halted : H → HaltStill s) : ZoneRun H s (takeAccept zone flags s) := by
  unfold takeAccept
  split
  case h_1 x reply =>
    obtain ⟨sending, _⟩ := (answered_eq_some_iff _ _ _ _).mp reply
    exact .finishLink (channelStep_acceptReply flags sending fun must halt => (halted must halt).2.1 x sending).trail
  case h_2 => exact .refl s

theorem status_run (zone : Byte) (position : BitVec 16) (flags : Byte) (s : State) :
    ZoneRun H s (takeStatus zone position flags s) := by
  unfold takeStatus
  split
  case h_1 x reply =>
    exact .finishLink ((channelStep_freeLink x.zone s).seq (channelStep_statusReply x position flags _)).trail
  case h_2 => exact .refl s

theorem missReply_run (x : Txn) (s : State) : ZoneRun H s (missReply x s) :=
  (advanceTo_same _ s).run.trans <| .finishLink <| ((channelStep_freeLink x.zone _).seq
    ((channelStep_endClearPoll x _).seq (channelStep_countMiss x.zone _))).trail

theorem miss_run (s : State) : Leads (ZoneRun H s) (exec .miss s) := by
  simp only [exec, execMiss]
  split
  · exact missReply_run _ s
  · exact .refl s

theorem zoneLinkFrameIgnored_run (bytes : List (Option Byte)) (s : State) (halted : H → HaltStill s) :
    Leads (ZoneRun H s) (exec (.zoneLinkFrameIgnored bytes) s) := by
  simp only [exec, execZoneLinkFrameIgnored]
  split
  · exact .refl s
  · exact accept_run _ _ s halted
  · exact status_run _ _ _ s

/-- A channel that moves is not still. -/
theorem HaltStill.running_of_flight (halted : HaltStill s) (moving : (channel s z).flight ≠ none) : s.ctl.phase ≠ .halt := by
  intro halt
  by_cases below : z < s.zones.length
  · exact moving ((halted halt).1 _ (channel_mem below)).2.1
  · rw [channel_beyond (Nat.le_of_not_lt below)] at moving
    exact moving rfl

theorem timeoutMove_run {m : Move} (moving : (channel s z).flight = some m) (halted : H → HaltStill s) :
    ZoneRun H s (timeoutMove m z s) := by
  rw [timeoutMove_eq]
  exact .finishLink (channelStep_timeout moving fun must => (halted must).running_of_flight (z := z) (by simp [moving])).trail

theorem moveTimeout_run (z : Nat) (s : State) (halted : H → HaltStill s) :
    Leads (ZoneRun H s) (exec (.moveTimeout z) s) := by
  simp only [exec, execMoveTimeout]
  split
  case h_1 m moving => exact timeoutMove_run moving halted
  case h_2 => exact .refl s

theorem zonesStep_windowClosed (s : State) : ZonesStep H K s { s with link := { s.link with abandoned := none } } :=
  .ofSame rfl rfl rfl ⟨rfl, fun x held => ⟨x, held, rfl, id, fun r copy => ⟨r, copy, rfl⟩⟩⟩

theorem closeWindow_run (start : Nat) (s : State) : ZoneRun H s (closeWindow start s) := by
  unfold closeWindow
  refine ZoneRun.of_kept ?_
  exact (advanceTo_same (start + Config.replyWindow) s).trail.trans (zonesStep_windowClosed _).trail

theorem abandonedReplyWindowClose_run (s : State) : Leads (ZoneRun H s) (exec .abandonedReplyWindowClose s) := by
  simp only [exec, execAbandonedReplyWindowClose]
  split
  · exact closeWindow_run _ s
  · exact .refl s

end Sys2Proof.Machine

/-! PROOFS. The rest of the commands, the tick and the resets as runs of the channels and the link; O10 to O13. -/

namespace Sys2Proof.Machine

variable {H K : Prop} {s t u : State} {z : Nat} {c : Instr}

/-! ## Gauge requests -/

theorem reclaim_same (s : State) : SameZones s (reclaim s) := by
  unfold reclaim
  split
  · exact .refl s
  · split
    · exact .refl s
    · exact .of rfl rfl rfl rfl

theorem consumeCapture_same (s : State) : SameZones s (consumeCapture s) := feed_same _ s

theorem madeRoom_same (e : Entry) (s : State) : SameZones s (madeRoom e s) := by
  unfold madeRoom
  split
  · split
    · exact .of rfl rfl rfl rfl
    · exact ((endAt_same _ _ _ s).trans (reclaim_same _)).trans (consumeCapture_same _)
  · exact (reclaim_same s).trans (consumeCapture_same _)

/-- Channels whose modes, targets and clear polls stay ask for what they asked for. -/
theorem request_eq {a b : Channel} (poll : a.clearPoll = b.clearPoll) (mode : a.mode = b.mode)
    (flight : a.flight = b.flight) (slot : a.slot = b.slot) : a.request = b.request := by
  unfold Channel.request
  rw [poll, mode, flight, slot]

/-- Filling a record takes bases away alone (R95). -/
theorem fillRecord_run (e : Entry) (tag : Num) (edge : Option Pos) (s : State) :
    ZoneRun H s (fillRecord e tag edge s) := by
  have zones : (fillRecord e tag edge s).zones = s.zones.map fun c =>
      { c with base := c.base.filter fun b => b.hide ≠ (filledRecord e tag edge s).number } := by
    rw [fillRecord_eq, raiseLineIf_zones]
  have step : ∀ {K : Prop}, ZonesStep H K s (fillRecord e tag edge s) := by
    refine .map (by rw [fillRecord_eq, raiseLineIf_ctl]) (by rw [fillRecord_eq, raiseLineIf_settings]) zones
      (.of_eq (by rw [fillRecord_eq, raiseLineIf_link])) (fun _ _ _ => id) (fun c gaps => ?_) (fun _ => rfl)
      fun _ _ _ => id
    obtain ⟨slot, flight, base⟩ := gaps
    exact ⟨slot, flight, fun b held => base b (Option.filter_eq_some_iff.mp held).1⟩
  refine ⟨step.trail, (ZoneChange.zones (H := H) step).trail.resumingMarked, fun _ idle running isFree z below => ?_⟩
  rw [step (K := True) |>.ctl] at running
  rw [show (fillRecord e tag edge s).link = s.link by rw [fillRecord_eq, raiseLineIf_link]] at isFree
  have silent := idle running isFree z below
  by_cases within : z < s.zones.length
  · rw [← silent]
    simp only [channel, zones, List.getD_eq_getElem?_getD, List.getElem?_map, List.getElem?_eq_getElem within]
    exact request_eq rfl rfl rfl rfl
  · rw [channel_beyond (by simpa [zones] using within)]
    rfl

theorem raiseLineIf_same (b : Bool) (n : LineNotice) (s : State) : SameZones s (raiseLineIf b n s) :=
  .of (by simp) (by simp) (by simp) (by simp)

theorem refuseAnnounce_same (status : Status) (s : State) : SameZones s (refuseAnnounce status s) := by
  unfold refuseAnnounce
  split
  · exact ((intake_same _ s).raiseGauge _).answerGauge _ _ _
  · exact ((SameZones.refl s).raiseGauge _).answerGauge _ _ _

theorem announce_run (f tag : Num) (s : State) : Leads (ZoneRun H s) (exec (.announce f tag) s) := by
  simp only [exec, execAnnounce]
  split
  · exact (refuseAnnounce_same _ s).run
  · obtain ⟨status, eq⟩ | ⟨newest, e, _, _, _, _, _, _, _, _, eq⟩ := announce_cases f tag s
    · rw [eq]
      exact (refuseAnnounce_same _ s).run
    · rw [eq, openNew_eq]
      exact ((madeRoom_same e s).run.trans (fillRecord_run _ _ _ _)).answerGauge _ _ _

theorem endHide_run (last : Num) (s : State) : Leads (ZoneRun H s) (exec (.endHide last) s) := by
  have refused : ∀ status, SameZones s (refuseEnd status s) := fun status =>
    ((SameZones.refl s).raiseGauge _).answerGauge _ _ _
  simp only [exec, execEndHide]
  split
  · exact (refused _).run
  · unfold endRequest
    split
    · exact (refused _).run
    · split
      · exact (refused _).run
      · exact (settle_run (endAt_same _ _ _ s).trail).answerGauge _ _ _

theorem forceOpenEnd_same (s : State) : SameZones s (forceOpenEnd s) := by
  unfold forceOpenEnd
  split
  · exact endAt_same _ _ _ s
  · exact .refl s

theorem gaugeReset_run (s : State) : Leads (ZoneRun H s) (exec .gaugeReset s) := by
  simp only [exec, execGaugeReset]
  split
  · exact (answerGauge_same _ _ _ s).run
  · unfold gaugeReset
    exact (settle_run (((intake_same _ s).trans (departAll_same _ _)).trans (forceOpenEnd_same _)).trail).answerGauge _ _ _

/-! ## Line requests -/

theorem abandon_run (hide : Num) (s : State) : Leads (ZoneRun H s) (exec (.abandon hide) s) := by
  simp only [exec, execAbandon]
  split
  · exact (answerLine_same _ _ _ s).run
  · split
    · rw [takeAbandon_eq]
      refine ZoneRun.answerLine (settle_run ?_) _ _ _
      exact ((zonesStep_detach _ s).trail.tail (.quiet (raiseLine_same .hideAbandoned _))).trans
        (((table_same _ _ _).trans (applyPending_same _)).trail)
    · exact (answerLine_same _ _ _ s).run

theorem zoneMove_run (zone : Nat) (target : Int) (s : State) : Leads (ZoneRun H s) (exec (.zoneMove zone target) s) := by
  simp only [exec, execZoneMove, refuseMove]
  split
  · exact (answerLine_same _ _ _ s).run
  · split
    · exact (answerLine_same _ _ _ s).run
    case isFalse running =>
      split
      case isTrue manual =>
        refine ZoneRun.answerLine (.of_kept ?_) _ _ _
        exact (channelStep_place { gap := clampGap target, cause := .manual, ref := none }
          (fun _ _ => by rw [manual]; rfl) (fun _ => gapOk_clampGap target) fun _ => running).trail
      case isFalse => exact (answerLine_same _ _ _ s).run

theorem flagInfluence_same (s : State) : SameZones s (flagInfluence s) :=
  .of (by simp [flagInfluence]) (by simp [flagInfluence]) (by simp [flagInfluence]) (by simp [flagInfluence])

theorem zoneModeOf_inService {code : Byte} {mode : ZoneMode} (named : zoneModeOf code = some mode) :
    mode.inService = true := by
  unfold zoneModeOf at named
  split at named
  · exact Option.some.inj named ▸ rfl
  · split at named
    · exact Option.some.inj named ▸ rfl
    · exact absurd named (by simp)

theorem zoneMode_run (zone : Nat) (code : Byte) (s : State) : Leads (ZoneRun H s) (exec (.zoneMode zone code) s) := by
  simp only [exec, execZoneMode]
  split
  · exact (answerLine_same _ _ _ s).run
  · split
    · exact (answerLine_same _ _ _ s).run
    case h_2 mode named =>
      split
      · exact (answerLine_same _ _ _ s).run
      case isFalse serves =>
        simp only [Bool.not_eq_true', Bool.not_eq_false] at serves
        split
        · exact (answerLine_same _ _ _ s).run
        · refine ZoneRun.answerLine ?_ _ _ _
          rw [takeMode_eq]
          have slot : ChannelStep H False zone s (slotForMode zone mode s) := channelStep_slotForMode zone mode s
          have inService : (channel (slotForMode zone mode s) zone).mode.inService = true := by
            unfold slotForMode
            split
            · rw [channel_discardSlot]
              split <;> exact serves
            · exact serves
          exact .finishLink ((slot.seq (channelStep_toMode zone _ (zoneModeOf_inService named) inService)).trail.tail
            (.quiet (flagInfluence_same _)))

/-- ZONE_RESET grants nothing: a FAULT channel has no target, so that it asks for nothing new (R110, R119). -/
theorem zoneReset_idle (fault : (channel s z).mode = .fault) (sound : ChannelsSound s) (idle : LinkNeverIdles s) :
    LinkNeverIdles (takeZoneReset z s) := by
  intro running isFree y below
  have silent := idle running isFree y below
  unfold takeZoneReset
  rw [channel_updChannel]
  split
  case isTrue here =>
    obtain ⟨rfl, _⟩ := here
    obtain ⟨_, _, channels, _⟩ := sound
    obtain ⟨_, stopped, _⟩ := channels y below
    obtain ⟨slot, flight⟩ := stopped (by rw [fault]; rfl)
    unfold Channel.request at silent ⊢
    split at silent
    · exact absurd silent (by simp)
    case isFalse poll => simp [poll, slot, flight]
  case isFalse => exact silent

theorem zoneReset_run (zone : Nat) (s : State) : Leads (ZoneRun H s) (exec (.zoneReset zone) s) := by
  simp only [exec, execZoneReset]
  split
  · exact (answerLine_same _ _ _ s).run
  · split
    case isTrue fault =>
      refine ZoneRun.answerLine ⟨(channelStep_zoneReset zone s fault).trail, ?_, zoneReset_idle fault⟩ _ _ _
      exact (ZoneChange.zones (H := H) (channelStep_zoneReset zone s fault).zones).trail.resumingMarked
    case isFalse => exact (answerLine_same _ _ _ s).run

theorem setScale_run (v : Nat) (s : State) : Leads (ZoneRun H s) (exec (.setScale v) s) := by
  simp only [exec, execSetScale]
  split
  · exact (answerLine_same _ _ _ s).run
  · split
    · unfold takeScale
      have scaled : SameZones s { s with
          settings := { s.settings with scale := v }, feed := { s.feed with botAcc := 0, topAcc := 0 } } :=
        .of rfl rfl rfl rfl
      exact (settle_run (((scaled.trans (enterSettling_same _)).trail.trans (flush_ztrail .scale _)).tail
        (.quiet (restartWindow_same _)))).answerLine _ _ _
    · exact (answerLine_same _ _ _ s).run

/-! ## Every command, and the tick -/

theorem exec_run (c : Instr) (s : State) (running : (∀ pins, c ≠ .powerOnReset pins) ∧ c ≠ .reset)
    (empty : H → RestEmpty s) (halted : H → HaltStill s) : Leads (ZoneRun H s) (exec c s) := by
  cases quiet : isQuiet c with
  | true => exact (exec_quiet quiet s).mono fun t same => same.run
  | false =>
    obtain ⟨notPower, notReset⟩ := running
    cases c with
    | powerOnReset pins => exact absurd rfl (notPower pins)
    | reset => exact absurd rfl notReset
    | bottomPulse a b order => exact (feed_same _ s).run.trans (bottomPulse_run order _ fun must => (empty must).feed _)
    | infeedEdge => exact infeedEdge_run s
    | haltAsserted => exact haltAsserted_run s
    | feedStillAsserted => exact feedStillAsserted_run s
    | dwellTimerExpiry => exact dwellTimerExpiry_run s
    | accept zone flags => exact accept_run zone flags s halted
    | statusReply zone position flags => exact status_run zone position flags s
    | miss => exact miss_run s
    | zoneLinkFrameIgnored bytes => exact zoneLinkFrameIgnored_run bytes s halted
    | moveTimeout z => exact moveTimeout_run z s halted
    | announce f tag => exact announce_run f tag s
    | endHide last => exact endHide_run last s
    | wakeRequest => exact wakeRequest_run s
    | gaugeReset => exact gaugeReset_run s
    | start => exact start_run s
    | rest code => exact rest_run code s
    | wake => exact wake_run s
    | clear => exact clear_run s
    | wakeEnable enables => exact wakeEnable_run enables s
    | abandon hide => exact abandon_run hide s
    | zoneMove zone target => exact zoneMove_run zone target s
    | zoneMode zone code => exact zoneMode_run zone code s
    | zoneReset zone => exact zoneReset_run zone s
    | setScale v => exact setScale_run v s
    | abandonedReplyWindowClose => exact abandonedReplyWindowClose_run s
    | _ => exact absurd quiet Bool.noConfusion

theorem exec_next_run (next : exec c s = .next t) (running : (∀ pins, c ≠ .powerOnReset pins) ∧ c ≠ .reset)
    (empty : H → RestEmpty s) (halted : H → HaltStill s) : ZoneRun H s t :=
  (exec_run c s running empty halted).of_next next

/-- In a run that must keep HALT still, it stays still. -/
theorem ZoneRun.haltStill_of (run : ZoneRun H s t) (sound : H → ChannelsSound s) (halted : H → HaltStill s) (must : H) :
    HaltStill t := by
  obtain rfl : H = True := eq_true must
  exact run.trail.haltStill (channelsSound_iff.mp (sound must)).1 (halted must)

/-- The state in which a run must keep HALT still. -/
structure Ready (H : Prop) (s : State) : Prop where
  sound : H → ChannelsSound s
  halted : H → HaltStill s

theorem ZoneRun.ready (run : ZoneRun H s t) (ready : Ready H s) : Ready H t :=
  ⟨fun must => run.channelsSound (ready.sound must), run.haltStill_of ready.sound ready.halted⟩

theorem tickMove_run (z : Nat) (s : State) (ready : Ready H s) : ZoneRun H s (tickMove z s) := by
  unfold tickMove
  split
  case h_1 m moving =>
    split
    · exact timeoutMove_run moving ready.halted
    · exact .refl s
  case h_2 => exact .refl s

theorem tickMoves_run (s : State) (ready : Ready H s) : ZoneRun H s (forZones tickMove s) := by
  unfold forZones
  generalize zoneList = zs
  induction zs generalizing s with
  | nil => exact .refl s
  | cons z rest ih => exact (tickMove_run z s ready).trans (ih _ ((tickMove_run z s ready).ready ready))

theorem tickDwell_run (s : State) : ZoneRun H s (tickDwell s) := by
  unfold tickDwell
  split
  · exact expireDwell_run s
  · exact .refl s

theorem tickReply_run (s : State) : ZoneRun H s (tickReply s) := by
  unfold tickReply
  split
  · split
    · exact missReply_run _ s
    · exact .refl s
  · exact .refl s

theorem tickAbandoned_run (s : State) : ZoneRun H s (tickAbandoned s) := by
  unfold tickAbandoned
  split
  · split
    · exact closeWindow_run _ s
    · exact .refl s
  · exact .refl s

theorem tickFeedRef_run (s : State) : ZoneRun H s (tickFeedRef s) := by
  unfold tickFeedRef
  split
  · exact (feed_same _ s).run
  · split
    · exact (endHigh_same s).run
    · exact .refl s

theorem tick_run (s : State) (ready : Ready H s) : ZoneRun H s (tick s) := by
  have later : SameZones s { s with now := s.now + 1 } := .of rfl rfl rfl rfl
  have dwelt : ZoneRun H s (tickDwell { s with now := s.now + 1 }) := later.run.trans (tickDwell_run _)
  have moved := dwelt.trans (tickMoves_run _ (dwelt.ready ready))
  exact ((moved.trans (tickReply_run _)).trans (tickAbandoned_run _)).trans (tickFeedRef_run _)

/-! ## Resets (R131, R154, R185) -/

/-- What a reset leaves of the channels and the link, before the HALT input is looked at. -/
structure ZonesInitial (s : State) : Prop where
  active : s.ctl.activeZones = 12 ∨ s.ctl.activeZones = 16
  zones : ∃ strap, s.zones = initialZones s.ctl.activeZones strap
  last : s.link.last = 15
  txn : s.link.txn = none
  phase : s.ctl.phase = .standby

theorem zonesInitial_powerOn (pins : PinLevels) (q : List Instr) :
    ZonesInitial { State.powerOn pins with pending := q } := by
  refine ⟨?_, ⟨if pins.mode1 then .fixed else .profile, rfl⟩, rfl, rfl, rfl⟩
  simp only [State.powerOn, Controller.initial]
  cases pins.mode0 <;> simp

theorem zonesInitial_resetBlocks (active : s.ctl.activeZones = 12 ∨ s.ctl.activeZones = 16) :
    ZonesInitial (resetBlocks s) := ⟨active, ⟨s.ctl.strap, rfl⟩, rfl, rfl, rfl⟩

/-- A channel after a reset: of its strap mode below the active zone count, else OFF. -/
theorem ZonesInitial.channel {strap : StrapMode} (zones : s.zones = initialZones s.ctl.activeZones strap) (below : z < 16) :
    channel s z = Channel.initial (ZoneMode.initial s.ctl.activeZones strap z) := by
  have within : z < Config.zones := below
  simp [Machine.channel, zones, initialZones, within]

theorem ZonesInitial.channelsSound (initial : ZonesInitial s) : ChannelsSound s := by
  obtain ⟨active, ⟨strap, zones⟩, last, txn, phase⟩ := initial
  have fresh : ∀ c ∈ s.zones, c.entryMark = false := by
    rw [zones]
    intro c held
    obtain ⟨_, _, rfl⟩ := List.mem_map.mp held
    rfl
  refine ⟨by simp [zones, initialZones, Config.zones], active, fun z below => ?_, by omega, by simp [txn], ?_⟩
  · rw [ZonesInitial.channel zones below]
    refine ⟨?_, fun _ => ⟨rfl, rfl⟩, by simp [Channel.initial], by simp [Channel.initial], by simp [Channel.initial],
      by simp [Channel.initial], by simp [Channel.initial]⟩
    unfold ZoneMode.initial Channel.initial
    split
    · cases strap <;> simp <;> omega
    · simp
      omega
  · constructor
    · exact fun resuming => absurd resuming (by simp [phase])
    · intro marked
      obtain ⟨c, held, mark⟩ := List.any_eq_true.mp marked
      exact absurd mark (by simp [fresh c held])

theorem ZonesInitial.linkNeverIdles (initial : ZonesInitial s) : LinkNeverIdles s := by
  obtain ⟨_, ⟨strap, zones⟩, _, _, _⟩ := initial
  intro _ _ z below
  rw [ZonesInitial.channel zones below]
  unfold Channel.initial Channel.request ZoneMode.initial
  split
  · cases strap <;> rfl
  · rfl

theorem ZonesInitial.haltStill (initial : ZonesInitial s) : HaltStill s :=
  fun halt => absurd halt (by simp [initial.phase])

theorem initialZones_gaps {active : Nat} {strap : StrapMode} {c : Channel} (held : c ∈ initialZones active strap) :
    ChannelGaps c := by
  obtain ⟨_, _, rfl⟩ := List.mem_map.mp held
  exact ⟨by simp [Channel.initial], by simp [Channel.initial], by simp [Channel.initial]⟩

theorem ZonesInitial.gapsBounded (initial : ZonesInitial s) (park : GapOk s.settings.geometry.parkGap)
    (entry : GapOk s.settings.geometry.entryGap) : GapsBounded s := by
  obtain ⟨_, ⟨strap, zones⟩, _, txn, _⟩ := initial
  refine ⟨fun c held => ?_, by simp [txn], park, entry⟩
  exact initialZones_gaps (zones ▸ held)

/-! ## Every step -/

theorem answerReset_same (s : State) : SameZones s (answerReset s) := line_same _ s

theorem reset_run (next : exec .reset s = .next t) : ZoneRun H (resetBlocks s) t := by
  obtain rfl : answerReset (haltIfAsserted (resetBlocks s)) = t := Host.Outcome.next.inj next
  exact (haltIfAsserted_run _).then (answerReset_same _)

theorem powerOn_run {pins : PinLevels} (next : exec (.powerOnReset pins) s = .next t) :
    ZoneRun H { State.powerOn pins with pending := s.pending } t := by
  obtain rfl : haltIfAsserted { State.powerOn pins with pending := s.pending } = t := Host.Outcome.next.inj next
  exact haltIfAsserted_run _

/-- A step is a run from the state it starts from, or from the state in which a reset leaves the part. -/
theorem step_run (next : step s = .next t) (ready : Ready H s) (empty : H → RestEmpty s) :
    ZoneRun H s t ∨ (∃ pins q, ZoneRun H { State.powerOn pins with pending := q } t) ∨
      ∃ m, SameZones s m ∧ m.settings = s.settings ∧ ZoneRun H (resetBlocks m) t := by
  cases front : s.pending with
  | nil =>
    rw [step_nil front] at next
    obtain rfl := Host.Outcome.next.inj next
    exact .inl (tick_run s ready)
  | cons c rest =>
    rw [step_cons front] at next
    have taken : SameZones s { s with pending := rest } := .of rfl rfl rfl rfl
    by_cases power : ∃ pins, c = .powerOnReset pins
    · obtain ⟨pins, rfl⟩ := power
      exact .inr (.inl ⟨pins, rest, powerOn_run next⟩)
    · by_cases isReset : c = .reset
      · subst isReset
        exact .inr (.inr ⟨_, taken, rfl, reset_run next⟩)
      · have ready' := taken.run.ready ready
        exact .inl (taken.run.trans
          (exec_next_run next ⟨fun pins same => power ⟨pins, same⟩, isReset⟩ empty ready'.halted))

/-- Settles O10: no change of the channels places a gap out of bounds, and a grant copies a slot. -/
theorem targetsStayBetweenFloorAndCeiling : Obligations.TargetsStayBetweenFloorAndCeiling := by
  intro s t bounded next
  have ready : Ready False s := ⟨False.elim, False.elim⟩
  rcases step_run next ready False.elim with run | ⟨pins, q, run⟩ | ⟨m, same, settings, run⟩
  · exact run.trail.gapsBounded bounded
  · exact run.trail.gapsBounded ((zonesInitial_powerOn pins q).gapsBounded
      (show GapOk Config.defaultGeometry.parkGap by unfold GapOk; decide)
      (show GapOk Config.defaultGeometry.entryGap by unfold GapOk; decide))
  · obtain ⟨_, _, park, entry⟩ := bounded
    refine run.trail.gapsBounded ?_
    refine ⟨fun c held => initialZones_gaps held, fun x held => absurd held (by simp [resetBlocks, Link.afterReset, Link.initial]), ?_, ?_⟩
    · simpa [resetBlocks, Settings.afterReset, settings] using park
    · simpa [resetBlocks, Settings.afterReset, settings] using entry

/-- Settles O11: each change keeps the channels sound, and RESUMING is passed at the end of every event that may end
a mark. -/
theorem channelsStaySound : Obligations.ChannelsStaySound := by
  intro s t sound next
  have ready : Ready False s := ⟨False.elim, False.elim⟩
  rcases step_run next ready False.elim with run | ⟨pins, q, run⟩ | ⟨m, same, _, run⟩
  · exact run.channelsSound sound
  · exact run.channelsSound (zonesInitial_powerOn pins q).channelsSound
  · exact run.channelsSound (zonesInitial_resetBlocks (by rw [same.active]; exact sound.2.1)).channelsSound

/-- Settles O12: every event that may free the link or let a channel ask for it ends with a grant. -/
theorem linkIsNeverLeftIdle : Obligations.LinkIsNeverLeftIdle := by
  intro s t sound idle next
  have ready : Ready False s := ⟨False.elim, False.elim⟩
  rcases step_run next ready False.elim with run | ⟨pins, q, run⟩ | ⟨m, same, _, run⟩
  · exact run.idle sound idle
  · have initial := zonesInitial_powerOn pins q
    exact run.idle initial.channelsSound initial.linkNeverIdles
  · have initial := zonesInitial_resetBlocks (s := m) (by rw [same.active]; exact sound.2.1)
    exact run.idle initial.channelsSound initial.linkNeverIdles

/-- Settles O13: the first half is `step_restEmpty`; in HALT no change gives a channel a target or a mark. -/
theorem restAndHaltStayStill : Obligations.RestAndHaltStayStill := by
  intro s t sound empty still next
  refine ⟨step_restEmpty empty next, ?_⟩
  have ready : Ready True s := ⟨fun _ => sound, fun _ => still⟩
  rcases step_run next ready (fun _ => empty) with run | ⟨pins, q, run⟩ | ⟨m, same, _, run⟩
  · exact run.haltStill_of ready.sound ready.halted trivial
  · have initial := zonesInitial_powerOn pins q
    exact run.haltStill_of (fun _ => initial.channelsSound) (fun _ => initial.haltStill) trivial
  · have initial := zonesInitial_resetBlocks (s := m) (by rw [same.active]; exact sound.2.1)
    exact run.haltStill_of (fun _ => initial.channelsSound) (fun _ => initial.haltStill) trivial

end Sys2Proof.Machine

/-! PROOFS. What the path of a strobe leaves unchanged, block by block. -/

namespace Sys2Proof.Machine

/-! ## Departures -/

theorem departReplied_keeps {α : Type} (part : State → α) (each : ∀ s, part (departHead s) = part s) (fuel : Nat)
    (s : State) : part (departReplied fuel s) = part s := by
  induction fuel generalizing s with
  | zero => rfl
  | succ fuel ih =>
    unfold departReplied
    split
    · rfl
    · split
      · rw [ih, each]
      · rfl

theorem departAll_keeps {α : Type} (part : State → α) (each : ∀ s, part (departHead s) = part s) (fuel : Nat)
    (s : State) : part (departAll fuel s) = part s := by
  induction fuel generalizing s with
  | zero => rfl
  | succ fuel ih => exact (ih _).trans (each s)

@[simp] theorem departReplied_pending (fuel : Nat) (s : State) : (departReplied fuel s).pending = s.pending :=
  departReplied_keeps State.pending departHead_pending fuel s
@[simp] theorem departReplied_now (fuel : Nat) (s : State) : (departReplied fuel s).now = s.now :=
  departReplied_keeps State.now departHead_now fuel s
@[simp] theorem departReplied_pins (fuel : Nat) (s : State) : (departReplied fuel s).pins = s.pins :=
  departReplied_keeps State.pins departHead_pins fuel s
@[simp] theorem departReplied_feed (fuel : Nat) (s : State) : (departReplied fuel s).feed = s.feed :=
  departReplied_keeps State.feed departHead_feed fuel s
@[simp] theorem departReplied_zones (fuel : Nat) (s : State) : (departReplied fuel s).zones = s.zones :=
  departReplied_keeps State.zones departHead_zones fuel s
@[simp] theorem departReplied_link (fuel : Nat) (s : State) : (departReplied fuel s).link = s.link :=
  departReplied_keeps State.link departHead_link fuel s
@[simp] theorem departReplied_settings (fuel : Nat) (s : State) : (departReplied fuel s).settings = s.settings :=
  departReplied_keeps State.settings departHead_settings fuel s

@[simp] theorem departDue_pending (s : State) : (departDue s).pending = s.pending :=
  departReplied_pending _ s
@[simp] theorem departDue_now (s : State) : (departDue s).now = s.now :=
  departReplied_now _ s
@[simp] theorem departDue_pins (s : State) : (departDue s).pins = s.pins :=
  departReplied_pins _ s
@[simp] theorem departDue_feed (s : State) : (departDue s).feed = s.feed :=
  departReplied_feed _ s
@[simp] theorem departDue_zones (s : State) : (departDue s).zones = s.zones :=
  departReplied_zones _ s
@[simp] theorem departDue_link (s : State) : (departDue s).link = s.link :=
  departReplied_link _ s
@[simp] theorem departDue_settings (s : State) : (departDue s).settings = s.settings :=
  departReplied_settings _ s

@[simp] theorem departAll_pending (fuel : Nat) (s : State) : (departAll fuel s).pending = s.pending :=
  departAll_keeps State.pending departHead_pending fuel s
@[simp] theorem departAll_now (fuel : Nat) (s : State) : (departAll fuel s).now = s.now :=
  departAll_keeps State.now departHead_now fuel s
@[simp] theorem departAll_pins (fuel : Nat) (s : State) : (departAll fuel s).pins = s.pins :=
  departAll_keeps State.pins departHead_pins fuel s
@[simp] theorem departAll_feed (fuel : Nat) (s : State) : (departAll fuel s).feed = s.feed :=
  departAll_keeps State.feed departHead_feed fuel s
@[simp] theorem departAll_zones (fuel : Nat) (s : State) : (departAll fuel s).zones = s.zones :=
  departAll_keeps State.zones departHead_zones fuel s
@[simp] theorem departAll_link (fuel : Nat) (s : State) : (departAll fuel s).link = s.link :=
  departAll_keeps State.link departHead_link fuel s
@[simp] theorem departAll_settings (fuel : Nat) (s : State) : (departAll fuel s).settings = s.settings :=
  departAll_keeps State.settings departHead_settings fuel s
@[simp] theorem departAll_ctl (fuel : Nat) (s : State) : (departAll fuel s).ctl = s.ctl :=
  departAll_keeps State.ctl departHead_ctl fuel s

@[simp] theorem joinList_pending (num : Num) (pos : Pos) (s : State) : (joinList num pos s).pending = s.pending :=
  by
  unfold joinList
  dsimp only
  split <;> simp
@[simp] theorem joinList_now (num : Num) (pos : Pos) (s : State) : (joinList num pos s).now = s.now :=
  by
  unfold joinList
  dsimp only
  split <;> simp
@[simp] theorem joinList_pins (num : Num) (pos : Pos) (s : State) : (joinList num pos s).pins = s.pins :=
  by
  unfold joinList
  dsimp only
  split <;> simp
@[simp] theorem joinList_feed (num : Num) (pos : Pos) (s : State) : (joinList num pos s).feed = s.feed :=
  by
  unfold joinList
  dsimp only
  split <;> simp
@[simp] theorem joinList_zones (num : Num) (pos : Pos) (s : State) : (joinList num pos s).zones = s.zones :=
  by
  unfold joinList
  dsimp only
  split <;> simp
@[simp] theorem joinList_link (num : Num) (pos : Pos) (s : State) : (joinList num pos s).link = s.link :=
  by
  unfold joinList
  dsimp only
  split <;> simp
@[simp] theorem joinList_settings (num : Num) (pos : Pos) (s : State) : (joinList num pos s).settings = s.settings :=
  by
  unfold joinList
  dsimp only
  split <;> simp

/-! ## Conversions -/

theorem deliverTargets_keeps {α : Type} (part : State → α)
    (each : ∀ sl z g s, part (deliverTarget sl z g s) = part s) (sl : Slice) (z : Nat) (rs : List ZoneResult) (s : State) :
    part (deliverTargets sl z rs s) = part s := by
  induction rs generalizing z s with
  | nil => rfl
  | cons r rest ih =>
    unfold deliverTargets
    rw [ih]
    split
    · exact each _ _ _ _
    · rfl

@[simp] theorem deliverTargets_pending (sl : Slice) (z : Nat) (rs : List ZoneResult) (s : State) : (deliverTargets sl z rs s).pending = s.pending :=
  deliverTargets_keeps State.pending deliverTarget_pending sl z rs s
@[simp] theorem deliverTargets_now (sl : Slice) (z : Nat) (rs : List ZoneResult) (s : State) : (deliverTargets sl z rs s).now = s.now :=
  deliverTargets_keeps State.now deliverTarget_now sl z rs s
@[simp] theorem deliverTargets_pins (sl : Slice) (z : Nat) (rs : List ZoneResult) (s : State) : (deliverTargets sl z rs s).pins = s.pins :=
  deliverTargets_keeps State.pins deliverTarget_pins sl z rs s
@[simp] theorem deliverTargets_feed (sl : Slice) (z : Nat) (rs : List ZoneResult) (s : State) : (deliverTargets sl z rs s).feed = s.feed :=
  deliverTargets_keeps State.feed deliverTarget_feed sl z rs s
@[simp] theorem deliverTargets_intake (sl : Slice) (z : Nat) (rs : List ZoneResult) (s : State) : (deliverTargets sl z rs s).intake = s.intake :=
  deliverTargets_keeps State.intake deliverTarget_intake sl z rs s
@[simp] theorem deliverTargets_hides (sl : Slice) (z : Nat) (rs : List ZoneResult) (s : State) : (deliverTargets sl z rs s).hides = s.hides :=
  deliverTargets_keeps State.hides deliverTarget_hides sl z rs s
@[simp] theorem deliverTargets_ctl (sl : Slice) (z : Nat) (rs : List ZoneResult) (s : State) : (deliverTargets sl z rs s).ctl = s.ctl :=
  deliverTargets_keeps State.ctl deliverTarget_ctl sl z rs s
@[simp] theorem deliverTargets_settings (sl : Slice) (z : Nat) (rs : List ZoneResult) (s : State) : (deliverTargets sl z rs s).settings = s.settings :=
  deliverTargets_keeps State.settings deliverTarget_settings sl z rs s
@[simp] theorem deliverTargets_line (sl : Slice) (z : Nat) (rs : List ZoneResult) (s : State) : (deliverTargets sl z rs s).line = s.line :=
  deliverTargets_keeps State.line deliverTarget_line sl z rs s

theorem convertSlice_keeps {α : Type} (part : State → α) (sl : Slice) (s : State)
    (table : ∀ h tr, part { s with hides := h, track := tr } = part s)
    (each : ∀ sl z rs t, part (deliverTargets sl z rs t) = part t) : part (convertSlice sl s) = part s := by
  cases found : findHide s sl.hide with
  | none => simp [convertSlice, found]
  | some r => rw [convertSlice_eq found, each, table]

@[simp] theorem convertSlice_pending (sl : Slice) (s : State) : (convertSlice sl s).pending = s.pending :=
  convertSlice_keeps State.pending sl s (fun _ _ => rfl) deliverTargets_pending
@[simp] theorem convertSlice_now (sl : Slice) (s : State) : (convertSlice sl s).now = s.now :=
  convertSlice_keeps State.now sl s (fun _ _ => rfl) deliverTargets_now
@[simp] theorem convertSlice_pins (sl : Slice) (s : State) : (convertSlice sl s).pins = s.pins :=
  convertSlice_keeps State.pins sl s (fun _ _ => rfl) deliverTargets_pins
@[simp] theorem convertSlice_feed (sl : Slice) (s : State) : (convertSlice sl s).feed = s.feed :=
  convertSlice_keeps State.feed sl s (fun _ _ => rfl) deliverTargets_feed
@[simp] theorem convertSlice_intake (sl : Slice) (s : State) : (convertSlice sl s).intake = s.intake :=
  convertSlice_keeps State.intake sl s (fun _ _ => rfl) deliverTargets_intake
@[simp] theorem convertSlice_ctl (sl : Slice) (s : State) : (convertSlice sl s).ctl = s.ctl :=
  convertSlice_keeps State.ctl sl s (fun _ _ => rfl) deliverTargets_ctl
@[simp] theorem convertSlice_settings (sl : Slice) (s : State) : (convertSlice sl s).settings = s.settings :=
  convertSlice_keeps State.settings sl s (fun _ _ => rfl) deliverTargets_settings
@[simp] theorem convertSlice_line (sl : Slice) (s : State) : (convertSlice sl s).line = s.line :=
  convertSlice_keeps State.line sl s (fun _ _ => rfl) deliverTargets_line

@[simp] theorem convertEntered_pending (s : State) : (convertEntered s).pending = s.pending :=
  by
  unfold convertEntered
  split <;> simp
@[simp] theorem convertEntered_now (s : State) : (convertEntered s).now = s.now :=
  by
  unfold convertEntered
  split <;> simp
@[simp] theorem convertEntered_pins (s : State) : (convertEntered s).pins = s.pins :=
  by
  unfold convertEntered
  split <;> simp
@[simp] theorem convertEntered_feed (s : State) : (convertEntered s).feed = s.feed :=
  by
  unfold convertEntered
  split <;> simp
@[simp] theorem convertEntered_intake (s : State) : (convertEntered s).intake = s.intake :=
  by
  unfold convertEntered
  split <;> simp
@[simp] theorem convertEntered_ctl (s : State) : (convertEntered s).ctl = s.ctl :=
  by
  unfold convertEntered
  split <;> simp
@[simp] theorem convertEntered_settings (s : State) : (convertEntered s).settings = s.settings :=
  by
  unfold convertEntered
  split <;> simp
@[simp] theorem convertEntered_line (s : State) : (convertEntered s).line = s.line :=
  by
  unfold convertEntered
  split <;> simp

/-! ## The events at a rise of H -/

@[simp] theorem issueStrobe_pending (s : State) : (issueStrobe s).pending = s.pending :=
  by
  simp [issueStrobe]
@[simp] theorem issueStrobe_now (s : State) : (issueStrobe s).now = s.now :=
  by
  simp [issueStrobe]
@[simp] theorem issueStrobe_pins (s : State) : (issueStrobe s).pins = s.pins :=
  by
  simp [issueStrobe]
@[simp] theorem issueStrobe_zones (s : State) : (issueStrobe s).zones = s.zones :=
  by
  simp [issueStrobe]
@[simp] theorem issueStrobe_link (s : State) : (issueStrobe s).link = s.link :=
  by
  simp [issueStrobe]
@[simp] theorem issueStrobe_ctl (s : State) : (issueStrobe s).ctl = s.ctl :=
  by
  simp [issueStrobe]
@[simp] theorem issueStrobe_settings (s : State) : (issueStrobe s).settings = s.settings :=
  by
  simp [issueStrobe]

@[simp] theorem riseStrobe_pending (s : State) : (riseStrobe s).pending = s.pending :=
  by
  unfold riseStrobe
  dsimp only
  split
  · split <;> simp
  · simp
@[simp] theorem riseStrobe_now (s : State) : (riseStrobe s).now = s.now :=
  by
  unfold riseStrobe
  dsimp only
  split
  · split <;> simp
  · simp
@[simp] theorem riseStrobe_pins (s : State) : (riseStrobe s).pins = s.pins :=
  by
  unfold riseStrobe
  dsimp only
  split
  · split <;> simp
  · simp
@[simp] theorem riseStrobe_zones (s : State) : (riseStrobe s).zones = s.zones :=
  by
  unfold riseStrobe
  dsimp only
  split
  · split <;> simp
  · simp
@[simp] theorem riseStrobe_link (s : State) : (riseStrobe s).link = s.link :=
  by
  unfold riseStrobe
  dsimp only
  split
  · split <;> simp
  · simp
@[simp] theorem riseStrobe_ctl (s : State) : (riseStrobe s).ctl = s.ctl :=
  by
  unfold riseStrobe
  dsimp only
  split
  · split <;> simp
  · simp
@[simp] theorem riseStrobe_settings (s : State) : (riseStrobe s).settings = s.settings :=
  by
  unfold riseStrobe
  dsimp only
  split
  · split <;> simp
  · simp

@[simp] theorem riseLead_pending (s : State) : (riseLead s).pending = s.pending :=
  by
  unfold riseLead
  split
  · split <;> simp
  · split
    · rfl
    · split <;> simp
@[simp] theorem riseLead_now (s : State) : (riseLead s).now = s.now :=
  by
  unfold riseLead
  split
  · split <;> simp
  · split
    · rfl
    · split <;> simp
@[simp] theorem riseLead_pins (s : State) : (riseLead s).pins = s.pins :=
  by
  unfold riseLead
  split
  · split <;> simp
  · split
    · rfl
    · split <;> simp
@[simp] theorem riseLead_feed (s : State) : (riseLead s).feed = s.feed :=
  by
  unfold riseLead
  split
  · split <;> simp
  · split
    · rfl
    · split <;> simp
@[simp] theorem riseLead_ctl (s : State) : (riseLead s).ctl = s.ctl :=
  by
  unfold riseLead
  split
  · split <;> simp
  · split
    · rfl
    · split <;> simp
@[simp] theorem riseLead_settings (s : State) : (riseLead s).settings = s.settings :=
  by
  unfold riseLead
  split
  · split <;> simp
  · split
    · rfl
    · split <;> simp

@[simp] theorem riseKnife_pending (s : State) : (riseKnife s).pending = s.pending :=
  by
  unfold riseKnife
  split
  · rfl
  · split <;> simp [retire]
@[simp] theorem riseKnife_now (s : State) : (riseKnife s).now = s.now :=
  by
  unfold riseKnife
  split
  · rfl
  · split <;> simp [retire]
@[simp] theorem riseKnife_pins (s : State) : (riseKnife s).pins = s.pins :=
  by
  unfold riseKnife
  split
  · rfl
  · split <;> simp [retire]
@[simp] theorem riseKnife_feed (s : State) : (riseKnife s).feed = s.feed :=
  by
  unfold riseKnife
  split
  · rfl
  · split <;> simp [retire]
@[simp] theorem riseKnife_intake (s : State) : (riseKnife s).intake = s.intake :=
  by
  unfold riseKnife
  split
  · rfl
  · split <;> simp [retire]
@[simp] theorem riseKnife_ctl (s : State) : (riseKnife s).ctl = s.ctl :=
  by
  unfold riseKnife
  split
  · rfl
  · split <;> simp [retire]

@[simp] theorem riseLength_pending (s : State) : (riseLength s).pending = s.pending :=
  by
  unfold riseLength
  split
  · split <;> simp
  · rfl
  · rfl
@[simp] theorem riseLength_now (s : State) : (riseLength s).now = s.now :=
  by
  unfold riseLength
  split
  · split <;> simp
  · rfl
  · rfl
@[simp] theorem riseLength_pins (s : State) : (riseLength s).pins = s.pins :=
  by
  unfold riseLength
  split
  · split <;> simp
  · rfl
  · rfl
@[simp] theorem riseLength_feed (s : State) : (riseLength s).feed = s.feed :=
  by
  unfold riseLength
  split
  · split <;> simp
  · rfl
  · rfl
@[simp] theorem riseLength_intake (s : State) : (riseLength s).intake = s.intake :=
  by
  unfold riseLength
  split
  · split <;> simp
  · rfl
  · rfl
@[simp] theorem riseLength_ctl (s : State) : (riseLength s).ctl = s.ctl :=
  by
  unfold riseLength
  split
  · split <;> simp
  · rfl
  · rfl
@[simp] theorem riseLength_zones (s : State) : (riseLength s).zones = s.zones :=
  by
  unfold riseLength
  split
  · split <;> simp
  · rfl
  · rfl
@[simp] theorem riseLength_link (s : State) : (riseLength s).link = s.link :=
  by
  unfold riseLength
  split
  · split <;> simp
  · rfl
  · rfl

end Sys2Proof.Machine

/-! PROOFS. The machine state, command by command (O17). -/

namespace Sys2Proof.Machine

variable {s t u : State} {c : Instr}

/-! ## Where an entry leads -/

@[simp] theorem enterPark_phase (s : State) : (enterPark s).ctl.phase = .park := by
  simp only [enterPark, raiseLine_ctl, startDwell]
  rw [forZones_ctl placePark_ctl, emptyTrack_ctl, enterPhase_phase]

theorem enterRest_phase (s : State) : (enterRest s).ctl.phase = restPhase s.ctl.restTarget := by
  unfold enterRest
  cases s.ctl.restTarget <;> simp [restPhase]

theorem enterPhase_restTarget (p : Phase) (s : State) : (enterPhase p s).ctl.restTarget = s.ctl.restTarget := by
  simp [enterPhase]

theorem enterRest_restTarget (s : State) : (enterRest s).ctl.restTarget = s.ctl.restTarget := by
  unfold enterRest
  split
  · simp [enterDwell, startDwell, enterPhase]
  · simp only [enterPark, raiseLine_ctl, startDwell]
    rw [forZones_ctl placePark_ctl, emptyTrack_ctl, enterPhase_restTarget]

theorem enterBraking_phase (s : State) : (enterBraking s).ctl.phase = braked s s.ctl.restTarget := by
  unfold enterBraking braked
  simp only [enterPhase_pins]
  split
  · rw [enterRest_phase, enterPhase_restTarget]
  · exact enterPhase_phase _ _

theorem enterBraking_restTarget (s : State) : (enterBraking s).ctl.restTarget = s.ctl.restTarget := by
  unfold enterBraking
  dsimp only
  split
  · rw [enterRest_restTarget, enterPhase_restTarget]
  · exact enterPhase_restTarget _ _

theorem braked_ne_clearing (s : State) (r : RestTarget) : braked s r ≠ .clearing := by
  unfold braked
  split
  · cases r <;> simp [restPhase]
  · simp

/-! ## CLEARING is passed with the knife clear (R142) -/

/-- The knife is clear: no hide is unfinished and no slice is in the track. -/
def Clear (s : State) : Prop := anyUnfinished s = false ∧ s.track.slices = []

theorem Clear.of (clear : Clear s) (hides : t.hides.records = s.hides.records) (slices : t.track.slices = s.track.slices) :
    Clear t := ⟨by rw [anyUnfinished_congr hides]; exact clear.1, slices.trans clear.2⟩

theorem knifeClear_iff : knifeClear s = true ↔ Clear s := by
  simp [knifeClear, Clear]

/-- No change but an ANNOUNCE brings anything to a clear knife. -/
theorem Change.clear (change : Change c s t) (other : ∀ f tag, c ≠ .announce f tag) (clear : Clear s) : Clear t := by
  cases change with
  | phase p => exact clear.of (by simp) (by simp)
  | table h tr step => exact ⟨step.finished clear.1, step.noSlices clear.2 clear.1⟩
  | finish h tr step =>
    have changed : Clear { s with hides := h, track := tr } := ⟨step.finished clear.1, step.noSlices clear.2 clear.1⟩
    exact changed.of (by simp) (by rw [applyPending_slices])
  | drop n h own kept =>
    refine ⟨?_, clear.2⟩
    have finished := clear.1
    rw [anyUnfinished_eq_false_iff] at finished ⊢
    intro r held
    rw [kept] at held
    exact finished r (List.mem_of_mem_filter held)
  | fill r n own =>
    obtain ⟨f, tag, same⟩ := own
    exact absurd same (other f tag)
  | gaugeNotice n => exact clear.of (by simp) (by simp)
  | haltLevel b => exact clear.of (by simp) (by simp)
  | knife offsets => obtain ⟨_, eq⟩ | ⟨_, eq⟩ := takeKnife_cases offsets s <;> rw [eq] <;> exact clear.of rfl rfl
  | _ => exact clear.of rfl rfl

theorem Trail.clear (path : Trail c s t) (other : ∀ f tag, c ≠ .announce f tag) (clear : Clear s) : Clear t :=
  path.keeps (P := Clear) (fun _ _ change => change.clear other) clear

/-- What an event that may clear the knife makes of the machine state: it stands, or CLEARING is left for BRAKING,
or for the rest where FEED-STILL is asserted, with the knife clear. -/
structure Clears (s t : State) : Prop where
  pins : t.pins = s.pins
  target : t.ctl.restTarget = s.ctl.restTarget
  clear : Clear s → Clear t
  phase : t.ctl.phase = s.ctl.phase ∨
    (s.ctl.phase = .clearing ∧ Clear t ∧ t.ctl.phase = braked s s.ctl.restTarget)

theorem Clears.trans (h : Clears s t) (h' : Clears t u) : Clears s u := by
  have braking : braked t t.ctl.restTarget = braked s s.ctl.restTarget := by
    unfold braked
    rw [h.pins, h.target]
  refine ⟨h'.pins.trans h.pins, h'.target.trans h.target, h'.clear ∘ h.clear, ?_⟩
  rcases h.phase with same | ⟨clearing, clear, moved⟩
  · rw [← braking, ← same]
    exact h'.phase
  · rcases h'.phase with same' | ⟨clearing', _⟩
    · exact .inr ⟨clearing, h'.clear clear, same'.trans moved⟩
    · exact absurd (moved ▸ clearing') (braked_ne_clearing _ _)

/-- A change of a trail that leaves the controller and the inputs alone. -/
theorem Clears.of_trail (path : Trail c s t) (other : ∀ f tag, c ≠ .announce f tag) (ctl : t.ctl = s.ctl)
    (pins : t.pins = s.pins) : Clears s t :=
  ⟨pins, by rw [ctl], path.clear other, .inl (by rw [ctl])⟩

theorem Clears.same (ctl : t.ctl = s.ctl) (pins : t.pins = s.pins) (records : t.hides.records = s.hides.records)
    (slices : t.track.slices = s.track.slices) : Clears s t :=
  ⟨pins, by rw [ctl], fun clear => clear.of records slices, .inl (by rw [ctl])⟩

theorem Clears.feed (f : Feed) (s : State) : Clears s { s with feed := f } := .same rfl rfl rfl rfl

theorem Clears.refl (s : State) : Clears s s := .same rfl rfl rfl rfl

theorem settle_clears (s : State) : Clears s (settle s) := by
  have keeps : Clear s → Clear (settle s) := (settle_trail (c := .miss)).clear (by simp)
  refine ⟨by simp, ?_, keeps, ?_⟩
  · simp only [settle, arbitrate_ctl]
    unfold passClearing
    split
    · exact enterBraking_restTarget s
    · rfl
  · by_cases passes : s.ctl.phase = .clearing ∧ knifeClear s = true
    · obtain ⟨clearing, knife⟩ := passes
      refine .inr ⟨clearing, keeps (knifeClear_iff.mp knife), ?_⟩
      simp [settle, passClearing, clearing, knife, enterBraking_phase]
    · left
      simp only [settle, arbitrate_ctl, passClearing, Bool.and_eq_true, decide_eq_true_eq, if_neg passes]

/-! ## Pulses of the bottom encoder -/

theorem riseEvent_clears (e : RiseEvent) (s : State) : Clears s (riseEvent e s) := by
  have pulse : isBottomPulse (.bottomPulse false false []) = true := rfl
  cases e with
  | strobe => exact (Clears.of_trail (riseStrobe_trail pulse) (by simp) (by simp) (by simp)).trans (settle_clears _)
  | slip => exact (Clears.of_trail (c := .miss) riseSlip_trail (by simp) (by simp) (by simp)).trans (settle_clears _)
  | lead => exact (Clears.of_trail (c := .gaugeReset) (riseLead_trail rfl) (by simp) (by simp) (by simp)).trans (settle_clears _)
  | knife => exact (Clears.of_trail (c := .gaugeReset) (riseKnife_trail rfl) (by simp) (by simp) (by simp)).trans (settle_clears _)
  | length => exact (Clears.of_trail (c := .gaugeReset) (riseLength_trail rfl) (by simp) (by simp) (by simp)).trans (settle_clears _)

theorem riseEvents_clears (es : List RiseEvent) (s : State) : Clears s (es.foldl (fun t e => riseEvent e t) s) := by
  induction es generalizing s with
  | nil => exact .refl s
  | cons e es ih => exact (riseEvent_clears e s).trans (ih _)

theorem riseF_clears (order : List RiseEvent) (s : State) : Clears s (riseF order s) := by
  unfold riseF
  dsimp only
  split
  · unfold riseH
    exact ((Clears.feed _ s).trans (.feed _ _)).trans (riseEvents_clears _ _)
  · exact .feed _ s

theorem discontinuity_clears (s : State) : Clears s (discontinuity s) := by
  refine (Clears.feed { s.feed with h := s.feed.f } s).trans ?_
  refine (Clears.of_trail (c := .gaugeReset) ((enterSettling_trail rfl).trans ((flush_trail .reverse).trans restartWindow_trail))
    (by simp) ?_ ?_).trans (settle_clears _)
  · simp [restartWindow]
  · simp [restartWindow]

theorem fallF_clears (s : State) : Clears s (fallF s) := by
  unfold fallF
  dsimp only
  split
  · exact (Clears.feed _ s).trans (discontinuity_clears _)
  · exact .feed _ s

theorem times_clears {f : State → State} (each : ∀ s, Clears s (f s)) (n : Nat) (s : State) : Clears s (times f n s) := by
  induction n generalizing s with
  | zero => exact .refl s
  | succ n ih => exact (each s).trans (ih _)

theorem bottomPulse_clears (order : List RiseEvent) (step : Step) (s : State) : Clears s (bottomPulse order step s) := by
  cases step with
  | still => exact .refl s
  | forward => exact (Clears.feed _ s).trans (times_clears (riseF_clears order) _ _)
  | backward => exact (Clears.feed _ s).trans (times_clears fallF_clears _ _)

theorem Clears.answerLine (h : Clears s t) (kind : Byte) (status : Status) (fields : List Byte) :
    Clears s (answerLine kind status fields t) := h.trans (.same (by simp) (by simp) (by simp) (by simp))

theorem Clears.answerGauge (h : Clears s t) (kind : Byte) (status : Status) (fields : List Byte) :
    Clears s (answerGauge kind status fields t) := h.trans (.same (by simp) (by simp) (by simp) (by simp))

/-! ## The requests that may clear the knife -/

theorem endHide_clears (last : Num) (s : State) : Leads (Clears s) (exec (.endHide last) s) := by
  have refused : ∀ status, Clears s (refuseEnd status s) := fun status =>
    .same (by simp [refuseEnd]) (by simp [refuseEnd]) (by simp [refuseEnd]) (by simp [refuseEnd])
  simp only [exec, execEndHide]
  split
  · exact refused _
  · unfold endRequest
    split
    · exact refused _
    case h_2 r found =>
      obtain ⟨held, isOpen⟩ := openHide_mem found
      split
      · exact refused _
      · exact ((Clears.of_trail (c := .gaugeReset) (endAt_trail _ _ held rfl (HideState.unfinished_of_isOpen isOpen) rfl)
          (by simp) (by simp) (by simp)).trans (settle_clears _)).answerGauge _ _ _

theorem forceOpenEnd_clears (s : State) : Clears s (forceOpenEnd s) := by
  refine Clears.of_trail (c := .gaugeReset) (forceOpenEnd_trail rfl) (by simp) ?_ ?_
  · unfold forceOpenEnd
    split <;> simp
  · unfold forceOpenEnd
    split <;> simp

theorem gaugeReset_clears (s : State) : Leads (Clears s) (exec .gaugeReset s) := by
  simp only [exec, execGaugeReset]
  split
  · exact (Clears.refl s).answerGauge _ _ _
  · unfold gaugeReset
    refine Clears.answerGauge ?_ _ _ _
    have emptied : Clears s { s with intake := { s.intake with port := { s.intake.port with rx := none } } } :=
      .same rfl rfl rfl rfl
    refine (emptied.trans ?_).trans ((forceOpenEnd_clears _).trans (settle_clears _))
    exact Clears.of_trail (c := .gaugeReset) (departAll_trail rfl _) (by simp) (by simp) (by simp)

theorem abandon_clears (hide : Num) (s : State) : Leads (Clears s) (exec (.abandon hide) s) := by
  simp only [exec, execAbandon]
  split
  · exact (Clears.refl s).answerLine _ _ _
  case h_2 r found =>
    split
    case isTrue unfinished =>
      obtain ⟨held, numbered⟩ := findHide_mem found
      rw [takeAbandon_eq]
      refine Clears.answerLine (.trans ?_ (settle_clears _)) _ _ _
      refine Clears.of_trail (c := .abandon hide) (((detach_trail _).tail (.lineNotice .hideAbandoned)).tail
        (.finish _ _ (.lineAbandoned (r := r) held numbered unfinished) (.inr rfl))) (by simp) (by simp) (by simp)
    case isFalse => exact (Clears.refl s).answerLine _ _ _

theorem setScale_clears (v : Nat) (s : State) : Leads (Clears s) (exec (.setScale v) s) := by
  simp only [exec, execSetScale]
  split
  · exact (Clears.refl s).answerLine _ _ _
  · split
    · refine Clears.answerLine ?_ _ _ _
      unfold takeScale
      have scaled : Clears s { s with
          settings := { s.settings with scale := v }, feed := { s.feed with botAcc := 0, topAcc := 0 } } :=
        .same rfl rfl rfl rfl
      refine scaled.trans ?_
      refine (Clears.of_trail (c := .gaugeReset) ((enterSettling_trail rfl).trans ((flush_trail .scale).trans restartWindow_trail))
        (by simp) ?_ ?_).trans (settle_clears _)
      · simp [restartWindow]
      · simp [restartWindow]
    · exact (Clears.refl s).answerLine _ _ _

/-! ## Wake sources (R134) -/

theorem enterResuming_phase (s : State) : (enterResuming s).ctl.phase = .resuming ∨ (enterResuming s).ctl.phase = .run := by
  have resuming : (forZones placeEntry (enterPhase .resuming s)).ctl.phase = .resuming := by
    rw [forZones_ctl placeEntry_ctl, enterPhase_phase]
  unfold enterResuming
  rw [passResuming_phase, resuming]
  split
  · exact .inr rfl
  · exact .inl rfl

theorem wakeEvent_enables (s : State) : (wakeEvent s).ctl.enables = s.ctl.enables := by
  unfold wakeEvent
  split
  case h_4 =>
    have placed : (forZones placeEntry (enterPhase .resuming (stopDwell s))).ctl.enables = s.ctl.enables := by
      rw [forZones_ctl placeEntry_ctl]
      simp [enterPhase, stopDwell]
    simp only [raiseLine_ctl, arbitrate_ctl, enterResuming]
    unfold passResuming
    split
    · simpa [enterRun, stopDwell, enterPhase] using placed
    · exact placed
  all_goals simp [enterRun, stopDwell, enterPhase]

theorem wakeEvent_wakeHolds (s : State) : (wakeEvent s).ctl.wakeHolds = s.ctl.wakeHolds := by
  unfold Controller.wakeHolds
  rw [wakeEvent_flags, wakeEvent_enables]

theorem wakeEvent_leads (s : State) : (wakeEvent s).ctl.phase = s.ctl.phase ∨
    wakeLeads s.ctl.phase (wakeEvent s).ctl.phase = true := by
  unfold wakeEvent
  split
  case h_1 phase => exact .inr (by simp [phase, wakeLeads])
  case h_2 phase => exact .inr (by simp [phase, wakeLeads])
  case h_3 phase => exact .inr (by simp [phase, wakeLeads])
  case h_4 phase =>
    refine .inr ?_
    rw [phase, raiseLine_ctl, arbitrate_ctl]
    rcases enterResuming_phase (stopDwell s) with resuming | run
    · rw [resuming]; rfl
    · rw [run]; rfl
  all_goals exact .inl rfl

/-- What a wake source makes of the machine state. -/
def Wakes (s t : State) : Prop := t.ctl.phase = s.ctl.phase ∨
  (s.ctl.wakeHolds = false ∧ t.ctl.wakeHolds = true ∧ wakeLeads s.ctl.phase t.ctl.phase = true)

theorem changeWake_wakes {f : Controller → Controller} (phase : (f s.ctl).phase = s.ctl.phase) :
    Wakes s (changeWake f s) := by
  unfold changeWake
  dsimp only
  split
  case isTrue begins =>
    simp only [Bool.and_eq_true, Bool.not_eq_true'] at begins
    obtain ⟨holds, before⟩ := begins
    have wakes := wakeEvent_leads { s with ctl := f s.ctl }
    dsimp only at wakes
    rw [phase] at wakes
    exact wakes.imp id fun leads => ⟨before, (wakeEvent_wakeHolds _).trans holds, leads⟩
  case isFalse => exact .inl phase

theorem setWakeFlag_wakes (w : WakeFlag) (s : State) : Wakes s (setWakeFlag w s) := by
  unfold setWakeFlag
  exact changeWake_wakes rfl

/-- What comes before and behind a wake source leaves the controller's state, flags and enables alone. -/
theorem Wakes.of (wakes : Wakes t u) (phase : t.ctl.phase = s.ctl.phase) (flags : t.ctl.flags = s.ctl.flags)
    (enables : t.ctl.enables = s.ctl.enables) : Wakes s u := by
  have same : t.ctl.wakeHolds = s.ctl.wakeHolds := by unfold Controller.wakeHolds; rw [flags, enables]
  unfold Wakes at wakes ⊢
  rwa [phase, same] at wakes

/-! ## Ends of transactions (R139) -/

/-- What the end of a transaction or of a move makes of the machine state. -/
def Resumes (s t : State) : Prop := t.ctl.phase = s.ctl.phase ∨
  (s.ctl.phase = .resuming ∧ t.ctl.phase = .run ∧ anyEntryMark t = false)

theorem anyEntryMark_congr (zones : t.zones = s.zones) : anyEntryMark t = anyEntryMark s := by
  unfold anyEntryMark
  rw [zones]

theorem passResuming_resumes (same : t.ctl = s.ctl) (zones : u.zones = (passResuming t).zones)
    (ctl : u.ctl = (passResuming t).ctl) : Resumes s u := by
  unfold Resumes
  rw [ctl, anyEntryMark_congr zones, anyEntryMark_congr (passResuming_zones t), passResuming_phase, same]
  split
  case isTrue passes => exact .inr ⟨passes.1, rfl, passes.2⟩
  case isFalse => exact .inl rfl

theorem finishLink_resumes (same : t.ctl = s.ctl) : Resumes s (finishLink t) :=
  passResuming_resumes same rfl rfl

theorem takeAccept_resumes (zone flags : Byte) (s : State) : Resumes s (takeAccept zone flags s) := by
  unfold takeAccept
  split
  case h_1 x reply =>
    obtain ⟨sending, _⟩ := (answered_eq_some_iff _ _ _ _).mp reply
    exact finishLink_resumes (channelStep_acceptReply (H := False) flags sending False.elim).ctl
  case h_2 => exact .inl rfl

theorem takeStatus_resumes (zone : Byte) (position : BitVec 16) (flags : Byte) (s : State) :
    Resumes s (takeStatus zone position flags s) := by
  unfold takeStatus
  split
  case h_1 x reply => exact finishLink_resumes (channelStep_statusReply (H := False) x position flags (freeLink s)).ctl
  case h_2 => exact .inl rfl

theorem missReply_resumes (x : Txn) (s : State) : Resumes s (missReply x s) := by
  refine finishLink_resumes ?_
  rw [countMiss_ctl, (channelStep_endClearPoll (H := False) (K := False) x _).ctl]
  rfl

theorem timeoutMove_resumes (m : Move) (z : Nat) (s : State) : Resumes s (timeoutMove m z s) := by
  rw [timeoutMove_eq]
  refine finishLink_resumes ?_
  split
  · simp [timedOut, advanceTo]
  · unfold retryEntry
    split <;> simp [timedOut, advanceTo]

theorem zoneMode_resumes (zone : Nat) (code : Byte) (s : State) : Leads (Resumes s) (exec (.zoneMode zone code) s) := by
  simp only [exec, execZoneMode]
  split
  · exact .inl (by simp)
  · split
    · exact .inl (by simp)
    case h_2 mode _ =>
      split
      · exact .inl (by simp)
      · split
        · exact .inl (by simp)
        · rw [takeMode_eq]
          exact passResuming_resumes (t := flagInfluence (updChannel (Channel.toMode mode) zone (slotForMode zone mode s)))
            (by simp [flagInfluence]) (by simp) (by simp)

end Sys2Proof.Machine

/-! PROOFS. The machine state moves only as listed (O17). -/

namespace Sys2Proof.Machine

variable {s t u : State} {c : Instr}

theorem Clears.moves (h : Clears s t) : t.ctl.phase = s.ctl.phase ∨ (s.ctl.phase = .clearing ∧
    anyUnfinished t = false ∧ t.track.slices = [] ∧ t.ctl.phase = braked s s.ctl.restTarget) :=
  h.phase.imp id fun ⟨clearing, ⟨finished, slices⟩, moved⟩ => ⟨clearing, finished, slices, moved⟩

@[simp] theorem enterHalt_phase (s : State) : (enterHalt s).ctl.phase = .halt := by
  rw [enterHalt_eq, enterPhase_phase]

theorem haltIfAsserted_phase (s : State) : (haltIfAsserted s).ctl.phase = if s.pins.halt then .halt else s.ctl.phase := by
  unfold haltIfAsserted
  cases s.pins.halt <;> by_cases halt : s.ctl.phase = .halt <;> simp [halt]

theorem answerReset_ctl (s : State) : (answerReset s).ctl = s.ctl := rfl

theorem reset_phase (next : exec .reset s = .next t) : t.ctl.phase = if s.pins.halt then .halt else .standby := by
  obtain rfl : answerReset (haltIfAsserted (resetBlocks s)) = t := Host.Outcome.next.inj next
  rw [answerReset_ctl, haltIfAsserted_phase]
  rfl

theorem powerOn_phase {pins : PinLevels} (next : exec (.powerOnReset pins) s = .next t) :
    t.ctl.phase = if pins.halt then .halt else .standby := by
  obtain rfl : haltIfAsserted { State.powerOn pins with pending := s.pending } = t := Host.Outcome.next.inj next
  rw [haltIfAsserted_phase]
  rfl

theorem haltAsserted_phase (s : State) : Leads (fun t => t.ctl.phase = .halt) (exec .haltAsserted s) := by
  simp only [exec, execHaltAsserted, Leads]
  rw [haltIfAsserted_phase, applyGate_pins, if_pos rfl]

theorem feedStillAsserted_phase (s : State) : Leads (fun t => t.ctl.phase = s.ctl.phase ∨
    (s.ctl.phase = .braking ∧ t.ctl.phase = restPhase s.ctl.restTarget)) (exec .feedStillAsserted s) := by
  simp only [exec, execFeedStillAsserted, Leads]
  split
  case isTrue braking => exact .inr ⟨braking, by rw [arbitrate_ctl, enterRest_phase]⟩
  case isFalse => exact .inl rfl

theorem dwellTimerExpiry_wakes (s : State) : Leads (Wakes s) (exec .dwellTimerExpiry s) := by
  simp only [exec, execDwellTimerExpiry, Leads]
  split
  · exact (setWakeFlag_wakes .timer _).of rfl rfl rfl
  · exact .inl rfl

theorem infeedEdge_wakes (s : State) : Leads (Wakes s) (exec .infeedEdge s) :=
  (setWakeFlag_wakes .infeed (captureInfeed s)).of rfl rfl rfl

theorem Wakes.same (wakes : Wakes s t) (ctl : u.ctl = t.ctl) : Wakes s u := by
  unfold Wakes
  rw [ctl]
  exact wakes

theorem wakeRequest_wakes (s : State) : Leads (Wakes s) (exec .wakeRequest s) := by
  simp only [exec, execWakeRequest]
  split
  · exact .inl (by simp)
  · exact (setWakeFlag_wakes .gauge s).same (by simp)

theorem wake_wakes (s : State) : Leads (Wakes s) (exec .wake s) := (setWakeFlag_wakes .line s).same (by simp)

theorem wakeEnable_wakes (enables : Byte) (s : State) : Leads (Wakes s) (exec (.wakeEnable enables) s) := by
  simp only [exec, execWakeEnable]
  exact (changeWake_wakes (f := fun c => { c with enables := enables.setWidth 4 }) rfl).same (answerLine_ctl _ _ _ _)

theorem Resumes.same (resumes : Resumes s t) (ctl : u.ctl = t.ctl) (zones : u.zones = t.zones) : Resumes s u := by
  unfold Resumes
  rw [ctl, anyEntryMark_congr zones]
  exact resumes

theorem miss_resumes (s : State) : Leads (Resumes s) (exec .miss s) := by
  simp only [exec, execMiss]
  split
  · exact missReply_resumes _ s
  · exact .inl rfl

theorem moveTimeout_resumes (z : Nat) (s : State) : Leads (Resumes s) (exec (.moveTimeout z) s) := by
  simp only [exec, execMoveTimeout]
  split
  · exact timeoutMove_resumes _ z s
  · exact .inl rfl

theorem zoneLinkFrameIgnored_resumes (bytes : List (Option Byte)) (s : State) :
    Leads (Resumes s) (exec (.zoneLinkFrameIgnored bytes) s) := by
  simp only [exec, execZoneLinkFrameIgnored]
  split
  · exact .inl rfl
  · exact takeAccept_resumes _ _ s
  · exact takeStatus_resumes _ _ _ s

theorem announce_phase (f tag : Num) (s : State) :
    Leads (fun t => t.ctl.phase = s.ctl.phase) (exec (.announce f tag) s) := by
  simp only [exec, execAnnounce]
  split
  · exact (refuseAnnounce_same _ s).phase
  · obtain ⟨status, eq⟩ | ⟨newest, e, _, _, _, _, _, _, _, _, eq⟩ := announce_cases f tag s
    · rw [eq]
      exact (refuseAnnounce_same _ s).phase
    · rw [eq, openNew_eq, fillRecord_eq]
      simpa [Leads] using (madeRoom_same e s).phase

theorem start_phase (s : State) : Leads (fun t => t.ctl.phase = s.ctl.phase ∨
    (s.ctl.phase = .standby ∧ s.pins.halt = false ∧ (t.ctl.phase = .resuming ∨ t.ctl.phase = .run))) (exec .start s) := by
  simp only [exec, execStart]
  split
  · exact .inl (by simp)
  case isFalse released =>
    split
    case isTrue standby =>
      refine .inr ⟨standby, (Bool.not_eq_true _).mp released, ?_⟩
      rw [answerLine_ctl, arbitrate_ctl]
      exact enterResuming_phase s
    case isFalse => exact .inl (by simp)

theorem clear_phase (s : State) : Leads (fun t => t.ctl.phase = s.ctl.phase ∨
    (s.ctl.phase = .halt ∧ s.pins.halt = false ∧ t.ctl.phase = .standby)) (exec .clear s) := by
  simp only [exec, execClear]
  split
  case isTrue halted =>
    simp only [Bool.and_eq_true, decide_eq_true_eq, Bool.not_eq_true'] at halted
    refine .inr ⟨halted.1, halted.2, ?_⟩
    rw [answerLine_ctl, leaveHalt, arbitrate_ctl]
    exact enterPhase_phase .standby s
  case isFalse => exact .inl (by simp)

theorem takeRest_phase (target : RestTarget) (s : State) : match target with
    | .dwell => (takeRest target s).ctl.phase = braked s .dwell
    | .park => (takeRest target s).ctl.phase = .clearing ∨ (takeRest target s).ctl.phase = braked s .park := by
  cases target with
  | dwell =>
    simp only [takeRest, arbitrate_ctl]
    exact enterBraking_phase _
  | park =>
    simp only [takeRest, arbitrate_ctl, enterClearing, passClearing]
    split
    · refine .inr ((enterBraking_phase _).trans ?_)
      unfold braked
      rw [enterPhase_pins, enterPhase_restTarget]
    · exact .inl (enterPhase_phase _ _)

theorem rest_phase (code : Byte) (s : State) : Leads (fun t => t.ctl.phase = s.ctl.phase ∨
    (s.ctl.phase = .run ∧ s.ctl.wakeHolds = false ∧ ((code = 1 ∧ t.ctl.phase = braked s .dwell) ∨
      (code = 2 ∧ (t.ctl.phase = .clearing ∨ t.ctl.phase = braked s .park))))) (exec (.rest code) s) := by
  simp only [exec, execRest]
  split
  · exact .inl (by simp)
  case h_2 target named =>
    split
    case isTrue run =>
      split
      · exact .inl (by simp)
      case isFalse awake =>
        have moved := takeRest_phase target s
        refine .inr ⟨run, (Bool.not_eq_true _).mp awake, ?_⟩
        rw [answerLine_ctl]
        unfold restTargetOf at named
        split at named
        case isTrue one =>
          obtain rfl := Option.some.inj named
          exact .inl ⟨one, moved⟩
        case isFalse =>
          split at named
          case isTrue two =>
            obtain rfl := Option.some.inj named
            exact .inr ⟨two, moved⟩
          case isFalse => exact absurd named (by simp)
    case isFalse => exact .inl (by simp)

theorem zoneMove_phase (zone : Nat) (target : Int) (s : State) :
    Leads (fun t => t.ctl.phase = s.ctl.phase) (exec (.zoneMove zone target) s) := by
  simp only [exec, execZoneMove, refuseMove]
  split
  · simp [Leads]
  · split
    · simp [Leads]
    · split <;> simp [Leads, takeMove]

theorem zoneReset_phase (zone : Nat) (s : State) :
    Leads (fun t => t.ctl.phase = s.ctl.phase) (exec (.zoneReset zone) s) := by
  simp only [exec, execZoneReset]
  split
  · simp [Leads]
  · split <;> simp [Leads, takeZoneReset]

theorem abandonedReplyWindowClose_phase (s : State) :
    Leads (fun t => t.ctl.phase = s.ctl.phase) (exec .abandonedReplyWindowClose s) := by
  simp only [exec, execAbandonedReplyWindowClose]
  split <;> exact rfl

/-- Settles O17: one lemma per command that can move the machine state, and `exec_quiet` for the others. -/
theorem machineStateMovesOnlyAsListed : Obligations.MachineStateMovesOnlyAsListed := by
  intro c s t next
  cases c with
  | powerOnReset pins => exact powerOn_phase next
  | reset => exact reset_phase next
  | bottomPulse a b order =>
    obtain rfl := Host.Outcome.next.inj next
    exact ((Clears.feed { s.feed with botRef := ⟨a, b⟩ } s).trans (bottomPulse_clears order _ _)).moves
  | infeedEdge => exact (infeedEdge_wakes s).of_next next
  | haltAsserted => exact (haltAsserted_phase s).of_next next
  | feedStillAsserted => exact (feedStillAsserted_phase s).of_next next
  | dwellTimerExpiry => exact (dwellTimerExpiry_wakes s).of_next next
  | accept zone flags =>
    obtain rfl := Host.Outcome.next.inj next
    exact takeAccept_resumes zone flags s
  | statusReply zone position flags =>
    obtain rfl := Host.Outcome.next.inj next
    exact takeStatus_resumes zone position flags s
  | miss => exact (miss_resumes s).of_next next
  | zoneLinkFrameIgnored bytes => exact (zoneLinkFrameIgnored_resumes bytes s).of_next next
  | moveTimeout z => exact (moveTimeout_resumes z s).of_next next
  | announce f tag => exact (announce_phase f tag s).of_next next
  | endHide last => exact ((endHide_clears last s).of_next next).moves
  | wakeRequest => exact (wakeRequest_wakes s).of_next next
  | gaugeReset => exact ((gaugeReset_clears s).of_next next).moves
  | start => exact (start_phase s).of_next next
  | rest code => exact (rest_phase code s).of_next next
  | wake => exact (wake_wakes s).of_next next
  | clear => exact (clear_phase s).of_next next
  | wakeEnable enables => exact (wakeEnable_wakes enables s).of_next next
  | abandon hide => exact ((abandon_clears hide s).of_next next).moves
  | zoneMove zone target => exact (zoneMove_phase zone target s).of_next next
  | zoneMode zone code => exact (zoneMode_resumes zone code s).of_next next
  | zoneReset zone => exact (zoneReset_phase zone s).of_next next
  | setScale v => exact ((setScale_clears v s).of_next next).moves
  | abandonedReplyWindowClose => exact (abandonedReplyWindowClose_phase s).of_next next
  | _ => exact ((exec_quiet rfl s).of_next next).phase

end Sys2Proof.Machine

/-! PROOFS. What a line request's response waits in, and that a refusal changes nothing else (O23). -/

namespace Sys2Proof.Machine

variable {s t u : State} {c : Instr}

/-! ## The line port under the shared operations -/

/-- The part of the line port's state that only transfers, responses and the resets change. -/
def linePort (s : State) : Port × Bool := (s.line.port, s.line.hold)

theorem linePort_congr (line : t.line = s.line) : linePort t = linePort s := by simp [linePort, line]

@[simp] theorem raiseLine_linePort (n : LineNotice) (s : State) : linePort (raiseLine n s) = linePort s := rfl

@[simp] theorem raiseLineIf_linePort (b : Bool) (n : LineNotice) (s : State) :
    linePort (raiseLineIf b n s) = linePort s := by
  cases b <;> rfl

@[simp] theorem enterPhase_linePort (p : Phase) (s : State) : linePort (enterPhase p s) = linePort s :=
  linePort_congr (by simp)

@[simp] theorem enterRun_linePort (s : State) : linePort (enterRun s) = linePort s := linePort_congr (by simp)

@[simp] theorem arbitrate_linePort (s : State) : linePort (arbitrate s) = linePort s := rfl

@[simp] theorem enterResuming_linePort (s : State) : linePort (enterResuming s) = linePort s := linePort_congr (by simp)

@[simp] theorem applyPending_linePort (s : State) : linePort (applyPending s) = linePort s := by
  unfold applyPending
  split
  · rfl
  · split <;> rfl

@[simp] theorem emptyTrack_linePort (cause : AbandonCause) (s : State) : linePort (emptyTrack cause s) = linePort s := by
  rw [emptyTrack_eq, applyPending_linePort]
  unfold linePort
  dsimp only
  unfold raiseLineIf
  split <;> rfl

@[simp] theorem flush_linePort (cause : AbandonCause) (s : State) : linePort (flush cause s) = linePort s :=
  emptyTrack_linePort cause s

@[simp] theorem startDwell_linePort (s : State) : linePort (startDwell s) = linePort s := rfl

@[simp] theorem forZones_linePort {f : Nat → State → State} (each : ∀ z s, (f z s).line = s.line) (s : State) :
    linePort (forZones f s) = linePort s := linePort_congr (forZones_keeps State.line f each s)

@[simp] theorem enterRest_linePort (s : State) : linePort (enterRest s) = linePort s := by
  unfold enterRest
  split
  · simp [enterDwell]
  · unfold enterPark
    rw [raiseLine_linePort, startDwell_linePort, forZones_linePort placePark_line, emptyTrack_linePort,
      enterPhase_linePort]

@[simp] theorem enterBraking_linePort (s : State) : linePort (enterBraking s) = linePort s := by
  unfold enterBraking
  dsimp only
  split <;> simp

@[simp] theorem passClearing_linePort (s : State) : linePort (passClearing s) = linePort s := by
  unfold passClearing
  split <;> simp

@[simp] theorem settle_linePort (s : State) : linePort (settle s) = linePort s := by simp [settle]

@[simp] theorem wakeEvent_linePort (s : State) : linePort (wakeEvent s) = linePort s := by
  unfold wakeEvent
  split
  case h_4 =>
    rw [raiseLine_linePort, arbitrate_linePort, enterResuming_linePort]
    rfl
  all_goals simp

@[simp] theorem changeWake_linePort (f : Controller → Controller) (s : State) :
    linePort (changeWake f s) = linePort s := by
  unfold changeWake
  dsimp only
  split
  · rw [wakeEvent_linePort]
    rfl
  · rfl

@[simp] theorem setWakeFlag_linePort (w : WakeFlag) (s : State) : linePort (setWakeFlag w s) = linePort s := by
  unfold setWakeFlag
  exact changeWake_linePort _ s

@[simp] theorem enterHalt_linePort (s : State) : linePort (enterHalt s) = linePort s := by
  rw [enterHalt_eq, enterPhase_linePort, raiseLine_linePort, linePort_congr (stillZones_line _), flush_linePort]
  rfl

@[simp] theorem haltIfAsserted_linePort (s : State) : linePort (haltIfAsserted s) = linePort s := by
  unfold haltIfAsserted
  split <;> simp

@[simp] theorem takeKnife_linePort (offsets : List Int) (s : State) : linePort (takeKnife offsets s) = linePort s := by
  unfold takeKnife
  split <;> rfl

@[simp] theorem restartWindow_linePort (s : State) : linePort (restartWindow s) = linePort s := rfl

@[simp] theorem setClearPolls_linePort (s : State) : linePort (setClearPolls s) = linePort s := rfl

@[simp] theorem enterSettling_linePort (s : State) : linePort (enterSettling s) = linePort s := by
  simp only [enterSettling, raiseLineIf_linePort]
  rfl

/-! ## The answer of a line request (R174, R180) -/

/-- A line request is answered in its own kind, behind a change that leaves the port and the hold alone, and none
where it is refused. -/
def Answers (c : Instr) (s t : State) : Prop := ∃ k status fields m, t = answerLine k status fields m ∧
  c.kindCode = some k ∧ linePort m = linePort s ∧ (status ≠ .ok → m = s)

theorem Answers.taken {k : Byte} {fields : List Byte} {m : State} (kind : c.kindCode = some k)
    (port : linePort m = linePort s) : Answers c s (answerLine k .ok fields m) :=
  ⟨k, .ok, fields, m, rfl, kind, port, fun refused => absurd rfl refused⟩

theorem Answers.refused {k : Byte} {status : Status} {fields : List Byte} (kind : c.kindCode = some k) :
    Answers c s (answerLine k status fields s) := ⟨k, status, fields, s, rfl, kind, rfl, fun _ => rfl⟩

theorem execBind_answers (hide : Num) (row : Nat) (s : State) : Leads (Answers (.bind hide row) s) (execBind hide row s) := by
  unfold execBind
  split
  · exact .refused rfl
  · split
    · exact .refused rfl
    · split
      · exact .taken rfl (linePort_congr (by simp [takeBind]))
      · exact .taken rfl (linePort_congr (by simp [takeBind]))
      all_goals exact .refused rfl

theorem execZoneMode_answers (zone : Nat) (code : Byte) (s : State) :
    Leads (Answers (.zoneMode zone code) s) (execZoneMode zone code s) := by
  unfold execZoneMode
  split
  · exact .refused rfl
  · split
    · exact .refused rfl
    case h_2 mode _ =>
      split
      · exact .refused rfl
      · split
        · exact .refused rfl
        · refine .taken rfl (linePort_congr ?_)
          rw [takeMode_eq]
          simp [flagInfluence, slotForMode]
          split <;> simp

theorem execRest_answers (code : Byte) (s : State) : Leads (Answers (.rest code) s) (execRest code s) := by
  unfold execRest
  split
  · exact .refused rfl
  case h_2 target _ =>
    split
    · split
      · exact .refused rfl
      · refine .taken rfl ?_
        unfold takeRest
        cases target with
        | dwell => simp only [arbitrate_linePort, enterBraking_linePort]; rfl
        | park => simp only [arbitrate_linePort, enterClearing, passClearing_linePort, enterPhase_linePort]; rfl
    · exact .refused rfl

theorem execSetScale_answers (v : Nat) (s : State) : Leads (Answers (.setScale v) s) (execSetScale v s) := by
  unfold execSetScale
  split
  · exact .refused rfl
  · split
    · refine .taken rfl ?_
      unfold takeScale
      rw [settle_linePort, restartWindow_linePort, flush_linePort, enterSettling_linePort]
      rfl
    · exact .refused rfl

theorem execAbandon_answers (hide : Num) (s : State) : Leads (Answers (.abandon hide) s) (execAbandon hide s) := by
  unfold execAbandon
  split
  · exact .refused rfl
  · split
    · refine .taken rfl ?_
      rw [takeAbandon_eq, settle_linePort, applyPending_linePort]
      rfl
    · exact .refused rfl

/-- Every line request but RESET is answered. -/
theorem exec_answers (isRequest : isLineRequest c = true) (notReset : c ≠ .reset) (s : State) :
    Leads (Answers c s) (exec c s) := by
  cases c with
  | reset => exact absurd rfl notReset
  | start =>
    simp only [exec, execStart]
    split
    · exact .refused rfl
    · split
      · exact .taken rfl (by simp)
      · exact .refused rfl
  | rest code => exact execRest_answers code s
  | wake => exact .taken rfl (setWakeFlag_linePort .line s)
  | clear =>
    simp only [exec, execClear]
    split
    · refine .taken rfl ?_
      unfold leaveHalt
      rw [arbitrate_linePort, setClearPolls_linePort, enterPhase_linePort]
    · exact .refused rfl
  | clearWake flags => exact .taken rfl rfl
  | wakeEnable enables => exact .taken rfl (changeWake_linePort _ s)
  | bind hide row => exact execBind_answers hide row s
  | abandon hide => exact execAbandon_answers hide s
  | release hide =>
    simp only [exec, execRelease]
    split
    · exact .refused rfl
    · split
      · exact .refused rfl
      · exact .taken rfl rfl
  | readHide hide =>
    simp only [exec, execReadHide]
    split
    · exact .refused rfl
    · exact .taken rfl rfl
  | readReport =>
    simp only [exec, execReadReport]
    split
    · exact .refused rfl
    · exact .taken rfl rfl
  | readTrack place count =>
    simp only [exec, execReadTrack]
    split
    · exact .taken rfl rfl
    · exact .refused rfl
  | zoneMove zone target =>
    simp only [exec, execZoneMove, refuseMove]
    split
    · exact .refused rfl
    · split
      · exact .refused rfl
      · split
        · exact .taken rfl (linePort_congr (by simp [takeMove]))
        · exact .refused rfl
  | zoneMode zone code => exact execZoneMode_answers zone code s
  | zoneReset zone =>
    simp only [exec, execZoneReset]
    split
    · exact .refused rfl
    · split
      · exact .taken rfl rfl
      · exact .refused rfl
  | readZones => exact .taken rfl rfl
  | writeArticle row a =>
    simp only [exec, execWriteArticle]
    split
    · exact .taken rfl rfl
    · exact .refused rfl
  | selectArticle row =>
    simp only [exec, execSelectArticle]
    split
    · exact .refused rfl
    · exact .taken rfl rfl
  | readArticle row =>
    simp only [exec, execReadArticle]
    split
    · exact .refused rfl
    · exact .taken rfl rfl
  | writeKnife offsets =>
    simp only [exec, execWriteKnife]
    split
    · exact .refused rfl
    · exact .taken rfl (takeKnife_linePort offsets s)
  | setGeometry g =>
    simp only [exec, execSetGeometry]
    split
    · exact .refused rfl
    · split
      · split
        · exact .taken rfl rfl
        · exact .refused rfl
      · exact .refused rfl
  | setScale v => exact execSetScale_answers v s
  | lockGeometry => exact .taken rfl rfl
  | setSpeed period duty =>
    simp only [exec, execSetSpeed]
    split
    · exact .taken rfl rfl
    · exact .refused rfl
  | setTrim trim => exact .taken rfl rfl
  | setDwell time =>
    simp only [exec, execSetDwell]
    split
    · exact .taken rfl rfl
    · exact .refused rfl
  | readSettings => exact .taken rfl rfl
  | readStatus => exact .taken rfl rfl
  | readCounters => exact .taken rfl rfl
  | clearNotices named mask => exact .taken rfl rfl
  | _ => exact absurd isRequest Bool.false_ne_true

theorem answerLine_eq (k : Byte) (status : Status) (fields : List Byte) (s : State) : answerLine k status fields s =
    { s with line := { s.line with port := { s.line.port with
      rx := s.line.port.rx.map fun f => { f with acted := true }
      answer := if s.line.hold then s.line.port.answer
        else some { kind := k, status := status, fields := fields } } } } := by
  unfold answerLine
  cases s.line.hold <;> rfl

/-- RESET is answered like any other request (R185). -/
theorem reset_answered (free : s.line.hold = false) (next : exec .reset s = .next t) :
    ∃ r : Response, t.line.port.answer = some r ∧ r.kind = 0x3E ∧ r.status = .ok := by
  obtain rfl : answerReset (haltIfAsserted (resetBlocks s)) = t := Host.Outcome.next.inj next
  have port : linePort (haltIfAsserted (resetBlocks s)) = linePort (resetBlocks s) := haltIfAsserted_linePort _
  have hold : (haltIfAsserted (resetBlocks s)).line.hold = false := (congrArg Prod.snd port).trans free
  unfold answerReset
  rw [hold]
  exact ⟨_, rfl, rfl, rfl⟩

/-- Settles O23: `exec_answers` puts every line request but RESET behind one `answerLine`. -/
theorem refusedLineRequestsChangeNothing : Obligations.RefusedLineRequestsChangeNothing := by
  refine ⟨fun k status fields s => ⟨rfl, answerLine_eq k status fields s⟩, ?_, ?_⟩
  · intro c s t isRequest notReset held next
    obtain ⟨k, status, fields, m, rfl, _, port, _⟩ := (exec_answers isRequest notReset s).of_next next
    obtain ⟨samePort, sameHold⟩ := Prod.mk.inj port
    rw [answerLine_eq, sameHold, held, ← samePort]
    rfl
  · intro c s t isRequest free next
    by_cases isReset : c = .reset
    · subst isReset
      obtain ⟨r, answer, kind, status⟩ := reset_answered free next
      exact ⟨r, answer, by rw [kind]; rfl, fun refused => absurd status refused⟩
    · obtain ⟨k, status, fields, m, rfl, kind, port, refused⟩ := (exec_answers isRequest isReset s).of_next next
      obtain ⟨samePort, sameHold⟩ := Prod.mk.inj port
      refine ⟨{ kind := k, status := status, fields := fields }, ?_, kind, fun notOk => ?_⟩
      · rw [answerLine_eq, sameHold, free]
        rfl
      · obtain rfl := refused notOk
        unfold answerLine
        rw [free]
        rfl

end Sys2Proof.Machine

/-! PROOFS. The requests of the setting store: what they write and what refuses them (O59, O60's checks). -/

namespace Sys2Proof.Machine

variable {s t u : State} {c : Instr}

/-! ## The items of the setting requests -/

/-- Of checks numbered in rising order, the first that fails is the one behind passes alone. -/
theorem firstFailing_eq {checks : List (Nat × Bool)} {n : Nat} (rising : (checks.map Prod.fst).Pairwise (· < ·))
    (fails : (n, false) ∈ checks) (before : ∀ m b, (m, b) ∈ checks → m < n → b = true) :
    firstFailing checks = n := by
  induction checks with
  | nil => simp at fails
  | cons x rest ih =>
    obtain ⟨m, b⟩ := x
    obtain ⟨least, rest_rising⟩ := List.pairwise_cons.mp (show ((m :: rest.map Prod.fst).Pairwise _) from rising)
    rcases List.mem_cons.mp fails with here | later
    · obtain ⟨rfl, rfl⟩ := Prod.mk.inj here
      rfl
    · have below : m < n := least n (List.mem_map_of_mem (f := Prod.fst) later)
      rw [firstFailing, if_pos (before m b (.head _) below)]
      exact ih rest_rising later fun k d held => before k d (.tail _ held)

theorem articleChecks_numbers (row : Nat) (a : Article) :
    (articleChecks row a).map Prod.fst = List.range' 1 20 := rfl

theorem geometryChecks_numbers (g : Geometry) : (geometryChecks g).map Prod.fst = List.range' 1 18 := rfl

/-- Each check of WRITE_ARTICLE is the item of its number (R157). -/
theorem articleChecks_iff (row : Nat) (a : Article) :
    ∀ x ∈ articleChecks row a, x.2 = true ↔ ArticleItemMet row a x.1 := by
  simp [articleChecks, ArticleItemMet, inRange]

/-- Each check of SET_GEOMETRY is the item of its number (R162, R163). -/
theorem geometryChecks_iff (g : Geometry) :
    ∀ x ∈ geometryChecks g, x.2 = true ↔ GeometryItemMet g x.1 := by
  simp [geometryChecks, GeometryItemMet, inRange]

theorem articleItem_listed {row n : Nat} {a : Article} (unmet : ¬ ArticleItemMet row a n) : 1 ≤ n ∧ n ≤ 20 := by
  unfold ArticleItemMet at unmet
  split at unmet <;> simp_all

theorem geometryItem_listed {n : Nat} {g : Geometry} (unmet : ¬ GeometryItemMet g n) : 1 ≤ n ∧ n ≤ 18 := by
  unfold GeometryItemMet at unmet
  split at unmet <;> simp_all

/-- The first failing check is the item that is not met behind items that are. -/
theorem firstFailing_eq_item {checks : List (Nat × Bool)} {met : Nat → Prop} {k n : Nat}
    (numbers : checks.map Prod.fst = List.range' 1 k) (iff : ∀ x ∈ checks, x.2 = true ↔ met x.1)
    (listed : 1 ≤ n ∧ n ≤ k) (unmet : ¬ met n) (before : ∀ m, m < n → met m) :
    firstFailing checks = n := by
  have named : n ∈ checks.map Prod.fst := by
    rw [numbers, List.mem_range'_1]
    omega
  obtain ⟨⟨m, b⟩, held, rfl⟩ := List.mem_map.mp named
  have fails : b = false := by
    have := iff _ held
    simpa [unmet] using this
  refine firstFailing_eq ?_ (fails ▸ held) fun m d check below => (iff _ check).mpr (before m below)
  rw [numbers]
  exact List.pairwise_lt_range'

theorem articleItem_eq {row n : Nat} {a : Article} (unmet : ¬ ArticleItemMet row a n)
    (before : ∀ m, m < n → ArticleItemMet row a m) : articleItem row a = n :=
  firstFailing_eq_item (articleChecks_numbers row a) (articleChecks_iff row a) (articleItem_listed unmet) unmet
    before

theorem geometryItem_eq {n : Nat} {g : Geometry} (unmet : ¬ GeometryItemMet g n)
    (before : ∀ m, m < n → GeometryItemMet g m) : geometryItem g = n :=
  firstFailing_eq_item (geometryChecks_numbers g) (geometryChecks_iff g) (geometryItem_listed unmet) unmet before

theorem articleItem_of_met {row : Nat} {a : Article} (met : ∀ n, ArticleItemMet row a n) :
    articleItem row a = 0 :=
  (firstFailing_eq_zero_iff (by simp [articleChecks])).mpr fun x held => (articleChecks_iff row a x held).mpr (met _)

theorem geometryItem_of_met {g : Geometry} (met : ∀ n, GeometryItemMet g n) : geometryItem g = 0 :=
  (firstFailing_eq_zero_iff (by simp [geometryChecks])).mpr fun x held =>
    (geometryChecks_iff g x held).mpr (met _)

/-! ## The knife profile's offsets -/

theorem sixteen_of_length {k : List Int} (length : k.length = 16) : sixteen k = k := by
  refine List.ext_getElem (by simp [sixteen, Config.zones, length]) fun i small large => ?_
  simp [sixteen, List.getD_eq_getElem?_getD, large]

theorem knifeFailing_of_ok {k : List Int} (ok : OffsetsOk k) : knifeFailing k = none := by
  obtain ⟨length, range⟩ := ok
  simp only [knifeFailing, List.find?_eq_none, List.mem_range, Config.zones]
  intro z small
  have held := range k[z] (List.getElem_mem (by omega))
  simp [inRange, List.getD_eq_getElem?_getD, show z < k.length by omega, held]

theorem knifeFailing_eq {k : List Int} {z : Nat} (small : z < 16) (out : k.getD z 0 < -100 ∨ 100 < k.getD z 0)
    (before : ∀ y, y < z → -100 ≤ k.getD y 0 ∧ k.getD y 0 ≤ 100) : knifeFailing k = some z := by
  simp only [knifeFailing, List.find?_range_eq_some, Config.zones, List.mem_range, inRange]
  rw [List.getD_eq_getElem?_getD] at out
  refine ⟨by simp; omega, small, fun y below => ?_⟩
  simpa using before y below

/-! ## The requests -/

/-- Settles O59: each request's own arm, the checks through their items. -/
theorem settingWritesStoreTheirValues : Obligations.SettingWritesStoreTheirValues := by
  intro s
  refine ⟨?article, ?articleRefused, ?select, ?selectRefused, ?knife, ?knifeRefused, rfl, ?speed, ?speedRefused,
    fun _ => rfl, ?dwell, rfl, fun _ => rfl, ?notices⟩
  case article =>
    intro row a met
    simp [exec, execWriteArticle, articleItem_of_met met, putArticle, updAt_const]
  case articleRefused =>
    intro row a n unmet before
    have item := articleItem_eq unmet before
    have listed := articleItem_listed unmet
    simp [exec, execWriteArticle, item, show n ≠ 0 by omega]
  case select =>
    intro row small
    simp [exec, execSelectArticle, show ¬ 31 < row by omega]
  case selectRefused =>
    intro row large
    simp [exec, execSelectArticle, large]
  case knife =>
    intro k ok
    constructor <;> intro converting <;>
      simp [exec, execWriteKnife, knifeFailing_of_ok ok, knifeWrite, takeKnife, converting,
        sixteen_of_length ok.1, applyKnife, raiseLine]
  case knifeRefused =>
    intro k z small _ out before
    simp [exec, execWriteKnife, knifeFailing_eq small out before]
  case speed =>
    intro period duty low high
    simp [exec, execSetSpeed, low, high, speedFields, Feed.effective, effectiveCount]
  case speedRefused =>
    intro period duty out
    simp [exec, execSetSpeed, show ¬ (99 ≤ period ∧ period ≤ 4095) by omega, speedFields, Feed.effective,
      effectiveCount, flagByte]
  case dwell =>
    intro time low high
    simp [exec, execSetDwell, low, high]
  case notices =>
    intro named mask
    cases mask <;> rfl

end Sys2Proof.Machine

/-! PROOFS. What an emptying, the entry to HALT and the resets leave, value by value (O24, O25, O41). -/

namespace Sys2Proof.Machine

variable {s t u : State} {c : Instr}

/-! ## Raised bits -/

theorem raised_bit {w : Nat} (x b : BitVec w) : (x ||| b) &&& b = b := by
  ext i small
  cases h : b[i] <;> simp [h]

theorem raised_apart {w : Nat} {b m : BitVec w} (apart : b &&& m = 0) (x : BitVec w) :
    (x ||| b) &&& m = x &&& m := by
  ext i small
  have here : (b[i] && m[i]) = false := by
    rw [← BitVec.getElem_and]
    simp [apart]
  rw [BitVec.getElem_and, BitVec.getElem_or, BitVec.getElem_and, Bool.and_or_distrib_right, here, Bool.or_false]

theorem raised_before {w : Nat} {x m : BitVec w} (b : BitVec w) (before : x &&& m = m) : (x ||| b) &&& m = m := by
  ext i small
  have here : (x[i] && m[i]) = m[i] := by rw [← BitVec.getElem_and, before]
  cases h : m[i] <;> simp_all

/-- The bit of a notice, where it is raised. -/
def noticeIf (raised : Bool) (n : LineNotice) : BitVec 18 := if raised then n.bit else 0

@[simp] theorem noticeIf_true (n : LineNotice) : noticeIf true n = n.bit := rfl

@[simp] theorem noticeIf_false (n : LineNotice) : noticeIf false n = 0 := rfl

@[simp] theorem raiseLineIf_notices (raised : Bool) (n : LineNotice) (s : State) :
    (raiseLineIf raised n s).line.notices = s.line.notices ||| noticeIf raised n := by
  cases raised <;> simp [raiseLineIf]

theorem raiseLineIf_eq (raised : Bool) (n : LineNotice) (s : State) : raiseLineIf raised n s =
    { s with line := { s.line with notices := s.line.notices ||| noticeIf raised n } } := by
  cases raised <;> simp [raiseLineIf, raiseLine]

theorem noticeIf_apart {n m : LineNotice} (apart : n.bit &&& m.bit = 0) (raised : Bool) :
    noticeIf raised n &&& m.bit = 0 := by
  cases raised <;> simp [apart]

/-! ## Emptying (R80, R81) -/

theorem sortByFirst_isEmpty (s : State) :
    (!(sortByFirst (s.hides.records.filter fun r => r.state.unfinished)).isEmpty) = anyUnfinished s := by
  rw [(sortByFirst_perm _).isEmpty_eq, anyUnfinished, Bool.eq_iff_iff]
  simp

theorem abandonedTable_converting (cause : AbandonCause) (s : State) (table : s.hides = abandonedTable cause u.hides) :
    anyConverting s = false := by
  have finished := abandonedTable_unfinished cause u.hides
  rw [anyConverting, table]
  rw [List.any_eq_false] at finished ⊢
  intro r held converting
  refine finished r held ?_
  revert converting
  cases r.state <;> simp [HideState.converting, HideState.unfinished]

/-- An emptying, block by block. -/
theorem emptyTrack_values (cause : AbandonCause) (s : State) : emptyTrack cause s = { s with
    intake := { s.intake with list := [] }
    hides := abandonedTable cause s.hides
    track := { emptiedTrack s.track with pendingKnife := none }
    zones := s.zones.map (Channel.detach fun _ => true)
    link := s.link.detach fun _ => true
    settings := { s.settings with knife := s.track.pendingKnife.getD s.settings.knife }
    line := { s.line with
      notices := s.line.notices ||| noticeIf (anyUnfinished s) .hideAbandoned |||
        noticeIf s.track.pendingKnife.isSome .knifeApplied } } := by
  rw [emptyTrack_eq, sortByFirst_isEmpty, raiseLineIf_eq]
  unfold applyPending
  cases pending : s.track.pendingKnife with
  | none => simp [emptiedTrack, detach, pending]
  | some k =>
    simp only [emptiedTrack, detach, pending]
    rw [abandonedTable_converting cause _ (u := s) rfl]
    simp [applyKnife, raiseLine]

/-- A flush empties the capture slot too. -/
theorem flush_values (cause : AbandonCause) (s : State) : flush cause s =
    { emptyTrack cause s with feed := { s.feed with capture := none, overwrite := false } } := by
  unfold flush
  dsimp only
  rw [emptyTrack_feed]

theorem emptiedBy_of_hides {cause : AbandonCause} (hides : t.hides = abandonedTable cause s.hides) :
    EmptiedBy cause s t := by
  rw [EmptiedBy, hides]
  exact List.map_congr_left fun r _ => r.emptied_eq cause

theorem anyUnfinished_of_hides {cause : AbandonCause} (hides : t.hides = abandonedTable cause s.hides) :
    anyUnfinished t = false := by
  rw [anyUnfinished, hides]
  exact abandonedTable_unfinished cause s.hides

theorem abandonedJoined_of_hides {cause : AbandonCause} (hides : t.hides = abandonedTable cause s.hides)
    (notices : t.line.notices &&& LineNotice.hideAbandoned.bit =
      (s.line.notices ||| noticeIf (anyUnfinished s) .hideAbandoned) &&& LineNotice.hideAbandoned.bit) :
    AbandonedJoined s t := by
  refine ⟨⟨_, sortByFirst_perm _, sortByFirst_isChain _, by rw [hides]; rfl⟩, by rw [hides]; rfl, ?_⟩
  rw [notices]
  cases anyUnfinished s <;> simp [raised_bit]

/-! ## Stilling (R123) -/

theorem report_track_empty (empty : s.track.slices = []) (r : Option Target) (z : Nat) (p : Progress) :
    (report r z p s).track = s.track := by
  unfold report
  split
  · simp only [reportSlice, empty, List.map_nil]
    rw [← empty]
  · rfl

theorem stillZone_track_empty (empty : s.track.slices = []) (z : Nat) : (stillZone z s).track = s.track := by
  simp [stillZone, discardSlot, endFlight, report_track_empty, empty]

theorem slotChanged_idle {l : Link} (idle : l.txn = none) (z : Nat) : l.slotChanged z = l := by
  obtain ⟨last, txn, abandoned⟩ := l
  obtain rfl : txn = none := idle
  rfl

theorem stillZone_link (z : Nat) (s : State) : (stillZone z s).link = s.link.slotChanged z := by
  simp [stillZone, discardSlot, setSlot]

theorem stillZones_track_empty (empty : s.track.slices = []) : (stillZones s).track = s.track := by
  suffices (forZones stillZone s).track = s.track by
    unfold stillZones
    generalize forZones stillZone s = t at *
    exact this
  refine forZones_related (R := fun a b => a.track.slices = [] → b.track = a.track) (fun _ _ => rfl) ?_ ?_ s empty
  · exact fun first second none => (second (first none ▸ none)).trans (first none)
  · exact fun z a none => stillZone_track_empty none z

theorem stillZones_link_idle (idle : s.link.txn = none) : (stillZones s).link = s.link := by
  have kept : (forZones stillZone s).link = s.link := by
    refine forZones_related (R := fun a b => a.link.txn = none → b.link = a.link) (fun _ _ => rfl) ?_ ?_ s idle
    · exact fun first second none => (second (first none ▸ none)).trans (first none)
    · exact fun z a none => (stillZone_link z a).trans (slotChanged_idle none z)
  unfold stillZones
  generalize forZones stillZone s = t at kept
  dsimp only
  rw [kept, idle, Option.map_none, ← idle]

theorem channel_stilled (sixteen : s.zones.length = 16) {z : Nat} (small : z < 16) :
    channel (stillZones s) z = { channel s z with
      position := none, slot := none, flight := none, entryMark := false, clearPoll := false } := by
  rw [channel_congr (stillZones_zones s), channel_stillZones, if_pos ⟨small, sixteen ▸ small⟩]

/-! ## The entry to HALT (R150) -/

/-- What the entry to HALT stills. -/
theorem enterHalt_values (s : State) : enterHalt s =
    quieted .halt (raiseLine .halt (stillZones (flush .halt (stopDwell s)))) := by
  rw [enterHalt_eq, enterPhase_quiet rfl]

@[simp] theorem quieted_notices (p : Phase) (s : State) : (quieted p s).line = s.line := rfl

@[simp] theorem enterHalt_hides (s : State) : (enterHalt s).hides = abandonedTable .halt s.hides := by
  simp [enterHalt_values, quieted]

@[simp] theorem enterHalt_intake (s : State) : (enterHalt s).intake = { s.intake with list := [] } := by
  simp [enterHalt_values, quieted, flush_values, emptyTrack_values]

@[simp] theorem enterHalt_track (s : State) :
    (enterHalt s).track = { emptiedTrack s.track with pendingKnife := none } := by
  rw [enterHalt_values]
  simp only [quieted, raiseLine_track]
  rw [stillZones_track_empty (by simp)]
  simp [flush_values, emptyTrack_values]

@[simp] theorem enterHalt_feed (s : State) : (enterHalt s).feed = { s.feed with
    capture := none, overwrite := false, ref := { s.feed.ref with high := false, gated := true } } := by
  simp [enterHalt_values, quieted, flush_values]

@[simp] theorem enterHalt_settings (s : State) : (enterHalt s).settings =
    { s.settings with knife := s.track.pendingKnife.getD s.settings.knife } := by
  simp [enterHalt_values, quieted, flush_values, emptyTrack_values]

@[simp] theorem enterHalt_ctl (s : State) : (enterHalt s).ctl = { s.ctl with
    phase := .halt, feedStop := true, dwell := (stopDwell s).ctl.dwell } := by
  simp [enterHalt_values, quieted, flush_values, emptyTrack_values]
  exact ⟨rfl, rfl, rfl⟩

@[simp] theorem enterHalt_line (s : State) : (enterHalt s).line = { s.line with
    notices := s.line.notices ||| noticeIf (anyUnfinished s) .hideAbandoned |||
      noticeIf s.track.pendingKnife.isSome .knifeApplied ||| LineNotice.halt.bit } := by
  simp [enterHalt_values, raiseLine, flush_values, emptyTrack_values]
  rfl

theorem enterHalt_link_idle (idle : s.link.txn = none) : (enterHalt s).link = s.link := by
  have kept : (flush .halt (stopDwell s)).link = s.link := by
    simp [flush_values, emptyTrack_values, Link.detach, idle]
    rw [← idle]
  rw [enterHalt_values]
  simp only [quieted, raiseLine_link]
  rw [stillZones_link_idle (kept ▸ idle), kept]

theorem enterHalt_count (s : State) : (enterHalt s).zones.length = s.zones.length := by
  rw [enterHalt_values]
  simp only [quieted, raiseLine_zones]
  rw [stillZones_zones, forZones_count stillZone_count]
  simp [flush_values, emptyTrack_values]

theorem Channel.detach_initial (leaving : SliceRef → Bool) (m : ZoneMode) :
    (Channel.initial m).detach leaving = Channel.initial m := rfl

theorem channel_detached {leaving : SliceRef → Bool} (zones : t.zones = s.zones.map (Channel.detach leaving)) (z : Nat) :
    channel t z = (channel s z).detach leaving := by
  unfold channel
  rw [zones]
  conv_lhs => rw [← Channel.detach_initial leaving]
  exact List.getD_map _ _ _

theorem channel_enterHalt (sixteen : s.zones.length = 16) {z : Nat} (small : z < 16) :
    channel (enterHalt s) z = { channel s z with
      position := none, slot := none, flight := none, entryMark := false, clearPoll := false } := by
  have detached : (flush .halt (stopDwell s)).zones = s.zones.map (Channel.detach fun _ => true) := by
    simp [flush_values, emptyTrack_values]
  have count : (flush .halt (stopDwell s)).zones.length = 16 := by simp [detached, sixteen]
  have stilled : channel (enterHalt s) z = channel (stillZones (flush .halt (stopDwell s))) z := by
    rw [enterHalt_values]
    exact channel_congr (by simp only [quieted, raiseLine_zones]) z
  rw [stilled, channel_stilled count small, channel_detached detached]
  rfl

theorem enterHalt_halting (s : State) : ∀ x ∈ (enterHalt s).link.txn, x.overHalt = true := by
  rw [enterHalt_values]
  simp only [quieted, raiseLine_link]
  exact stillZones_halting _

end Sys2Proof.Machine

/-! PROOFS. The resets and the HALT input (O24, O25, O41). -/

namespace Sys2Proof.Machine

variable {s t u : State} {c : Instr}

/-! ## States block by block -/

theorem state_ext (pending : t.pending = s.pending) (now : t.now = s.now) (pins : t.pins = s.pins)
    (feed : t.feed = s.feed) (intake : t.intake = s.intake) (hides : t.hides = s.hides) (track : t.track = s.track)
    (zones : t.zones = s.zones) (link : t.link = s.link) (ctl : t.ctl = s.ctl) (settings : t.settings = s.settings)
    (line : t.line = s.line) : t = s := by
  cases s
  cases t
  simp_all

theorem zones_ext (count : t.zones.length = s.zones.length)
    (each : ∀ z, z < s.zones.length → channel t z = channel s z) : t.zones = s.zones := by
  refine List.ext_getElem count fun z small large => ?_
  have here := each z large
  simpa [channel, List.getD_eq_getElem?_getD, small, large] using here

theorem channel_initialZones {active : Nat} {strap : StrapMode} (zones : s.zones = initialZones active strap)
    {z : Nat} (small : z < 16) : channel s z = Channel.initial (ZoneMode.initial active strap z) := by
  simp [channel, zones, initialZones, List.getD_eq_getElem?_getD, Config.zones, small]

/-! ## HALT right after a reset (R154) -/

/-- What HALT's input finds right after a reset: no work in flight. -/
structure Fresh (s : State) : Prop where
  list : s.intake.list = []
  hides : s.hides = HideTable.initial
  track : s.track = Track.initial
  link : s.link.txn = none
  ctl : ∃ active strap, s.ctl = Controller.initial active strap ∧ s.zones = initialZones active strap
  capture : s.feed.capture = none ∧ s.feed.overwrite = false
  gated : s.feed.ref.high = false ∧ s.feed.ref.gated = true

theorem fresh_powerOn (pins : PinLevels) (pending : List Instr) :
    Fresh { State.powerOn pins with pending := pending } :=
  ⟨rfl, rfl, rfl, rfl, ⟨_, _, rfl, rfl⟩, ⟨rfl, rfl⟩, ⟨rfl, rfl⟩⟩

theorem fresh_resetBlocks (s : State) : Fresh (resetBlocks s) :=
  ⟨rfl, rfl, rfl, rfl, ⟨_, _, rfl, rfl⟩, ⟨rfl, rfl⟩, ⟨rfl, rfl⟩⟩

/-- The changes of an entry to HALT find nothing in a feed unit at rest. -/
theorem quiet_feed {f : Feed} (capture : f.capture = none) (overwrite : f.overwrite = false)
    (high : f.ref.high = false) (gated : f.ref.gated = true) :
    { f with capture := none, overwrite := false, ref := { f.ref with high := false, gated := true } } = f := by
  obtain ⟨_, _, _, _, _, _, _, _, _, _, _, _, _, _, _, ⟨_, _, _, _, _⟩, _, _, _, _⟩ := f
  simp_all

theorem Fresh.enterHalt_zones (fresh : Fresh s) : (enterHalt s).zones = s.zones := by
  obtain ⟨active, strap, _, zones⟩ := fresh.ctl
  have count : s.zones.length = 16 := by simp [zones, initialZones, Config.zones]
  refine zones_ext (enterHalt_count s) fun z small => ?_
  rw [channel_enterHalt count (count ▸ small), channel_initialZones zones (count ▸ small)]
  rfl

/-- The entry to HALT right after a reset sets the machine state and the notice alone. -/
theorem Fresh.enterHalt (fresh : Fresh s) : enterHalt s = { s with
    ctl := { s.ctl with phase := .halt }
    line := { s.line with notices := s.line.notices ||| LineNotice.halt.bit } } := by
  have zones := fresh.enterHalt_zones
  obtain ⟨list, hides, track, link, ⟨active, strap, ctl, _⟩, ⟨capture, overwrite⟩, high, gated⟩ := fresh
  have unfinished : anyUnfinished s = false := by
    rw [anyUnfinished, hides]
    rfl
  refine state_ext (by simp) (by simp) (by simp) ?feed ?intake ?hides ?track zones (enterHalt_link_idle link) ?ctl
    ?settings ?line
  case feed =>
    rw [enterHalt_feed]
    exact quiet_feed capture overwrite high gated
  case intake =>
    rw [enterHalt_intake]
    dsimp only
    rw [← list]
  case hides =>
    rw [enterHalt_hides, hides]
    rfl
  case track =>
    rw [enterHalt_track, track]
    rfl
  case ctl =>
    rw [enterHalt_ctl, stopDwell]
    simp [dwellRemaining, ctl, Controller.initial]
  case settings => simp [track, Track.initial]
  case line => simp [track, Track.initial, unfinished]

theorem Fresh.haltIfAsserted (fresh : Fresh s) : haltIfAsserted s = { s with
    ctl := { s.ctl with phase := if s.pins.halt then .halt else .standby }
    line := { s.line with notices := s.line.notices ||| noticeIf s.pins.halt .halt } } := by
  obtain ⟨active, strap, ctl, _⟩ := fresh.ctl
  have standby : s.ctl.phase = .standby := by
    rw [ctl]
    rfl
  unfold Machine.haltIfAsserted
  cases asserted : s.pins.halt with
  | true => simp [standby, fresh.enterHalt]
  | false => simp [← standby]

/-! ## The resets (R154, R185) -/

/-- The state that a power-on reset leaves. -/
theorem exec_powerOnReset_eq (pins : PinLevels) (s : State) : exec (.powerOnReset pins) s =
    .next { State.powerOn pins with
      pending := s.pending
      ctl := { (State.powerOn pins).ctl with phase := if pins.halt then .halt else .standby }
      line := { LinePort.initial with notices := noticeIf pins.halt .halt } } := by
  simp only [exec, execPowerOnReset, (fresh_powerOn pins s.pending).haltIfAsserted]
  simp [State.powerOn, LinePort.initial]
  rfl

/-- Settles O24: HALT right after a reset changes the machine state and its notice alone. -/
theorem powerOnResetLeavesThePowerOnValues : Obligations.PowerOnResetLeavesThePowerOnValues := by
  intro pins s
  refine ⟨_, exec_powerOnReset_eq pins s, rfl, rfl, ?feed, rfl, rfl, rfl, rfl, rfl, ?zones, ?ctl, rfl, rfl, rfl, rfl,
    rfl, rfl, rfl⟩
  case feed => exact ⟨rfl, rfl, rfl, rfl, rfl, rfl, rfl, rfl, rfl, rfl, rfl, rfl, rfl, rfl, rfl, rfl, rfl, rfl, rfl, rfl⟩
  case zones =>
    intro z small
    rw [channel_initialZones (active := if pins.mode0 then 16 else 12)
      (strap := if pins.mode1 then .fixed else .profile) rfl small]
    cases pins.mode1 <;> rfl
  case ctl => exact ⟨rfl, rfl, rfl, rfl, rfl, rfl, rfl, rfl, rfl⟩

/-- The state that a RESET leaves. -/
theorem exec_reset_eq (s : State) : exec .reset s = .next (answerReset { resetBlocks s with
    ctl := { Controller.initial s.ctl.activeZones s.ctl.strap with
      phase := if s.pins.halt then .halt else .standby }
    line := { s.line.afterReset with notices := noticeIf s.pins.halt .halt } }) := by
  simp only [exec, execReset, (fresh_resetBlocks s).haltIfAsserted]
  simp [resetBlocks, LinePort.afterReset, LinePort.initial]
  rfl

/-- Settles O25: the blocks at their RESET values, HALT's own changes and the response. -/
theorem resetReturnsTheBlocksAndKeepsTheSettings : Obligations.ResetReturnsTheBlocksAndKeepsTheSettings := by
  intro s
  refine ⟨_, exec_reset_eq s, rfl, rfl, rfl, ?settings, rfl, ?sync, ?intake, rfl, rfl, by rfl, ?zones, rfl, rfl, ?line⟩
  case settings =>
    simp only [answerReset, resetBlocks, Settings.afterReset]
    cases s.track.pendingKnife <;> rfl
  case sync => simp [syncOutput, answerReset, resetBlocks]
  case intake =>
    simp only [answerReset, resetBlocks, Intake.initial, Port.resetGauge]
    cases rx : s.intake.port.rx with
    | none => simp [Port.emptyTx, rx]
    | some f => cases acted : f.acted <;> simp [Port.emptyTx, acted, rx]
  case zones =>
    intro z small
    rw [channel_initialZones (active := s.ctl.activeZones) (strap := s.ctl.strap) rfl small]
    cases s.ctl.strap <;> rfl
  case line =>
    simp only [answerReset, LinePort.afterReset, LinePort.initial, Port.answerWith, Port.acted, Port.emptyTx]
    rcases Bool.eq_false_or_eq_true s.line.hold with held | held <;> simp [held] <;> exact ⟨⟨rfl, rfl⟩, rfl⟩

/-! ## The HALT input (R150, R151) -/

theorem applyGate_of_closed (closed : gateClosed s = true) : applyGate s = { s with
    feed := { s.feed with ref := { s.feed.ref with high := false, gated := true } } } := by
  simp [applyGate, closed]

/-- Settles O41: what the entry to HALT leaves, block by block. -/
theorem haltClearsOutTheWorkInFlight : Obligations.HaltClearsOutTheWorkInFlight := by
  intro s sixteen
  have gated : gateClosed { s with pins := { s.pins with halt := true } } = true := rfl
  refine ⟨?entry, ?inHalt, ?released⟩
  case entry =>
    intro other
    let u : State := { s with
      pins := { s.pins with halt := true }
      feed := { s.feed with ref := { s.feed.ref with high := false, gated := true } } }
    have runs : exec .haltAsserted s = .next (enterHalt u) := by
      simp only [exec, execHaltAsserted, applyGate_of_closed gated, haltIfAsserted]
      simp [other, u]
    refine ⟨_, runs, ?_⟩
    have hides : (enterHalt u).hides = abandonedTable .halt s.hides := enterHalt_hides u
    refine ⟨by simp [u], by simp, by simp, by simp, by simp, by simp [stopDwell], by simp [u], by simp [u], by simp [u],
      by simp [u], by simp [u], by simp [u], by simp [u], by simp, by simp, by simp [emptiedTrack], by simp,
      emptiedBy_of_hides hides, anyUnfinished_of_hides hides, abandonedJoined_of_hides hides ?_, ?_,
      enterHalt_halting u, ?_⟩
    · rw [enterHalt_line]
      dsimp only
      rw [raised_apart (by decide), raised_apart (noticeIf_apart (by decide) _)]
      rfl
    · exact fun z small => channel_enterHalt (s := u) sixteen small
    · rw [enterHalt_line]
      exact raised_bit _ _
  case inHalt =>
    intro halted
    simp only [exec, execHaltAsserted, applyGate_of_closed gated, haltIfAsserted]
    simp [halted]
  case released =>
    intro still
    simp only [exec, execHaltReleased]
    rw [applyGate_of_closed (by simp [gateClosed, still])]

end Sys2Proof.Machine

/-! PROOFS. A pulse of the bottom encoder, count by count and event by event (O26, O30). -/

namespace Sys2Proof.Machine

variable {s t u : State} {c : Instr}

/-! ## The feed unit apart from FEED REF -/

/-- The feed unit's values, FEED REF's left out: transitions of the machine state gate that output alone. -/
def Feed.core (f : Feed) : Feed := { f with ref := { period := 0, count := 0, start := 0, high := false, gated := false } }

@[simp] theorem enterPhase_core (p : Phase) (s : State) : (enterPhase p s).feed.core = s.feed.core := by
  obtain ⟨r, eq⟩ := enterPhase_spec p s
  rw [eq]
  rfl

@[simp] theorem enterDwell_core (s : State) : (enterDwell s).feed.core = s.feed.core := by simp [enterDwell]

@[simp] theorem enterPark_core (s : State) : (enterPark s).feed.core = s.feed.core := by
  simp [enterPark, forZones_keeps State.feed placePark placePark_feed]

@[simp] theorem enterRest_core (s : State) : (enterRest s).feed.core = s.feed.core := by
  unfold enterRest
  split <;> simp

@[simp] theorem enterBraking_core (s : State) : (enterBraking s).feed.core = s.feed.core := by
  unfold enterBraking
  dsimp only
  split <;> simp

@[simp] theorem passClearing_core (s : State) : (passClearing s).feed.core = s.feed.core := by
  unfold passClearing
  split <;> simp

@[simp] theorem settle_core (s : State) : (settle s).feed.core = s.feed.core := by simp [settle]

/-! ## What each event of a rise leaves (R10, R12, R15) -/

/-- The encoders' values: F, H, the references and the accumulators. -/
def Feed.encoders (f : Feed) : Pos × Pos × Quad × Quad × Nat × Nat :=
  (f.f, f.h, f.botRef, f.topRef, f.botAcc, f.topAcc)

/-- The strobe base: sync, the settle start, and the strobes issued and to come. -/
def Feed.strobeBase (f : Feed) : Sync × Pos × Num × Pos × Option StrobeId × Nat :=
  (f.sync, f.settleStart, f.nextNum, f.nextPos, f.newest, f.strobePulses)

/-- The slip window and the trim. -/
def Feed.window (f : Feed) : SlipWindow × Nat := (f.slip, f.trim)

theorem Feed.encoders_core (f : Feed) : f.core.encoders = f.encoders := rfl
theorem Feed.strobeBase_core (f : Feed) : f.core.strobeBase = f.strobeBase := rfl
theorem Feed.window_core (f : Feed) : f.core.window = f.window := rfl

theorem settle_encoders (s : State) : (settle s).feed.encoders = s.feed.encoders := by
  rw [← Feed.encoders_core, settle_core, Feed.encoders_core]

theorem settle_strobeBase (s : State) : (settle s).feed.strobeBase = s.feed.strobeBase := by
  rw [← Feed.strobeBase_core, settle_core, Feed.strobeBase_core]

theorem settle_window (s : State) : (settle s).feed.window = s.feed.window := by
  rw [← Feed.window_core, settle_core, Feed.window_core]

theorem lockSync_encoders (s : State) : (lockSync s).feed.encoders = s.feed.encoders := by
  unfold lockSync
  split
  · simp only [raiseGauge_feed, raiseLine_feed]
    rfl
  · rfl

theorem lockSync_window (s : State) : (lockSync s).feed.window = s.feed.window := by
  unfold lockSync
  split
  · simp only [raiseGauge_feed, raiseLine_feed]
    rfl
  · rfl

theorem issueStrobe_feed (s : State) : (issueStrobe s).feed = { s.feed with
    newest := some { num := s.feed.nextNum, pos := s.feed.nextPos }
    nextNum := s.feed.nextNum + 1
    nextPos := posPlus s.feed.nextPos s.settings.geometry.pitch
    strobePulses := s.feed.strobePulses + 1 } := by
  simp [issueStrobe]

theorem riseStrobe_encoders (s : State) : (riseStrobe s).feed.encoders = s.feed.encoders := by
  rw [← lockSync_encoders s]
  unfold riseStrobe
  dsimp only
  split
  · split
    · rw [issueStrobe_feed]
      rfl
    · rfl
  · rfl

theorem riseStrobe_window (s : State) : (riseStrobe s).feed.window = s.feed.window := by
  rw [← lockSync_window s]
  unfold riseStrobe
  dsimp only
  split
  · split
    · rw [issueStrobe_feed]
      rfl
    · rfl
  · rfl

theorem riseSlip_encoders (s : State) : (riseSlip s).feed.encoders = s.feed.encoders := by
  unfold riseSlip
  split
  · split
    · unfold slipFound
      dsimp only
      split <;> simp [openWindow, Feed.encoders]
    · rfl
  · rfl

theorem riseSlip_strobeBase (s : State) : (riseSlip s).feed.strobeBase = s.feed.strobeBase := by
  unfold riseSlip
  split
  · split
    · unfold slipFound
      dsimp only
      split <;> simp [openWindow, Feed.strobeBase]
    · rfl
  · rfl

theorem riseEvent_encoders (e : RiseEvent) (s : State) : (riseEvent e s).feed.encoders = s.feed.encoders := by
  cases e <;> simp [riseEvent, settle_encoders, riseStrobe_encoders, riseSlip_encoders]

theorem riseEvent_strobeBase {e : RiseEvent} (other : e ≠ .strobe) (s : State) :
    (riseEvent e s).feed.strobeBase = s.feed.strobeBase := by
  cases e <;> simp [riseEvent, settle_strobeBase, riseSlip_strobeBase] at other ⊢

theorem riseEvent_window {e : RiseEvent} (other : e ≠ .slip) (s : State) :
    (riseEvent e s).feed.window = s.feed.window := by
  cases e <;> simp [riseEvent, settle_window, riseStrobe_window] at other ⊢

/-! ## The events of one rise in turn -/

/-- The events taken in turn. -/
def riseEvents (es : List RiseEvent) (s : State) : State := es.foldl (fun t e => riseEvent e t) s

@[simp] theorem riseEvents_nil (s : State) : riseEvents [] s = s := rfl

@[simp] theorem riseEvents_cons (e : RiseEvent) (es : List RiseEvent) (s : State) :
    riseEvents (e :: es) s = riseEvents es (riseEvent e s) := rfl

theorem riseEvents_append (es fs : List RiseEvent) (s : State) :
    riseEvents (es ++ fs) s = riseEvents fs (riseEvents es s) := List.foldl_append

theorem riseH_eq (order : List RiseEvent) (s : State) : riseH order s =
    riseEvents (riseOrder order) { s with feed := { s.feed with h := s.feed.f } } := rfl

/-- What each event of a kind keeps, events of that kind in turn keep. -/
theorem riseEvents_keeps {α : Type} (part : State → α) {es : List RiseEvent}
    (each : ∀ e ∈ es, ∀ s, part (riseEvent e s) = part s) (s : State) : part (riseEvents es s) = part s := by
  induction es generalizing s with
  | nil => rfl
  | cons e es ih =>
    rw [riseEvents_cons, ih (fun f held => each f (.tail _ held)), each e (.head _)]

theorem riseEvents_encoders (es : List RiseEvent) (s : State) :
    (riseEvents es s).feed.encoders = s.feed.encoders :=
  riseEvents_keeps (fun t => t.feed.encoders) (fun e _ => riseEvent_encoders e) s

/-- A pulse of the bottom encoder, of which the events are parts. -/
def aPulse : Instr := .bottomPulse false false []

theorem riseEvents_path (es : List RiseEvent) (s : State) : Trail aPulse s (riseEvents es s) := riseEvents_trail rfl es

theorem riseEvents_settings (es : List RiseEvent) (s : State) :
    (riseEvents es s).settings.geometry = s.settings.geometry ∧
      (riseEvents es s).settings.scale = s.settings.scale := by
  have kept := (riseEvents_path es s).settingsKept
  exact ⟨kept.geometry (by simp [aPulse]), kept.scale (by simp [aPulse])⟩

theorem riseOrder_complete (order : List RiseEvent) (e : RiseEvent) : e ∈ riseOrder order := by
  by_cases named : e ∈ order
  · exact List.mem_append_left _ (List.mem_eraseDups.mpr named)
  · refine List.mem_append_right _ (List.mem_filter.mpr ⟨?_, by simpa using named⟩)
    cases e <;> decide

theorem nodup_eraseDups (es : List RiseEvent) : es.eraseDups.Nodup := by
  match es with
  | [] => simp
  | e :: rest =>
    rw [List.eraseDups_cons, List.nodup_cons]
    refine ⟨?_, nodup_eraseDups _⟩
    rw [List.mem_eraseDups]
    simp
termination_by es.length
decreasing_by
  simp only [List.length_cons]
  exact Nat.lt_succ_of_le (List.length_filter_le _ _)

theorem riseOrder_nodup (order : List RiseEvent) : (riseOrder order).Nodup := by
  refine List.nodup_append.mpr ⟨nodup_eraseDups _, List.Nodup.filter _ (by decide), ?_⟩
  rintro e named f rest rfl
  simp only [List.mem_filter, Bool.not_eq_true', List.contains_eq_mem, decide_eq_false_iff_not] at rest
  exact rest.2 (List.mem_eraseDups.mp named)

/-- Each event is taken once in a rise. -/
theorem riseOrder_split (order : List RiseEvent) (e : RiseEvent) :
    ∃ before behind, riseOrder order = before ++ e :: behind ∧ e ∉ before ∧ e ∉ behind := by
  obtain ⟨before, behind, split⟩ := List.append_of_mem (riseOrder_complete order e)
  have nodup := riseOrder_nodup order
  rw [split, List.nodup_middle, List.nodup_cons, List.mem_append, not_or] at nodup
  exact ⟨before, behind, split, nodup.1⟩

/-- An event named first, or the first kind where none is named, is taken first. -/
theorem riseOrder_first {order : List RiseEvent} {e : RiseEvent} (first : order.head? = some e) :
    ∃ behind, riseOrder order = e :: behind := by
  obtain ⟨rest, rfl⟩ : ∃ rest, order = e :: rest := by
    cases order with
    | nil => simp at first
    | cons f rest => exact ⟨rest, by simpa using first⟩
  exact ⟨_, by rw [riseOrder, List.eraseDups_cons, List.cons_append]⟩

/-! ## The counts of a pulse (R3) -/

theorem mem_forwardChanges (q r : Quad) : (q, r) ∈ forwardChanges ↔ q.step r = .forward := by
  rw [Quad.step_eq_forward_iff]

theorem mem_reverseChanges (q r : Quad) : (q, r) ∈ reverseChanges ↔ q.step r = .backward := by
  rw [Quad.step_eq_backward_iff]

/-- The state in which a forward pulse's counts are made. -/
def forwarded (a b : Bool) (s : State) : State := { s with feed := { s.feed with
  botRef := ⟨a, b⟩, botAcc := forwardAcc s.settings.scale s.feed.botAcc } }

/-- The state in which a reverse pulse's counts are made. -/
def reversed (a b : Bool) (s : State) : State := { s with feed := { s.feed with
  botRef := ⟨a, b⟩, botAcc := reverseAcc s.settings.scale s.feed.botAcc } }

theorem exec_forward {a b : Bool} {s : State} (change : (s.feed.botRef, ⟨a, b⟩) ∈ forwardChanges)
    (order : List RiseEvent) : exec (.bottomPulse a b order) s =
      .next (times (riseF order) (forwardCounts s.settings.scale s.feed.botAcc) (forwarded a b s)) := by
  simp only [exec, execBottomPulse, (mem_forwardChanges _ _).mp change]
  rfl

theorem exec_reverse {a b : Bool} {s : State} (change : (s.feed.botRef, ⟨a, b⟩) ∈ reverseChanges)
    (order : List RiseEvent) : exec (.bottomPulse a b order) s =
      .next (times fallF (reverseCounts s.settings.scale s.feed.botAcc) (reversed a b s)) := by
  simp only [exec, execBottomPulse, (mem_reverseChanges _ _).mp change]
  rfl

theorem riseF_encoders (order : List RiseEvent) (s : State) : ∃ h, (riseF order s).feed.encoders =
    (s.feed.f + 1, h, s.feed.botRef, s.feed.topRef, s.feed.botAcc, s.feed.topAcc) := by
  unfold riseF
  dsimp only
  split
  · exact ⟨_, (riseEvents_encoders _ _).trans rfl⟩
  · exact ⟨_, rfl⟩

theorem discontinuity_encoders (s : State) : (discontinuity s).feed.encoders =
    (s.feed.f, s.feed.f, s.feed.botRef, s.feed.topRef, s.feed.botAcc, s.feed.topAcc) := by
  unfold discontinuity
  rw [settle_encoders]
  simp [restartWindow, openWindow, flush_values, enterSettling, Feed.encoders]

theorem fallF_encoders (s : State) : ∃ h, (fallF s).feed.encoders =
    (s.feed.f - 1, h, s.feed.botRef, s.feed.topRef, s.feed.botAcc, s.feed.topAcc) := by
  unfold fallF
  dsimp only
  split
  · exact ⟨_, discontinuity_encoders _⟩
  · exact ⟨_, rfl⟩

/-- Counts of F one by one, each by `d`, the references and accumulators standing. -/
theorem times_encoders {f : State → State} {d : Pos}
    (each : ∀ s, ∃ h, (f s).feed.encoders =
      (s.feed.f + d, h, s.feed.botRef, s.feed.topRef, s.feed.botAcc, s.feed.topAcc)) (n : Nat) (s : State) :
    ∃ h, (times f n s).feed.encoders =
      (s.feed.f + n * d, h, s.feed.botRef, s.feed.topRef, s.feed.botAcc, s.feed.topAcc) := by
  induction n generalizing s with
  | zero => exact ⟨s.feed.h, by simp [times, Feed.encoders]⟩
  | succ n ih =>
    obtain ⟨h, here⟩ := each s
    obtain ⟨h', later⟩ := ih (f s)
    simp only [Feed.encoders, Prod.mk.injEq] at here later
    refine ⟨h', ?_⟩
    simp only [times, Feed.encoders, later, here, Prod.mk.injEq, and_true]
    rw [Nat.cast_succ]
    ring

theorem exec_bottomPulse_scale {a b : Bool} {order : List RiseEvent} (next : exec (.bottomPulse a b order) s = .next t) :
    t.settings.scale = s.settings.scale :=
  (exec_trail next ⟨by simp, by simp⟩).settingsKept.scale (by simp)

/-- Settles O26: the counts are made one by one, and none touches the references or the accumulators. -/
theorem bottomPulseCountsInF : Obligations.BottomPulseCountsInF := by
  intro a b order s inRange
  by_cases forward : (s.feed.botRef, ⟨a, b⟩) ∈ forwardChanges
  · have run := exec_forward forward order
    obtain ⟨h, encoders⟩ := times_encoders (riseF_encoders order) (forwardCounts s.settings.scale s.feed.botAcc)
      (forwarded a b s)
    simp only [Feed.encoders, Prod.mk.injEq] at encoders
    obtain ⟨f, _, botRef, topRef, botAcc, topAcc⟩ := encoders
    refine ⟨_, run, botRef, topRef, topAcc, exec_bottomPulse_scale run, ?_, ?_⟩
    · rw [botAcc]
      exact forwardAcc_lt inRange
    · rw [if_pos forward]
      refine ⟨forwardCounts s.settings.scale s.feed.botAcc, ?_, ?_⟩
      · rw [f]
        simp [forwarded]
      · rw [botAcc]
        exact forwardCounts_mul_add_forwardAcc _ _
  · by_cases backward : (s.feed.botRef, ⟨a, b⟩) ∈ reverseChanges
    · have run := exec_reverse backward order
      have each : ∀ s, ∃ h, (fallF s).feed.encoders =
          (s.feed.f + -1, h, s.feed.botRef, s.feed.topRef, s.feed.botAcc, s.feed.topAcc) := fun s => by
        rw [← sub_eq_add_neg]
        exact fallF_encoders s
      obtain ⟨h, encoders⟩ := times_encoders each (reverseCounts s.settings.scale s.feed.botAcc) (reversed a b s)
      simp only [Feed.encoders, Prod.mk.injEq] at encoders
      obtain ⟨f, _, botRef, topRef, botAcc, topAcc⟩ := encoders
      refine ⟨_, run, botRef, topRef, topAcc, exec_bottomPulse_scale run, ?_, ?_⟩
      · rw [botAcc]
        exact reverseAcc_lt inRange
      · rw [if_neg forward, if_pos backward]
        refine ⟨reverseCounts s.settings.scale s.feed.botAcc, ?_, ?_⟩
        · rw [f, mul_neg_one, ← sub_eq_add_neg]
          simp [reversed]
        · rw [botAcc]
          exact add_reverseCounts_mul inRange
    · have still : s.feed.botRef.step ⟨a, b⟩ = .still := by
        rw [mem_forwardChanges] at forward
        rw [mem_reverseChanges] at backward
        cases step : s.feed.botRef.step ⟨a, b⟩ <;> simp_all
      have run : exec (.bottomPulse a b order) s = .next { s with feed := { s.feed with botRef := ⟨a, b⟩ } } := by
        simp only [exec, execBottomPulse, still]
        rfl
      refine ⟨_, run, rfl, rfl, rfl, rfl, inRange, ?_⟩
      rw [if_neg forward, if_neg backward]

end Sys2Proof.Machine

/-! PROOFS. One rise of H, and the end of a slip window at it (O30). -/

namespace Sys2Proof.Machine

variable {s t u : State} {c : Instr}

/-! ## A pulse of one count that raises H -/

theorem forwardCounts_one {scale acc : Nat} (one : scale ≤ acc + 100 ∧ acc + 100 < 2 * scale) :
    forwardCounts scale acc = 1 := Nat.div_eq_of_lt_le (by omega) (by omega)

/-- The state in which the events of a forward pulse's one rise are taken. -/
def risen (a b : Bool) (s : State) : State := { s with feed := { s.feed with
  botRef := ⟨a, b⟩, botAcc := forwardAcc s.settings.scale s.feed.botAcc, f := s.feed.f + 1, h := s.feed.f + 1 } }

theorem riseF_ahead {s : State} (ahead : 0 < posDiff s.feed.h (s.feed.f + 1)) (order : List RiseEvent) :
    riseF order s = riseEvents (riseOrder order)
      { s with feed := { s.feed with f := s.feed.f + 1, h := s.feed.f + 1 } } := if_pos ahead

theorem exec_rise {a b : Bool} {s : State} (change : (s.feed.botRef, ⟨a, b⟩) ∈ forwardChanges)
    (one : s.settings.scale ≤ s.feed.botAcc + 100 ∧ s.feed.botAcc + 100 < 2 * s.settings.scale)
    (ahead : 0 < posDiff s.feed.h (s.feed.f + 1)) (order : List RiseEvent) :
    exec (.bottomPulse a b order) s = .next (riseEvents (riseOrder order) (risen a b s)) := by
  rw [exec_forward change, forwardCounts_one one]
  exact congrArg Host.Outcome.next (riseF_ahead (s := forwarded a b s) ahead order)

theorem riseEvents_h (es : List RiseEvent) (s : State) :
    (riseEvents es s).feed.f = s.feed.f ∧ (riseEvents es s).feed.h = s.feed.h := by
  have encoders := riseEvents_encoders es s
  simp only [Feed.encoders, Prod.mk.injEq] at encoders
  exact ⟨encoders.1, encoders.2.1⟩

theorem riseEvents_window {es : List RiseEvent} (other : .slip ∉ es) (s : State) :
    (riseEvents es s).feed.window = s.feed.window :=
  riseEvents_keeps (fun t => t.feed.window) (fun _ held => riseEvent_window fun same => other (same ▸ held)) s

theorem Keeps.raised {n : Nat} {a b m : BitVec n} (keeps : Keeps a b) (raised : a &&& m = m) : b &&& m = m := by
  rw [← raised, ← keeps, BitVec.and_comm a b, BitVec.and_assoc, ← BitVec.and_assoc b b, BitVec.and_self]

theorem riseEvents_keep_notices (es : List RiseEvent) (s : State) :
    Keeps s.line.notices (riseEvents es s).line.notices :=
  ((riseEvents_path es s).flagsKept.line (by simp [aPulse])).1

theorem settle_keeps_notices (s : State) : Keeps s.line.notices (settle s).line.notices :=
  ((settle_trail (c := aPulse)).flagsKept.line (by simp [aPulse])).1

/-! ## The end of a slip window (R15, R17) -/

/-- H has reached the end of the slip window. -/
abbrev WindowEnds (s : State) : Prop :=
  reaches s.feed.h (posPlus s.feed.slip.start s.settings.geometry.window) = true

/-- The window's two advances differ by more than the slip limit. -/
abbrev WindowSlips (s : State) : Prop :=
  (s.settings.geometry.slipLimit : Int) < |(s.settings.geometry.window : Int) - s.feed.slip.advance|

theorem riseSlip_before (before : ¬ WindowEnds s) : riseSlip s = s := by simp [riseSlip, before]

theorem riseSlip_clean (ends : WindowEnds s) (clean : ¬ WindowSlips s) :
    riseSlip s = { s with feed := { s.feed with slip := ⟨s.feed.h, 0, 0⟩ } } := by
  rw [WindowSlips, Int.abs_eq_natAbs] at clean
  rw [riseSlip, if_pos ends, if_neg (by exact_mod_cast clean)]
  rfl

theorem riseSlip_slips (ends : WindowEnds s) (slips : WindowSlips s) : riseSlip s = slipFound s := by
  rw [WindowSlips, Int.abs_eq_natAbs] at slips
  rw [riseSlip, if_pos ends, if_pos (by exact_mod_cast slips)]

theorem slipFound_early (early : s.feed.slip.count < 2) : slipFound s = { updRecords flagSlip s with
    feed := { s.feed with slip := ⟨s.feed.h, 0, s.feed.slip.count + 1⟩ } } := by
  rw [slipFound, if_neg (by omega)]
  rfl

theorem slipFound_trims (third : ¬ s.feed.slip.count < 2) (trim : s.feed.trim < 4) :
    slipFound s = { updRecords flagSlip s with
      feed := { s.feed with slip := ⟨s.feed.h, 0, 0⟩, trim := s.feed.trim + 1 }
      line := { s.line with
        notices := s.line.notices ||| (LineNotice.trimChanged.bit ||| LineNotice.slip.bit) } } := by
  rw [slipFound, if_pos (by omega), ← BitVec.or_assoc]
  simp [trim, raiseLineIf, raiseLine, openWindow]
  rfl

theorem slipFound_full (third : ¬ s.feed.slip.count < 2) (full : ¬ s.feed.trim < 4) :
    slipFound s = { updRecords flagSlip s with
      feed := { s.feed with slip := ⟨s.feed.h, 0, 0⟩ }
      line := { s.line with notices := s.line.notices ||| LineNotice.slip.bit } } := by
  rw [slipFound, if_pos (by omega)]
  simp [full, raiseLineIf, raiseLine, openWindow]
  rfl

theorem riseSlip_records (ends : WindowEnds s) (slips : WindowSlips s) :
    (riseSlip s).hides.records = s.hides.records.map flagSlip := by
  rw [riseSlip_slips ends slips]
  by_cases early : s.feed.slip.count < 2
  · rw [slipFound_early early]
    rfl
  · by_cases trim : s.feed.trim < 4
    · rw [slipFound_trims early trim]
      rfl
    · rw [slipFound_full early trim]
      rfl

/-! ## A slip once flagged stays flagged -/

/-- Each record flagged SLIP has one of its number flagged after. -/
def SlipStays (s t : State) : Prop := ∀ r ∈ s.hides.records, r.flags.slip = true →
  ∃ q ∈ t.hides.records, q.number = r.number ∧ q.flags.slip = true

theorem SlipStays.of (records : t.hides.records = s.hides.records) : SlipStays s t :=
  fun r held flagged => ⟨r, records ▸ held, rfl, flagged⟩

theorem SlipStays.trans (h : SlipStays s t) (h' : SlipStays t u) : SlipStays s u := by
  intro r held flagged
  obtain ⟨q, there, number, flagged'⟩ := h r held flagged
  obtain ⟨p, last, number', flagged''⟩ := h' q there flagged'
  exact ⟨p, last, number'.trans number, flagged''⟩

theorem TableStep.slipStays {h : HideTable} {tr : Track} (step : TableStep s h tr)
    (table : t.hides.records = h.records) : SlipStays s t := by
  intro r held flagged
  obtain ⟨i, below, rfl⟩ := List.mem_iff_getElem.mp held
  have far : i < h.records.length := step.records.length_eq ▸ below
  have one := step.records.get below far
  exact ⟨h.records[i], by rw [table]; exact List.getElem_mem far, one.number, one.slip flagged⟩

theorem Change.slipStays (change : Change aPulse s t) : SlipStays s t := by
  cases change with
  | table h tr step => exact step.slipStays rfl
  | finish h tr step => exact step.slipStays (by simp)
  | gaugeNotice n => exact .of (by simp)
  | haltLevel b => exact .of (by simp)
  | phase p => exact .of (by simp)
  | knife offsets own => simp [aPulse] at own
  | drop n h own => simp [aPulse] at own
  | fill r n own => simp [aPulse] at own
  | _ => exact .of rfl

theorem Trail.slipStays (path : Trail aPulse s t) : SlipStays s t :=
  path.relates (R := SlipStays) (fun _ => .of rfl) (fun _ _ _ => SlipStays.trans) fun _ _ => Change.slipStays

/-- Settles O30: the other events of the rise leave the window and the trim, and what the window's end raised. -/
theorem slipWindowEndsAtItsLength : Obligations.SlipWindowEndsAtItsLength := by
  refine ⟨fun a b order s change one ahead => ?_, fun s => ?_⟩
  · obtain ⟨before, behind, split, fresh, fresh'⟩ := riseOrder_split order .slip
    refine ⟨_, exec_rise change one ahead order, (riseEvents_h _ _).2, ?_⟩
    rw [split, riseEvents_append, riseEvents_cons]
    have first : order.head? = some .slip → before = [] := by
      intro named
      obtain ⟨rest, eq⟩ := riseOrder_first named
      rw [split] at eq
      cases before with
      | nil => rfl
      | cons e es =>
        rw [List.cons_append, List.cons.injEq] at eq
        exact absurd (eq.1 ▸ List.mem_cons_self) fresh
    obtain ⟨_, h⟩ := riseEvents_h before (risen a b s)
    obtain ⟨geometry, _⟩ := riseEvents_settings before (risen a b s)
    have window := riseEvents_window fresh (risen a b s)
    have start : before = [] → riseEvents before (risen a b s) = risen a b s := fun none => by rw [none, riseEvents_nil]
    generalize riseEvents before (risen a b s) = u at h geometry window start
    have window' : (riseEvents behind (riseEvent .slip u)).feed.window = (riseSlip u).feed.window :=
      (riseEvents_window fresh' _).trans (settle_window _)
    have notices : Keeps (riseSlip u).line.notices (riseEvents behind (riseEvent .slip u)).line.notices :=
      (settle_keeps_notices _).trans (riseEvents_keep_notices _ _)
    have stays : SlipStays (riseSlip u) (riseEvents behind (riseEvent .slip u)) :=
      Trail.slipStays (settle_trail.trans (riseEvents_path behind (riseEvent .slip u)))
    generalize riseEvents behind (riseEvent .slip u) = t at window' notices stays
    simp only [Feed.window, Prod.mk.injEq] at window window'
    obtain ⟨slip, trim⟩ := window
    obtain ⟨slip', trim'⟩ := window'
    have uh : u.feed.h = s.feed.f + 1 := h
    have uslip : u.feed.slip = s.feed.slip := slip
    have utrim : u.feed.trim = s.feed.trim := trim
    have ugeometry : u.settings.geometry = s.settings.geometry := geometry
    rw [slip', trim', ← uh, ← uslip, ← utrim, ← ugeometry]
    by_cases ends : WindowEnds u
    · rw [if_pos ends]
      by_cases slips : WindowSlips u
      · rw [if_pos slips]
        refine ⟨fun named r held converting => ?_, ?_⟩
        · have same : u.hides = s.hides := by rw [start (first named)]; rfl
          have flagged : flagSlip r ∈ (riseSlip u).hides.records := by
            rw [riseSlip_records ends slips, same]
            exact List.mem_map_of_mem held
          obtain ⟨q, there, number, slip⟩ := stays _ flagged (by simp [flagSlip, converting])
          exact ⟨q, there, by simpa [flagSlip, converting] using number, slip⟩
        · rw [riseSlip_slips ends slips] at notices ⊢
          by_cases early : u.feed.slip.count < 2
          · rw [if_pos early, slipFound_early early]
            exact ⟨rfl, rfl⟩
          · rw [if_neg early]
            by_cases trims : u.feed.trim < 4
            · rw [slipFound_trims early trims] at notices ⊢
              rw [if_pos trims]
              refine ⟨rfl, notices.raised ?_, rfl, notices.raised ?_⟩
              · dsimp only
                rw [← BitVec.or_assoc, raised_bit]
              · dsimp only
                rw [BitVec.or_comm LineNotice.trimChanged.bit, ← BitVec.or_assoc, raised_bit]
            · rw [slipFound_full early trims] at notices ⊢
              rw [if_neg trims]
              exact ⟨rfl, notices.raised (raised_bit _ _), rfl⟩
      · rw [if_neg slips, riseSlip_clean ends slips]
        exact ⟨rfl, rfl⟩
    · rw [if_neg ends, riseSlip_before ends]
      exact ⟨rfl, rfl⟩
  · dsimp only
    by_cases ends : WindowEnds s
    · rw [if_pos ends]
      by_cases slips : WindowSlips s
      · rw [if_pos slips, riseSlip_slips ends slips]
        by_cases early : s.feed.slip.count < 2
        · rw [if_pos early, slipFound_early early]
          rfl
        · rw [if_neg early]
          by_cases trims : s.feed.trim < 4
          · rw [if_pos trims, slipFound_trims early trims]
            rfl
          · rw [if_neg trims, slipFound_full early trims]
            rfl
      · rw [if_neg slips, riseSlip_clean ends slips]
    · rw [if_neg ends, riseSlip_before ends]

end Sys2Proof.Machine

/-! PROOFS. Departures from the outstanding list, one entry after the other (R32 to R34, R42, R60). -/

namespace Sys2Proof.Machine

variable {s t u : State} {c : Instr} {e d : Entry} {rest : List Entry}

/-! ## Membership (R33) -/

theorem HideRecord.holds_iff (r : HideRecord) (n : Num) : r.holds n = true ↔ InRange r.first.num r.last n := by
  unfold HideRecord.holds InRange atOrOlder atOrNewer
  cases r.last <;> simp

/-- Two records that membership of strobe n cannot tell apart. -/
structure SameMember (n : Num) (r r' : HideRecord) : Prop where
  number : r'.number = r.number
  state : r'.state = r.state
  first : r'.first = r.first
  holds : (r'.rangeOpen && r'.holds n) = (r.rangeOpen && r.holds n)

/-- Membership goes by what `SameMember` compares. -/
theorem memberOf_congr {n : Num} {l l' : List HideRecord} (same : List.Forall₂ (SameMember n) l l') :
    Option.Rel (SameMember n) (memberOf n l) (memberOf n l') := by
  induction same with
  | nil => exact .none
  | @cons r r' l l' here _ ih =>
    simp only [memberOf, here.holds, here.first]
    generalize memberOf n l = m, memberOf n l' = m' at ih
    cases ih with
    | none =>
      dsimp only
      split
      · exact .some here
      · exact .none
    | @some q q' member =>
      dsimp only
      rw [member.first]
      split
      · exact .some here
      · exact .some member

theorem enteredFor_congr {l l' : List HideRecord} (same : List.Forall₂ (SameMember e.num) l l') :
    enteredFor l' e = enteredFor l e := by
  have member := memberOf_congr same
  unfold enteredFor
  generalize memberOf e.num l = m, memberOf e.num l' = m' at member
  cases member with
  | none => rfl
  | some member => simp only [member.number, member.state]

theorem isOrphan_congr {l l' : List HideRecord} (same : List.Forall₂ (SameMember e.num) l l') :
    isOrphan l' e = isOrphan l e := by
  have member := memberOf_congr same
  unfold isOrphan
  generalize memberOf e.num l = m, memberOf e.num l' = m' at member
  cases member with
  | none => rfl
  | some member => rfl

/-! ## One departure -/

/-- What a departure leaves of a record, `rest` being outstanding after it. -/
structure Departed (rest : List Entry) (q q' : HideRecord) : Prop where
  number : q'.number = q.number
  state : q'.state = q.state
  first : q'.first = q.first
  last : q'.last = q.last
  range : q'.rangeOpen = q.rangeOpen ∨
    q.state = .abandoned ∧ q'.rangeOpen = false ∧ ∀ d ∈ rest, ¬ InRange q.first.num q.last d.num

theorem Departed.holds {q q' : HideRecord} (departed : Departed rest q q') (n : Num) : q'.holds n = q.holds n := by
  simp [HideRecord.holds, departed.first, departed.last]

theorem Departed.sameMember {q q' : HideRecord} (departed : Departed rest q q') (out : d ∈ rest) :
    SameMember d.num q q' := by
  refine ⟨departed.number, departed.state, departed.first, ?_⟩
  rw [departed.holds]
  rcases departed.range with same | ⟨_, closed, beyond⟩
  · rw [same]
  · have not_held : q.holds d.num = false := by
      rw [Bool.eq_false_iff, Ne, HideRecord.holds_iff]
      exact beyond d out
    simp [not_held]

theorem departed_enter (n : Num) (gap : Bool) (q : HideRecord) : Departed rest q (q.enter n gap) :=
  ⟨rfl, rfl, rfl, rfl, .inl rfl⟩

theorem departed_refl (q : HideRecord) : Departed rest q q := ⟨rfl, rfl, rfl, rfl, .inl rfl⟩

/-- The records after a strobe has been handed on, before ranges close. -/
theorem handOn_records (e : Entry) (s : State) : List.Forall₂ (fun q q' => Departed [] q q' ∧ q'.rangeOpen = q.rangeOpen)
    s.hides.records (handOn e s).hides.records := by
  have same : List.Forall₂ (fun q q' : HideRecord => Departed [] q q' ∧ q'.rangeOpen = q.rangeOpen)
      s.hides.records s.hides.records := List.forall₂_same.mpr fun q _ => ⟨departed_refl q, rfl⟩
  unfold handOn
  split
  · split
    · rename_i r _ _
      simp only [enterTrack, raiseLineIf_hides, updHide_records]
      refine List.forall₂_map_right_iff.mpr (List.forall₂_same.mpr fun q _ => ?_)
      split
      · exact ⟨departed_enter _ _ q, rfl⟩
      · exact ⟨departed_refl q, rfl⟩
    · exact same
  · unfold dropOrphan
    split
    · simpa using same
    · exact same

theorem departHead_eq (list : s.intake.list = e :: rest) :
    departHead s = closeRanges (handOn e { s with intake := { s.intake with list := rest } }) := by
  simp [departHead, list]

theorem departHead_records (list : s.intake.list = e :: rest) :
    List.Forall₂ (Departed rest) s.hides.records (departHead s).hides.records := by
  rw [departHead_eq list]
  have handed := handOn_records e { s with intake := { s.intake with list := rest } }
  have out := handOn_list e { s with intake := { s.intake with list := rest } }
  generalize handOn e { s with intake := { s.intake with list := rest } } = t at handed out
  simp only [closeRanges, updRecords_records, out]
  refine List.forall₂_map_right_iff.mpr (handed.imp fun q q' both => ?_)
  obtain ⟨departed, range⟩ := both
  split
  case isTrue closes =>
    simp only [Bool.and_eq_true, decide_eq_true_eq, Bool.not_eq_true', List.any_eq_false] at closes
    refine ⟨departed.number, departed.state, departed.first, departed.last, .inr ⟨?_, rfl, fun d held within => ?_⟩⟩
    · exact departed.state ▸ closes.1.1
    · rw [← HideRecord.holds_iff, ← departed.holds] at within
      exact closes.2 d held within
  case isFalse =>
    exact ⟨departed.number, departed.state, departed.first, departed.last, .inl range⟩

/-- After a departure an abandoned record's range is open only where an outstanding strobe lies in it (R60). -/
theorem departHead_ranges (list : s.intake.list = e :: rest) : ∀ q ∈ (departHead s).hides.records,
    q.state = .abandoned → q.rangeOpen = true → ∃ d ∈ rest, InRange q.first.num q.last d.num := by
  rw [departHead_eq list]
  have out := handOn_list e { s with intake := { s.intake with list := rest } }
  generalize handOn e { s with intake := { s.intake with list := rest } } = t at out
  intro q held abandoned isOpen
  simp only [closeRanges, updRecords_records, out, List.mem_map] at held
  obtain ⟨r, _, rfl⟩ := held
  split at abandoned
  case isTrue closes => simp [closes] at isOpen
  case isFalse stays =>
    simp only [stays] at isOpen
    simp only [if_neg stays]
    by_contra none
    refine stays ?_
    simp only [Bool.and_eq_true, decide_eq_true_eq, Bool.not_eq_true', List.any_eq_false]
    refine ⟨⟨abandoned, isOpen⟩, fun d there within => none ⟨d, there, (HideRecord.holds_iff r d.num).mp within⟩⟩

theorem enteredFor_some {records : List HideRecord} {r : HideRecord} (found : memberOf e.num records = some r) :
    enteredFor records e = if r.state.unfinished then
      some { strobe := e.num, pos := e.pos, hide := r.number, readings := e.reply, stage := .entered, results := [] }
    else none := by
  rw [enteredFor, found]

theorem enteredFor_none {records : List HideRecord} (none : memberOf e.num records = none) :
    enteredFor records e = .none := by
  rw [enteredFor, none]

theorem handOn_slices (e : Entry) (s : State) :
    (handOn e s).track.slices = s.track.slices ++ (enteredFor s.hides.records e).toList := by
  unfold handOn
  split
  next r found =>
    rw [enteredFor_some found]
    split
    · simp [enterTrack]
    · simp
  next none => simp [enteredFor_none none]

theorem departHead_slices (list : s.intake.list = e :: rest) :
    (departHead s).track.slices = s.track.slices ++ (enteredFor s.hides.records e).toList := by
  rw [departHead_eq list, closeRanges_track, handOn_slices]

theorem bump_eq (n : Nat) : bump n = min 65535 (n + 1) := rfl

/-- The intake after a departure: an orphan is counted, and in PROFILE noticed (R34, R43). -/
theorem departHead_intake (list : s.intake.list = e :: rest) : (departHead s).intake = { s.intake with
    list := rest
    orphan := orphansAfter s.intake.orphan (if isOrphan s.hides.records e then 1 else 0)
    notices := if isOrphan s.hides.records e = true ∧ s.ctl.strap = .profile
      then s.intake.notices ||| GaugeNotice.orphan.bit else s.intake.notices } := by
  rw [departHead_eq list, closeRanges_intake]
  unfold handOn isOrphan
  dsimp only
  split
  case h_1 r found =>
    simp only [found, Option.isNone_some, Bool.false_and]
    split <;> simp [orphansAfter]
  case h_2 found =>
    simp only [found, Option.isNone_none, Bool.true_and, dropOrphan]
    cases replied : e.reply.isSome with
    | false => simp [orphansAfter]
    | true =>
      cases strap : s.ctl.strap <;> simp [raiseGauge, strap, orphansAfter, bump_eq]

/-! ## Departures in turn -/

theorem departAll_list (k : Nat) (s : State) : (departAll k s).intake.list = s.intake.list.drop k := by
  induction k generalizing s with
  | zero => rfl
  | succ k ih => rw [departAll, ih, departHead_list, List.drop_tail]

theorem departAll_one (s : State) : departAll 1 s = departHead s := rfl

theorem departAll_add (j k : Nat) (s : State) : departAll (j + k) s = departAll k (departAll j s) := by
  induction j generalizing s with
  | zero => rw [Nat.zero_add]; rfl
  | succ j ih => rw [Nat.succ_add, departAll, departAll, ih]

/-- A departure leaves what becomes of those still outstanding. -/
theorem enteredFor_departHead (list : s.intake.list = e :: rest) (out : d ∈ rest) :
    enteredFor (departHead s).hides.records d = enteredFor s.hides.records d :=
  enteredFor_congr ((departHead_records list).imp fun _ _ departed => departed.sameMember out)

theorem isOrphan_departHead (list : s.intake.list = e :: rest) (out : d ∈ rest) :
    isOrphan (departHead s).hides.records d = isOrphan s.hides.records d :=
  isOrphan_congr ((departHead_records list).imp fun _ _ departed => departed.sameMember out)

/-- The slices that departures bring in, in the order of the list. -/
theorem departAll_slices {k : Nat} (few : k ≤ s.intake.list.length) : (departAll k s).track.slices =
    s.track.slices ++ (s.intake.list.take k).filterMap (enteredFor s.hides.records) := by
  induction k generalizing s with
  | zero => simp [departAll]
  | succ k ih =>
    cases list : s.intake.list with
    | nil => simp [list] at few
    | cons e rest =>
      have tail : (departHead s).intake.list = rest := by rw [departHead_list, list]; rfl
      rw [departAll, ih (by rw [tail]; simpa [list] using few), departHead_slices list, tail, List.take_succ_cons,
        List.append_assoc]
      have same : (rest.take k).filterMap (enteredFor (departHead s).hides.records) =
          (rest.take k).filterMap (enteredFor s.hides.records) :=
        List.filterMap_congr fun d held => enteredFor_departHead list (List.mem_of_mem_take held)
      rw [same]
      cases entered : enteredFor s.hides.records e <;> simp [entered]

theorem orphansAfter_add (count j k : Nat) : orphansAfter (orphansAfter count j) k = orphansAfter count (j + k) := by
  unfold orphansAfter
  split_ifs <;> omega

/-- The intake after departures: the orphans are counted, and in PROFILE noticed. -/
theorem departAll_intake {k : Nat} (few : k ≤ s.intake.list.length) :
    let orphans := ((s.intake.list.take k).filter (isOrphan s.hides.records)).length
    (departAll k s).intake = { s.intake with
      list := s.intake.list.drop k
      orphan := orphansAfter s.intake.orphan orphans
      notices := if 0 < orphans ∧ s.ctl.strap = .profile
        then s.intake.notices ||| GaugeNotice.orphan.bit else s.intake.notices } := by
  induction k generalizing s with
  | zero => simp [departAll, orphansAfter]
  | succ k ih =>
    cases list : s.intake.list with
    | nil => simp [list] at few
    | cons e rest =>
      have tail : (departHead s).intake.list = rest := by rw [departHead_list, list]; rfl
      have same : (rest.take k).filter (isOrphan (departHead s).hides.records) =
          (rest.take k).filter (isOrphan s.hides.records) :=
        List.filter_congr fun d held => isOrphan_departHead list (List.mem_of_mem_take held)
      have later := ih (s := departHead s) (by rw [tail]; simpa [list] using few)
      dsimp only at later ⊢
      rw [tail, same] at later
      rw [departAll, later, departHead_intake list, departHead_ctl, List.take_succ_cons, List.filter_cons]
      cases orphan : isOrphan s.hides.records e with
      | false => simp [orphansAfter]
      | true =>
        simp only [if_true, orphansAfter_add, List.length_cons, Nat.add_comm 1, true_and, List.drop_succ_cons]
        by_cases profile : s.ctl.strap = .profile
        · by_cases more : 0 < ((rest.take k).filter (isOrphan s.hides.records)).length
          · simp [profile, more, BitVec.or_assoc]
          · simp [profile, more]
        · simp [profile]

/-- The departures of R32 are departures in turn, as far as the heads hold replies. -/
theorem departReplied_eq (fuel : Nat) (s : State) : ∃ k, departReplied fuel s = departAll k s ∧
    k ≤ s.intake.list.length ∧ (∀ e ∈ s.intake.list.take k, e.reply.isSome = true) ∧
    (s.intake.list.length ≤ fuel → ∀ e ∈ (s.intake.list.drop k).head?, e.reply = none) := by
  induction fuel generalizing s with
  | zero =>
    refine ⟨0, rfl, Nat.zero_le _, by simp, fun empty => ?_⟩
    simp [List.length_eq_zero_iff.mp (Nat.le_zero.mp empty)]
  | succ fuel ih =>
    unfold departReplied
    cases list : s.intake.list with
    | nil => exact ⟨0, rfl, le_rfl, by simp, by simp⟩
    | cons e rest =>
      dsimp only
      split
      case isTrue replied =>
        have tail : (departHead s).intake.list = rest := by rw [departHead_list, list]; rfl
        obtain ⟨k, eq, few, taken, behind⟩ := ih (departHead s)
        rw [tail] at few taken behind
        refine ⟨k + 1, eq, by simpa using few, ?_, fun small => ?_⟩
        · rw [List.take_succ_cons, List.forall_mem_cons]
          exact ⟨replied, taken⟩
        · rw [List.drop_succ_cons]
          exact behind (by simpa using small)
      case isFalse bare =>
        refine ⟨0, rfl, Nat.zero_le _, by simp, fun _ => ?_⟩
        simpa using bare

theorem departDue_eq (s : State) : ∃ k, departDue s = departAll k s ∧
    k ≤ s.intake.list.length ∧ (∀ e ∈ s.intake.list.take k, e.reply.isSome = true) ∧
    ∀ e ∈ (s.intake.list.drop k).head?, e.reply = none := by
  obtain ⟨k, eq, few, taken, behind⟩ := departReplied_eq s.intake.list.length s
  exact ⟨k, eq, few, taken, behind le_rfl⟩

end Sys2Proof.Machine

/-! PROOFS. Strobes at a rise of H, and a fall of F (O27, O28, O29). -/

namespace Sys2Proof.Machine

variable {s t u : State} {c : Instr}

/-! ## The strobe's own event (R10, R12, R13) -/

theorem lockSync_locked (locked : s.feed.sync = .locked) : lockSync s = s := by simp [lockSync, locked]

theorem riseStrobe_issues (locked : s.feed.sync = .locked) (permits : s.ctl.phase.permitsStrobes = true)
    (due : reaches s.feed.h s.feed.nextPos = true) : riseStrobe s = issueStrobe s := by
  simp [riseStrobe, lockSync_locked locked, mayIssue, locked, permits, due]

theorem riseStrobe_waits (locked : s.feed.sync = .locked) (permits : s.ctl.phase.permitsStrobes = true)
    (early : ¬ reaches s.feed.h s.feed.nextPos = true) : riseStrobe s = s := by
  simp [riseStrobe, lockSync_locked locked, mayIssue, locked, permits, early]

theorem riseStrobe_moves (locked : s.feed.sync = .locked) (forbids : s.ctl.phase.permitsStrobes = false) :
    riseStrobe s = { s with feed := { s.feed with nextPos := posPlus s.feed.h s.settings.geometry.pitch } } := by
  simp [riseStrobe, lockSync_locked locked, mayIssue, locked, forbids]

theorem joinList_room (num : Num) (pos : Pos) (room : s.intake.list.length < 16) : joinList num pos s =
    { s with intake := { s.intake with list := s.intake.list ++ [{ num := num, pos := pos, reply := none }] } } := by
  rw [joinList, if_neg (by rw [Config.listCapacity]; omega)]

/-- A strobe joins a full list behind the departure of its head and of those behind it that hold replies (R31). -/
theorem joinList_full (num : Num) (pos : Pos) {e : Entry} {rest : List Entry} (list : s.intake.list = e :: rest)
    (full : 16 ≤ s.intake.list.length) : ∃ k, (joinList num pos s).intake.list =
        rest.drop k ++ [{ num := num, pos := pos, reply := none }] ∧
      (∀ d ∈ rest.take k, d.reply.isSome = true) ∧ (∀ d ∈ (rest.drop k).head?, d.reply = none) ∧
      (joinList num pos s).track = (departAll (k + 1) s).track ∧ k ≤ rest.length := by
  obtain ⟨k, eq, few, taken, behind⟩ := departDue_eq (departHead s)
  have tail : (departHead s).intake.list = rest := by rw [departHead_list, list]; rfl
  rw [tail] at few taken behind
  have joined : joinList num pos s = { departAll (k + 1) s with intake := { (departAll (k + 1) s).intake with
      list := (departAll (k + 1) s).intake.list ++ [{ num := num, pos := pos, reply := none }] } } := by
    rw [joinList, if_pos (by rw [Config.listCapacity]; exact full), eq]
    rfl
  refine ⟨k, ?_, taken, behind, by rw [joined], few⟩
  rw [joined]
  simp [departAll_list, list]

theorem issueStrobe_intake (s : State) : (issueStrobe s).intake = (joinList s.feed.nextNum s.feed.nextPos s).intake := rfl

theorem issueStrobe_track (s : State) : (issueStrobe s).track = (joinList s.feed.nextNum s.feed.nextPos s).track := rfl

theorem issueStrobe_hides (s : State) : (issueStrobe s).hides = (joinList s.feed.nextNum s.feed.nextPos s).hides := rfl

/-! ## The rise about the strobe's event -/

theorem riseEvents_strobeBase {es : List RiseEvent} (other : .strobe ∉ es) (s : State) :
    (riseEvents es s).feed.strobeBase = s.feed.strobeBase :=
  riseEvents_keeps (fun t => t.feed.strobeBase) (fun _ held => riseEvent_strobeBase fun same => other (same ▸ held)) s

/-- The events before the strobe's leave what it goes by, and those behind leave what it made. -/
theorem rise_about_strobe (a b : Bool) {order : List RiseEvent} {s : State}
    (first : s.ctl.phase ≠ .clearing ∨ order = [] ∨ order.head? = some .strobe) : ∃ u, ∃ behind,
      riseEvents (riseOrder order) (risen a b s) = riseEvents behind (riseEvent .strobe u) ∧ .strobe ∉ behind ∧
      u.feed.h = s.feed.f + 1 ∧ u.feed.strobeBase = s.feed.strobeBase ∧
      u.settings.geometry = s.settings.geometry ∧ u.ctl.phase = s.ctl.phase ∧ u.ctl.strap = s.ctl.strap := by
  obtain ⟨before, behind, split, fresh, fresh'⟩ := riseOrder_split order .strobe
  have path := riseEvents_path before (risen a b s)
  refine ⟨riseEvents before (risen a b s), behind, by rw [split, riseEvents_append, riseEvents_cons], fresh',
    (riseEvents_h _ _).2, riseEvents_strobeBase fresh _, (riseEvents_settings _ _).1, ?_, path.settingsKept.straps.1⟩
  rcases first with running | named
  · rcases (riseEvents_clears before (risen a b s)).phase with same | ⟨clearing, _⟩
    · exact same
    · exact absurd clearing running
  · have starts : ∃ rest, riseOrder order = .strobe :: rest := by
      rcases named with rfl | named
      · exact ⟨_, rfl⟩
      · exact riseOrder_first named
    obtain ⟨rest, eq⟩ := starts
    rw [split] at eq
    cases before with
    | nil => rfl
    | cons e es =>
      rw [List.cons_append, List.cons.injEq] at eq
      exact absurd (eq.1 ▸ List.mem_cons_self) fresh

/-- Settles O27: the strobe's event sees the count, the strobe base and the machine state that the pulse found. -/
theorem riseOfHIssuesTheStrobeDue : Obligations.RiseOfHIssuesTheStrobeDue := by
  refine ⟨fun s locked permits due => ⟨fun room => ?_, fun e rest list full => ?_⟩,
    fun a b order s change one ahead locked first => ?_⟩
  · rw [riseStrobe_issues locked permits due, issueStrobe_intake, issueStrobe_track, issueStrobe_hides,
      joinList_room _ _ room]
    exact ⟨rfl, rfl, rfl⟩
  · rw [riseStrobe_issues locked permits due, issueStrobe_intake, issueStrobe_track]
    obtain ⟨k, joined, taken, behind, track, few⟩ := joinList_full s.feed.nextNum s.feed.nextPos list full
    refine ⟨⟨k, joined, taken, behind⟩, fun r found unfinished => ?_⟩
    rw [track, departAll_slices (by rw [list]; simpa using few), list, List.take_succ_cons,
      List.filterMap_cons_some (b := enteredSlice e r) (by simp [enteredFor, found, unfinished, enteredSlice]),
      List.getElem?_append_right le_rfl, Nat.sub_self]
    rfl
  · obtain ⟨u, behind, eq, fresh, h, base, geometry, phase, _⟩ := rise_about_strobe a b (s := s) first
    refine ⟨_, exec_rise change one ahead order, (riseEvents_h _ _).1, (riseEvents_h _ _).2, ?_⟩
    rw [eq]
    have after := (riseEvents_strobeBase fresh (riseEvent .strobe u)).trans (settle_strobeBase (riseStrobe u))
    generalize riseEvents behind (riseEvent .strobe u) = t at after
    simp only [Feed.strobeBase, Prod.mk.injEq] at base after
    obtain ⟨sync, _, nextNum, nextPos, newest, pulses⟩ := base
    obtain ⟨sync', _, nextNum', nextPos', newest', pulses'⟩ := after
    have locked' : u.feed.sync = .locked := sync.trans locked
    rw [sync', nextNum', nextPos', newest', pulses', ← phase, ← h, ← nextPos, ← nextNum, ← newest, ← pulses, ← geometry]
    cases permits : u.ctl.phase.permitsStrobes with
    | false =>
      rw [riseStrobe_moves locked' permits, if_neg (by decide)]
      exact ⟨locked', rfl, rfl, rfl, rfl⟩
    | true =>
      rw [if_pos rfl]
      by_cases due : reaches u.feed.h u.feed.nextPos = true
      · rw [if_pos due, riseStrobe_issues locked' permits due, issueStrobe_feed]
        exact ⟨locked', rfl, rfl, rfl, rfl⟩
      · rw [if_neg due, riseStrobe_waits locked' permits due]
        exact ⟨locked', rfl, rfl, rfl, rfl⟩

/-! ## The end of settling (R10) -/

/-- H has reached the settle start plus the settle distance. -/
abbrev Settled (s : State) : Prop :=
  reaches s.feed.h (posPlus s.feed.settleStart s.settings.geometry.settle) = true

theorem lockSync_settled (settling : s.feed.sync = .settling) (settled : Settled s) : lockSync s =
    raiseGauge .syncRestart (raiseLine .syncLocked
      { s with feed := { s.feed with sync := .locked, nextNum := 0, nextPos := s.feed.h } }) := by
  simp [lockSync, settling, settled]

theorem riseStrobe_settling (settling : s.feed.sync = .settling) (early : ¬ Settled s) : riseStrobe s =
    { s with feed := { s.feed with nextPos := posPlus s.feed.h s.settings.geometry.pitch } } := by
  have waits : lockSync s = s := by simp [lockSync, early]
  simp [riseStrobe, waits, mayIssue, settling]

/-- The state in which sync has just become LOCKED. -/
def relocked (s : State) : State := raiseGauge .syncRestart (raiseLine .syncLocked
  { s with feed := { s.feed with sync := .locked, nextNum := 0, nextPos := s.feed.h } })

@[simp] theorem relocked_feed (s : State) : (relocked s).feed =
    { s.feed with sync := .locked, nextNum := 0, nextPos := s.feed.h } := by simp [relocked]

@[simp] theorem relocked_line (s : State) : (relocked s).line.notices = s.line.notices ||| LineNotice.syncLocked.bit := by
  simp [relocked]

@[simp] theorem relocked_ctl (s : State) : (relocked s).ctl = s.ctl := by simp [relocked]

@[simp] theorem relocked_settings (s : State) : (relocked s).settings = s.settings := by simp [relocked]

theorem relocked_intake (s : State) : (relocked s).intake = { s.intake with notices :=
    if s.ctl.strap = .profile then s.intake.notices ||| GaugeNotice.syncRestart.bit else s.intake.notices } := by
  unfold relocked raiseGauge
  cases strap : s.ctl.strap <;> simp [strap]

theorem reaches_self (h : Pos) : reaches h h = true := by simp [reaches, posDiff]

/-- Where strobes are issued, strobe 0 comes with the end of settling. -/
theorem riseStrobe_settled_issues (settling : s.feed.sync = .settling) (settled : Settled s)
    (permits : s.ctl.phase.permitsStrobes = true) : riseStrobe s = issueStrobe (relocked s) := by
  have due : reaches (relocked s).feed.h (relocked s).feed.nextPos = true := by simp [reaches_self]
  have may : mayIssue (relocked s) = true := by simp [mayIssue, permits]
  rw [riseStrobe, lockSync_settled settling settled]
  exact (if_pos may).trans (if_pos due)

theorem riseStrobe_settled_moves (settling : s.feed.sync = .settling) (settled : Settled s)
    (forbids : s.ctl.phase.permitsStrobes = false) : riseStrobe s = { relocked s with feed := { (relocked s).feed with
      nextPos := posPlus s.feed.h s.settings.geometry.pitch } } := by
  have may : ¬ mayIssue (relocked s) = true := by simp [mayIssue, forbids]
  rw [riseStrobe, lockSync_settled settling settled]
  refine (if_neg may).trans ?_
  rw [← relocked]
  simp

theorem settling_empty (sound : OutstandingSound s) (settling : s.feed.sync = .settling) :
    s.intake.list = [] ∧ s.feed.newest = none := sound.2.2.2.2.2.2 settling

/-- What the end of settling raises, at its own event (R10). -/
theorem riseStrobe_settled_notices (settling : s.feed.sync = .settling) (settled : Settled s) :
    (riseStrobe s).line.notices &&& LineNotice.syncLocked.bit = LineNotice.syncLocked.bit ∧
      (s.ctl.strap = .profile →
        (riseStrobe s).intake.notices &&& GaugeNotice.syncRestart.bit = GaugeNotice.syncRestart.bit) := by
  have path : Trail aPulse (relocked s) (riseStrobe s) := by
    cases permits : s.ctl.phase.permitsStrobes with
    | true =>
      rw [riseStrobe_settled_issues settling settled permits]
      exact issueStrobe_trail rfl (by simpa using permits)
    | false =>
      rw [riseStrobe_settled_moves settling settled permits]
      exact feed_trail _ (.of rfl rfl rfl rfl rfl (.inl rfl) rfl) (.inr rfl)
  have kept := path.flagsKept
  refine ⟨(kept.line (by simp [aPulse])).1.raised ?_, fun profile => (kept.gauge (by simp [aPulse])).1.raised ?_⟩
  · rw [relocked_line]
    exact raised_bit _ _
  · rw [relocked_intake, if_pos profile]
    exact raised_bit _ _

theorem riseEvents_keep_gauge (es : List RiseEvent) (s : State) :
    Keeps s.intake.notices (riseEvents es s).intake.notices :=
  ((riseEvents_path es s).flagsKept.gauge (by simp [aPulse])).1

theorem settle_keeps_gauge (s : State) : Keeps s.intake.notices (settle s).intake.notices :=
  ((settle_trail (c := aPulse)).flagsKept.gauge (by simp [aPulse])).1

/-- Settles O28: in SETTLING the strobe's event alone looks at the settle distance. -/
theorem settlingEndsAtTheSettleDistance : Obligations.SettlingEndsAtTheSettleDistance := by
  refine ⟨fun a b order s sound settling change one ahead first => ?_, fun s sound settling => ?_⟩
  · obtain ⟨_, absent⟩ := settling_empty sound settling
    obtain ⟨u, behind, eq, fresh, h, base, geometry, phase, strap⟩ := rise_about_strobe a b (s := s) first
    refine ⟨_, exec_rise change one ahead order, (riseEvents_h _ _).1, (riseEvents_h _ _).2, ?_⟩
    rw [eq]
    have after := (riseEvents_strobeBase fresh (riseEvent .strobe u)).trans (settle_strobeBase (riseStrobe u))
    have lineKept := (settle_keeps_notices (riseStrobe u)).trans (riseEvents_keep_notices behind (riseEvent .strobe u))
    have gaugeKept := (settle_keeps_gauge (riseStrobe u)).trans (riseEvents_keep_gauge behind (riseEvent .strobe u))
    generalize riseEvents behind (riseEvent .strobe u) = t at after lineKept gaugeKept
    simp only [Feed.strobeBase, Prod.mk.injEq] at base after
    obtain ⟨sync, start, nextNum, nextPos, newest, pulses⟩ := base
    obtain ⟨sync', _, nextNum', nextPos', newest', pulses'⟩ := after
    have settling' : u.feed.sync = .settling := sync.trans settling
    have none' : u.feed.newest = none := newest.trans absent
    rw [sync', nextNum', nextPos', newest', pulses', ← h, ← start, ← nextNum, ← pulses, ← geometry, ← phase, ← strap]
    by_cases settled : Settled u
    · rw [if_pos settled]
      obtain ⟨line, gauge⟩ := riseStrobe_settled_notices settling' settled
      cases permits : u.ctl.phase.permitsStrobes with
      | true =>
        rw [if_pos rfl]
        refine ⟨?_, lineKept.raised line, fun profile => gaugeKept.raised (gauge profile), ?_⟩ <;>
          rw [riseStrobe_settled_issues settling' settled permits, issueStrobe_feed] <;> simp
      | false =>
        rw [if_neg (by decide)]
        refine ⟨?_, lineKept.raised line, fun profile => gaugeKept.raised (gauge profile), ?_⟩ <;>
          rw [riseStrobe_settled_moves settling' settled permits] <;> simp [none']
    · rw [if_neg settled, riseStrobe_settling settling' settled]
      exact ⟨settling', none', rfl, rfl, rfl⟩
  · obtain ⟨empty, absent⟩ := settling_empty sound settling
    by_cases settled : Settled s
    · rw [if_pos settled]
      cases permits : s.ctl.phase.permitsStrobes with
      | true =>
        rw [riseStrobe_settled_issues settling settled permits, if_pos rfl]
        have room : (relocked s).intake.list.length < 16 := by simp [relocked_intake, empty]
        have joined : (issueStrobe (relocked s)).line = (relocked s).line := by
          rw [issueStrobe, joinList_room _ _ room]
        rw [issueStrobe_intake, issueStrobe_feed, joined, joinList_room _ _ room]
        simp [relocked_intake, empty]
      | false =>
        rw [riseStrobe_settled_moves settling settled permits, if_neg (c := false = true) (by decide)]
        simp [relocked_intake, empty, absent]
    · rw [if_neg settled, riseStrobe_settling settling settled]

end Sys2Proof.Machine

/-! PROOFS. What a discontinuity and a new scale leave (O29, O60): after a flush the knife-clear test and the grant
find nothing more to empty. -/

namespace Sys2Proof.Machine

variable {s t u : State} {c : Instr}

/-! ## After a flush -/

/-- Nothing is left to empty: the work is gone and every range is closed. -/
structure Cleared (s : State) : Prop where
  list : s.intake.list = []
  slices : s.track.slices = []
  pending : s.track.pendingKnife = none
  finished : ∀ r ∈ s.hides.records, r.state.unfinished = false ∧ r.rangeOpen = false
  flushed : s.track.flushedCount ≤ 4294967295

theorem Cleared.of (cleared : Cleared s) (intake : t.intake.list = s.intake.list) (track : t.track = s.track)
    (hides : t.hides = s.hides) : Cleared t := by
  obtain ⟨list, slices, pending, finished, flushed⟩ := cleared
  exact ⟨by rwa [intake], by rwa [track], by rwa [track], by rwa [hides], by rwa [track]⟩

theorem HideRecord.emptied_closed (cause : AbandonCause) (r : HideRecord) :
    (r.emptied cause).state.unfinished = false ∧ (r.emptied cause).rangeOpen = false := by
  unfold HideRecord.emptied
  split
  case isTrue => exact ⟨rfl, rfl⟩
  case isFalse finished => exact ⟨by simpa using finished, rfl⟩

theorem cleared_flush (cause : AbandonCause) (s : State) : Cleared (flush cause s) := by
  rw [flush_values, emptyTrack_values]
  refine ⟨rfl, rfl, rfl, fun r held => ?_, Nat.min_le_left _ _⟩
  obtain ⟨q, _, rfl⟩ := List.mem_map.mp held
  exact q.emptied_closed cause

theorem emptied_of_closed {r : HideRecord} (cause : AbandonCause) (finished : r.state.unfinished = false)
    (closed : r.rangeOpen = false) : r.emptied cause = r := by
  rw [r.emptied_finished finished, ← closed]

theorem Cleared.unfinished (cleared : Cleared s) : anyUnfinished s = false := by
  rw [anyUnfinished, List.any_eq_false]
  exact fun r held => by simp [(cleared.finished r held).1]

theorem Cleared.abandonedTable (cleared : Cleared s) (cause : AbandonCause) : abandonedTable cause s.hides = s.hides := by
  have records : s.hides.records.map (HideRecord.emptied cause) = s.hides.records := by
    conv_rhs => rw [← List.map_id s.hides.records]
    exact List.map_congr_left fun r held =>
      emptied_of_closed cause (cleared.finished r held).1 (cleared.finished r held).2
  have leaving : s.hides.records.filter (fun r => r.state.unfinished) = [] :=
    List.filter_eq_nil_iff.mpr fun r held => by simp [(cleared.finished r held).1]
  rw [Machine.abandonedTable, records, leaving]
  simp [sortByFirst]

theorem Cleared.emptiedTrack (cleared : Cleared s) : emptiedTrack s.track = s.track := by
  have kept : addTo Config.counter32 s.track.flushedCount s.track.slices.length = s.track.flushedCount := by
    rw [cleared.slices]
    exact Nat.min_eq_right cleared.flushed
  rw [Machine.emptiedTrack, kept, ← cleared.slices]

/-- Emptying again changes the channels and the link alone. -/
theorem Cleared.emptyTrack (cleared : Cleared s) (cause : AbandonCause) : emptyTrack cause s = { s with
    zones := s.zones.map (Channel.detach fun _ => true), link := s.link.detach fun _ => true } := by
  rw [emptyTrack_values, cleared.abandonedTable, cleared.emptiedTrack, cleared.unfinished, cleared.pending]
  simp only [Option.getD_none, Option.isSome_none, noticeIf_false]
  rw [← cleared.pending, ← cleared.list]
  simp

/-- The work and the notices other than REST_ENTERED stand. -/
structure WorkStands (s t : State) : Prop where
  intake : t.intake = s.intake
  hides : t.hides = s.hides
  track : t.track = s.track
  settings : t.settings = s.settings
  line : ∃ entered, t.line = { s.line with notices := s.line.notices ||| noticeIf entered .restEntered }

theorem WorkStands.of (intake : t.intake = s.intake) (hides : t.hides = s.hides) (track : t.track = s.track)
    (settings : t.settings = s.settings) (line : t.line = s.line) : WorkStands s t :=
  ⟨intake, hides, track, settings, false, by simp [line]⟩

theorem WorkStands.notices (stands : WorkStands s t) {n : LineNotice} (apart : LineNotice.restEntered.bit &&& n.bit = 0) :
    t.line.notices &&& n.bit = s.line.notices &&& n.bit := by
  obtain ⟨entered, line⟩ := stands.line
  rw [line]
  exact raised_apart (noticeIf_apart apart entered) _

theorem placePark_track_empty (empty : s.track.slices = []) (z : Nat) : (placePark z s).track = s.track := by
  unfold placePark
  split
  · simp [place, report_track_empty empty]
  · rfl

theorem placeParks_track_empty (empty : s.track.slices = []) : (forZones placePark s).track = s.track := by
  refine forZones_related (R := fun a b => a.track.slices = [] → b.track = a.track) (fun _ _ => rfl) ?_ ?_ s empty
  · exact fun first second none => (second (first none ▸ none)).trans (first none)
  · exact fun z a none => placePark_track_empty none z

theorem forZones_same {α : Type} (part : State → α) {f : Nat → State → State}
    (each : ∀ z s, part (f z s) = part s) (s : State) : part (forZones f s) = part s :=
  forZones_keeps part f each s

theorem Cleared.enterPark (cleared : Cleared s) : WorkStands s (enterPark s) := by
  have phased : Cleared (enterPhase .park s) := cleared.of (by simp) (by simp) (by simp)
  have emptied := phased.emptyTrack .park
  refine ⟨?_, ?_, ?_, ?_, true, ?_⟩ <;> simp only [Machine.enterPark, raiseLine_intake, raiseLine_hides,
    raiseLine_track, raiseLine_settings, startDwell_intake, startDwell_hides, startDwell_track, startDwell_settings]
  · rw [forZones_same State.intake placePark_intake, emptied]
    exact enterPhase_intake _ _
  · rw [forZones_same State.hides placePark_hides, emptied]
    exact enterPhase_hides _ _
  · rw [placeParks_track_empty (by simp), emptied]
    exact enterPhase_track _ _
  · rw [forZones_same State.settings placePark_settings, emptied]
    exact enterPhase_settings _ _
  · simp only [raiseLine, startDwell_line]
    rw [forZones_same State.line placePark_line, emptied]
    simp

theorem enterDwell_stands (s : State) : WorkStands s (enterDwell s) :=
  ⟨by simp, by simp, by simp, by simp, true, by simp [enterDwell, raiseLine]⟩

theorem Cleared.enterRest (cleared : Cleared s) : WorkStands s (enterRest s) := by
  unfold Machine.enterRest
  split
  · exact enterDwell_stands s
  · exact cleared.enterPark

theorem WorkStands.trans_same (h : WorkStands s t) (intake : u.intake = t.intake) (hides : u.hides = t.hides)
    (track : u.track = t.track) (settings : u.settings = t.settings) (line : u.line = t.line) : WorkStands s u :=
  ⟨intake.trans h.intake, hides.trans h.hides, track.trans h.track, settings.trans h.settings, by rw [line]; exact h.line⟩

theorem Cleared.enterBraking (cleared : Cleared s) : WorkStands s (enterBraking s) := by
  unfold Machine.enterBraking
  dsimp only
  split
  · have stands := Cleared.enterRest (s := enterPhase .braking s) (cleared.of (by simp) (by simp) (by simp))
    obtain ⟨entered, line⟩ := stands.line
    refine ⟨stands.intake.trans (by simp), stands.hides.trans (by simp), stands.track.trans (by simp),
      stands.settings.trans (by simp), entered, by simpa using line⟩
  · exact .of (by simp) (by simp) (by simp) (by simp) (by simp)

theorem Cleared.settle (cleared : Cleared s) : WorkStands s (settle s) := by
  have passed : WorkStands s (passClearing s) := by
    unfold passClearing
    split
    · exact cleared.enterBraking
    · exact .of rfl rfl rfl rfl rfl
  exact passed.trans_same (by simp [Machine.settle]) (by simp [Machine.settle]) (by simp [Machine.settle])
    (by simp [Machine.settle]) (by simp [Machine.settle])

/-! ## The restart of the measurement (R7, R11) -/

/-- SETTLING at the present H, a flush, the slip window restarted, and what ends the event. -/
def restartedBy (cause : AbandonCause) (s : State) : State := settle (restartWindow (flush cause (enterSettling s)))

theorem restartedBy_core (cause : AbandonCause) (s : State) : (restartedBy cause s).feed.core =
    { s.feed.core with
      sync := .settling, settleStart := s.feed.h, newest := none, slip := ⟨s.feed.h, 0, 0⟩
      capture := none, overwrite := false } := by
  rw [restartedBy, settle_core]
  simp [restartWindow, openWindow, flush_values, enterSettling, Feed.core]

theorem enterSettling_line (s : State) : (enterSettling s).line = { s.line with
    notices := s.line.notices ||| noticeIf (decide (s.feed.sync = .locked)) .syncLost } := by
  rw [enterSettling, raiseLineIf_eq]

/-- The work that such a restart leaves. -/
theorem restartedBy_work (cause : AbandonCause) (s : State) :
    WorkStands (flush cause (enterSettling s)) (restartedBy cause s) := by
  have cleared : Cleared (restartWindow (flush cause (enterSettling s))) :=
    (cleared_flush cause (enterSettling s)).of rfl rfl rfl
  obtain ⟨intake, hides, track, settings, entered, line⟩ := cleared.settle
  exact ⟨intake, hides, track, settings, entered, line⟩

theorem restartedBy_hides (cause : AbandonCause) (s : State) :
    (restartedBy cause s).hides = abandonedTable cause s.hides := by
  rw [(restartedBy_work cause s).hides]
  simp

theorem restartedBy_track (cause : AbandonCause) (s : State) :
    (restartedBy cause s).track = { emptiedTrack s.track with pendingKnife := none } := by
  rw [(restartedBy_work cause s).track, flush_values, emptyTrack_values]
  simp

theorem restartedBy_list (cause : AbandonCause) (s : State) : (restartedBy cause s).intake.list = [] := by
  rw [(restartedBy_work cause s).intake]
  simp

theorem flush_enterSettling_notices (cause : AbandonCause) (s : State) :
    (flush cause (enterSettling s)).line.notices = s.line.notices |||
      noticeIf (decide (s.feed.sync = .locked)) .syncLost ||| noticeIf (anyUnfinished s) .hideAbandoned |||
      noticeIf s.track.pendingKnife.isSome .knifeApplied := by
  rw [flush_values, emptyTrack_values]
  simp only [enterSettling_line, enterSettling_track]
  rw [anyUnfinished_congr (s := s) (by simp)]

theorem restartedBy_syncLost (cause : AbandonCause) (s : State) :
    (restartedBy cause s).line.notices &&& LineNotice.syncLost.bit =
      if s.feed.sync = .locked then LineNotice.syncLost.bit else s.line.notices &&& LineNotice.syncLost.bit := by
  rw [(restartedBy_work cause s).notices (by decide), flush_enterSettling_notices,
    raised_apart (noticeIf_apart (by decide) _), raised_apart (noticeIf_apart (by decide) _)]
  by_cases locked : s.feed.sync = .locked
  · simp [locked, raised_bit]
  · simp [locked]

theorem restartedBy_joined (cause : AbandonCause) (s : State) : AbandonedJoined s (restartedBy cause s) := by
  refine abandonedJoined_of_hides (restartedBy_hides cause s) ?_
  rw [(restartedBy_work cause s).notices (by decide), flush_enterSettling_notices,
    raised_apart (noticeIf_apart (by decide) _)]
  cases anyUnfinished s with
  | true => simp [raised_bit]
  | false => simp [raised_apart (noticeIf_apart (n := .syncLost) (m := .hideAbandoned) (by decide) _)]

/-! ## A fall of F (R6, R7) -/

theorem reverseCounts_one {scale acc : Nat} (one : acc < 100 ∧ 100 ≤ acc + scale) : reverseCounts scale acc = 1 :=
  Nat.div_eq_of_lt_le (by omega) (by omega)

theorem exec_fall {a b : Bool} {s : State} (change : (s.feed.botRef, ⟨a, b⟩) ∈ reverseChanges)
    (one : s.feed.botAcc < 100 ∧ 100 ≤ s.feed.botAcc + s.settings.scale) (order : List RiseEvent) :
    exec (.bottomPulse a b order) s = .next (fallF (reversed a b s)) := by
  rw [exec_reverse change, reverseCounts_one one]
  rfl

/-- Settles O29: a discontinuity restarts the measurement at F. -/
theorem fallOfFIsWithinToleranceOrADiscontinuity : Obligations.FallOfFIsWithinToleranceOrADiscontinuity := by
  intro a b order s change one
  have acc : (reversed a b s).feed.botAcc = s.feed.botAcc + s.settings.scale - 100 := by
    simp [reversed, reverseAcc, reverseCounts_one one]
  obtain ⟨h, encoders⟩ := fallF_encoders (reversed a b s)
  simp only [Feed.encoders, Prod.mk.injEq] at encoders
  refine ⟨_, exec_fall change one order, encoders.1, ?_⟩
  by_cases within : posDiff (s.feed.f - 1) s.feed.h ≤ s.settings.geometry.tolerance
  · rw [if_pos within]
    have stays : fallF (reversed a b s) =
        { reversed a b s with feed := { (reversed a b s).feed with f := s.feed.f - 1 } } :=
      if_neg (not_lt.mpr within)
    rw [stays, ← acc]
    rfl
  · rw [if_neg within]
    let v : State := { reversed a b s with feed := { (reversed a b s).feed with f := s.feed.f - 1, h := s.feed.f - 1 } }
    have falls : fallF (reversed a b s) = restartedBy .reverse v := if_pos (not_le.mp within)
    rw [falls]
    have core := restartedBy_core .reverse v
    have track := restartedBy_track .reverse v
    have hides : (restartedBy .reverse v).hides = abandonedTable .reverse s.hides := restartedBy_hides .reverse v
    have joined := restartedBy_joined .reverse v
    have lost := restartedBy_syncLost .reverse v
    have list := restartedBy_list .reverse v
    generalize restartedBy .reverse v = t at core track hides joined lost list
    refine ⟨congrArg Feed.h core, congrArg Feed.sync core, congrArg Feed.settleStart core, congrArg Feed.newest core,
      congrArg Feed.slip core, congrArg Feed.capture core, congrArg Feed.overwrite core, list, congrArg Track.slices track,
      congrArg Track.flushedCount track, anyUnfinished_of_hides hides, emptiedBy_of_hides hides, joined, lost⟩

/-! ## SET_GEOMETRY and SET_SCALE (R163 to R165) -/

theorem takeScale_eq (scale : Nat) (s : State) : takeScale scale s = restartedBy .scale { s with
    settings := { s.settings with scale := scale }, feed := { s.feed with botAcc := 0, topAcc := 0 } } := rfl

/-- Settles O60: the items name the refusals, and a new scale restarts the measurement at H. -/
theorem geometryAndScaleRestartTheMeasurement : Obligations.GeometryAndScaleRestartTheMeasurement := by
  intro s
  refine ⟨?refused, ?geometry, ?scaleRefused, ?scale⟩
  case refused =>
    rintro g st item (⟨rfl, rfl, locked⟩ | ⟨unlocked, ⟨rfl, rfl, other⟩ | ⟨rfl, unmet, before, standby⟩⟩)
    · simp only [exec, execSetGeometry, locked, if_true]
      rfl
    · simp only [exec, execSetGeometry, unlocked, other]
      rfl
    · have listed := geometryItem_listed unmet
      simp [exec, execSetGeometry, unlocked, standby, geometryItem_eq unmet before, show item ≠ 0 by omega]
  case geometry =>
    intro g unlocked standby met
    have run : exec (.setGeometry g) s = .next (answerLine 0x34 .ok [0] (takeGeometry g s)) := by
      simp [exec, execSetGeometry, unlocked, standby, geometryItem_of_met met]
    exact run
  case scaleRefused =>
    rintro scale st (⟨rfl, locked⟩ | ⟨rfl, unlocked, out⟩)
    · simp [exec, execSetScale, locked]
    · simp [exec, execSetScale, unlocked, show ¬ (10 ≤ scale ∧ scale ≤ 4000) by omega]
  case scale =>
    intro scale unlocked low high
    let v : State := { s with
      settings := { s.settings with scale := scale }, feed := { s.feed with botAcc := 0, topAcc := 0 } }
    have run : exec (.setScale scale) s = .next (answerLine 0x35 .ok (nat16 scale) (restartedBy .scale v)) := by
      rw [← takeScale_eq]
      simp [exec, execSetScale, unlocked, low, high]
    have core := restartedBy_core .scale v
    have hides : (restartedBy .scale v).hides = abandonedTable .scale s.hides := restartedBy_hides .scale v
    have joined := restartedBy_joined .scale v
    have lost := restartedBy_syncLost .scale v
    have list := restartedBy_list .scale v
    have slices : (restartedBy .scale v).track.slices = [] := by rw [restartedBy_track]; rfl
    have settings : (restartedBy .scale v).settings = { v.settings with
        knife := s.track.pendingKnife.getD s.settings.knife } := by
      rw [(restartedBy_work .scale v).settings, flush_values, emptyTrack_values]
      simp [v]
    have port : linePort (restartedBy .scale v) = linePort s := by
      obtain ⟨entered, line⟩ := (restartedBy_work .scale v).line
      rw [linePort, line, flush_values, emptyTrack_values]
      simp only [enterSettling_line]
      rfl
    generalize restartedBy .scale v = t at core hides joined lost list slices settings port run
    refine ⟨_, run, ?_, fun free => ?_, (congrArg Feed.botAcc core :), (congrArg Feed.topAcc core :), (congrArg Feed.f core :),
      (congrArg Feed.h core :), (congrArg Feed.sync core :), (congrArg Feed.settleStart core :), (congrArg Feed.newest core :),
      (congrArg Feed.slip core :), (congrArg Feed.capture core :), (congrArg Feed.overwrite core :), list, slices,
      anyUnfinished_of_hides hides, emptiedBy_of_hides hides, ?_, ?_, ?_, fun locked => ?_⟩
    · rw [answerLine_settings, settings]
    · have held : t.line.hold = false := (congrArg Prod.snd port).trans free
      simp [answerLine, held, Port.answerWith]
    · exact abandonedJoined_of_hides hides (by
        rw [answerLine_notices]
        have := joined.2.2
        rw [this]
        cases unfinished : anyUnfinished v with
        | true =>
          rw [show anyUnfinished s = true from unfinished]
          simp [raised_bit]
        | false =>
          rw [show anyUnfinished s = false from unfinished]
          simp
          rfl)
    · rw [answerLine_settings, settings]
    · rw [answerLine_settings, settings]
    · rw [answerLine_notices, lost, if_pos locked]

end Sys2Proof.Machine

/-! PROOFS. Zone selection (O35). -/

namespace Sys2Proof.Machine

/-! ## Present zones (R89) -/

theorem SplitInput.reading_eq (i : SplitInput) (z : Nat) : i.reading z = (i.readings.getD []).getD z .absent := by
  unfold SplitInput.reading
  cases i.readings <;> rfl

theorem SplitInput.present_iff {i : SplitInput} {z t : Nat} :
    i.present z = some t ↔ z < i.active ∧ i.reading z = .thickness t := by
  unfold SplitInput.present
  split
  case isTrue below => cases i.reading z <;> simp [below]
  case isFalse beyond => simp [beyond]

theorem SplitInput.mem_presentZones {i : SplitInput} {z : Nat} :
    z ∈ i.presentZones ↔ ∃ t, z < i.active ∧ i.reading z = .thickness t := by
  simp only [presentZones, List.mem_filter, List.mem_range, Option.isSome_iff_exists, present_iff]
  exact ⟨fun ⟨_, there⟩ => there, fun ⟨t, below, there⟩ => ⟨below, t, below, there⟩⟩

theorem SplitInput.presentZones_rise (i : SplitInput) : i.presentZones.Pairwise (· < ·) :=
  List.pairwise_lt_range.filter _

theorem SplitInput.presentZones_eq_nil {i : SplitInput}
    (none : ∀ z t, z < i.active → i.reading z ≠ .thickness t) : i.presentZones = [] := by
  refine List.eq_nil_iff_forall_not_mem.mpr fun z held => ?_
  obtain ⟨t, below, there⟩ := mem_presentZones.mp held
  exact none z t below there

/-! ## The donor (R91) -/

theorem zoneDistance_eq (a b : Nat) : zoneDistance a b = (b - a) + (a - b) := by
  unfold zoneDistance
  split <;> omega

theorem nearest_mem {z d : Nat} {zones : List Nat} (found : nearest z zones = some d) : d ∈ zones := by
  induction zones generalizing d with
  | nil => simp [nearest] at found
  | cons a rest ih =>
    rw [nearest] at found
    split at found
    · simp_all
    · split at found <;> simp_all

/-- The nearest of rising zones, of two at one distance the lower. -/
theorem nearest_eq {z d : Nat} {zones : List Nat} (rise : zones.Pairwise (· < ·)) (held : d ∈ zones)
    (best : ∀ e ∈ zones, zoneDistance z d < zoneDistance z e ∨ (zoneDistance z d = zoneDistance z e ∧ d ≤ e)) :
    nearest z zones = some d := by
  induction zones with
  | nil => simp at held
  | cons a rest ih =>
    obtain ⟨first, rise⟩ := List.pairwise_cons.mp rise
    rcases List.mem_cons.mp held with rfl | behind
    · cases found : nearest z rest with
      | none => simp [nearest, found]
      | some e =>
        have closer := best e (List.mem_cons_of_mem _ (nearest_mem found))
        simp [nearest, found, show zoneDistance z d ≤ zoneDistance z e by omega]
    · have farther := best a List.mem_cons_self
      have below := first d behind
      rw [nearest, ih rise behind fun e there => best e (List.mem_cons_of_mem _ there)]
      simp [show ¬ zoneDistance z a ≤ zoneDistance z d by omega]

/-! ## The branches of stage 1 (R89, R91) -/

variable {i : SplitInput} {z : Nat}

theorem SplitInput.zone_out (out : (i.channel z).mode ≠ .track) : i.zone z = .without .notTrack := by
  unfold SplitInput.zone
  split <;> simp_all

theorem SplitInput.zone_empty (track : (i.channel z).mode = .track) (empty : i.presentZones = []) :
    i.zone z = .without .held := by
  simp [SplitInput.zone, track, empty]

theorem SplitInput.zone_doubtful (track : (i.channel z).mode = .track) (doubtful : i.reading z = .doubtful) :
    i.zone z = .without .held := by
  rw [SplitInput.zone, track]
  dsimp only
  split
  · rfl
  · rw [doubtful]

theorem SplitInput.zone_present {t : Nat} (track : (i.channel z).mode = .track) (below : z < i.active)
    (present : i.reading z = .thickness t) :
    i.zone z = i.deliver z (rawTarget i.article (i.knife.getD z 0) t) false (residual i.article t) := by
  have raw : i.raw z = rawTarget i.article (i.knife.getD z 0) t := by
    rw [SplitInput.raw, present_iff.mpr ⟨below, present⟩]
  rw [SplitInput.zone, track]
  dsimp only
  split
  case h_1 empty =>
    have there := mem_presentZones.mpr ⟨t, below, present⟩
    simp [empty] at there
  case h_2 => rw [present, raw]

theorem SplitInput.zone_borrows {d t : Nat} (track : (i.channel z).mode = .track) (absent : i.reading z = .absent)
    (donor : nearest z i.presentZones = some d) (below : d < i.active) (present : i.reading d = .thickness t) :
    i.zone z = i.deliver z (rawTarget i.article (i.knife.getD d 0) t) true false := by
  have raw : i.raw d = rawTarget i.article (i.knife.getD d 0) t := by
    rw [SplitInput.raw, present_iff.mpr ⟨below, present⟩]
  rw [SplitInput.zone, track]
  dsimp only
  split
  case h_1 empty =>
    have there := nearest_mem donor
    simp [empty] at there
  case h_2 =>
    rw [absent, donor, ← raw]

/-- Settles O35: each branch of stage 1 is taken by the reading that it names, and the donor is the nearest. -/
theorem zonesAreSelectedByTheirReadings : Obligations.ZonesAreSelectedByTheirReadings := by
  intro i z below
  simp only [← SplitInput.reading_eq]
  refine ⟨fun _ _ _ => rfl, SplitInput.zone_out, fun track none => ?_, SplitInput.zone_doubtful,
    fun t track present => SplitInput.zone_present track below present, fun d t track absent within present best => ?_⟩
  · exact SplitInput.zone_empty track (SplitInput.presentZones_eq_nil none)
  · refine SplitInput.zone_borrows track absent (nearest_eq i.presentZones_rise ?_ fun e held => ?_) within present
    · exact SplitInput.mem_presentZones.mpr ⟨t, within, present⟩
    · obtain ⟨u, there, thick⟩ := SplitInput.mem_presentZones.mp held
      simpa only [zoneDistance_eq] using best e u there thick

end Sys2Proof.Machine

/-! PROOFS. Wake sources and wake events (O39, O40). -/

namespace Sys2Proof.Machine

variable {s t u : State}

/-! ## Answers that wait in their port -/

theorem answerLine_answer (k : Byte) (status : Status) (fields : List Byte) (free : s.line.hold = false) :
    (answerLine k status fields s).line.port.answer = some { kind := k, status := status, fields := fields } := by
  simp [answerLine_eq, free]

theorem answerGauge_answer (k : Byte) (status : Status) (fields : List Byte) (s : State) :
    (answerGauge k status fields s).intake.port.answer = some { kind := k, status := status, fields := fields } := rfl

theorem hold_of_linePort (same : linePort t = linePort s) : t.line.hold = s.line.hold := congrArg Prod.snd same

/-! ## What a transition leaves of the controller -/

@[simp] theorem enterPhase_flags (p : Phase) (s : State) : (enterPhase p s).ctl.flags = s.ctl.flags := by
  simp [enterPhase]
@[simp] theorem enterPhase_enables (p : Phase) (s : State) : (enterPhase p s).ctl.enables = s.ctl.enables := by
  simp [enterPhase]
@[simp] theorem enterPhase_dwell (p : Phase) (s : State) : (enterPhase p s).ctl.dwell = s.ctl.dwell := by
  simp [enterPhase]
@[simp] theorem stopDwell_running (s : State) : (stopDwell s).ctl.dwell.running = false := rfl
@[simp] theorem enterRun_running (s : State) : (enterRun s).ctl.dwell.running = false := rfl
@[simp] theorem enterRun_feedStop (s : State) : (enterRun s).ctl.feedStop = false := by
  rw [enterRun]
  exact enterPhase_feedStop .run s
@[simp] theorem enterRun_restTarget (s : State) : (enterRun s).ctl.restTarget = s.ctl.restTarget := by
  rw [enterRun]
  exact enterPhase_restTarget .run s
@[simp] theorem enterRun_core (s : State) : (enterRun s).feed.core = s.feed.core := by simp [enterRun]

/-- A stopped timer stays as it is. -/
theorem stopDwell_of_stopped (stopped : s.ctl.dwell.running = false) : stopDwell s = s := by
  have kept : ({ running := false, remaining := dwellRemaining s, start := s.ctl.dwell.start } : DwellTimer) =
      s.ctl.dwell := by
    rw [dwellRemaining, if_neg (by simp [stopped]), ← stopped]
  rw [stopDwell, kept]

theorem enterRun_of_stopped (stopped : s.ctl.dwell.running = false) : (enterRun s).ctl.dwell = s.ctl.dwell := by
  rw [enterRun, stopDwell_of_stopped (by simpa using stopped), enterPhase_dwell]

/-! ## RESUMING (R121, R139) -/

/-- The entry gap and its mark, for a TRACK channel. -/
def Channel.entered (gap : Int) (c : Channel) : Channel :=
  if c.mode = .track then
    { c with
      slot := some { gap := gap, cause := .entry, ref := none }
      entryMark := true }
  else c

theorem Channel.entered_entryMark (gap : Int) (c : Channel) :
    (c.entered gap).entryMark = (decide (c.mode = .track) || c.entryMark) := by
  unfold Channel.entered
  split <;> simp_all

@[simp] theorem placeEntry_count (z : Nat) (s : State) : (placeEntry z s).zones.length = s.zones.length := by
  unfold placeEntry
  split <;> simp

theorem channel_placeEntries (y : Nat) (s : State) : channel (forZones placeEntry s) y =
    if y < 16 ∧ y < s.zones.length then (channel s y).entered s.settings.geometry.entryGap else channel s y := by
  refine channel_forZones (g := fun x c => c.entered x.geometry.entryGap) placeEntry_settings placeEntry_count
    (fun z y s => ?_) y s
  rw [channel_placeEntry]
  by_cases here : y = z ∧ z < s.zones.length
  · rw [if_pos here]
    obtain ⟨rfl, below⟩ := here
    simp [below, Channel.entered]
  · simp [here]

theorem channel_enterResuming (y : Nat) (s : State) : channel (enterResuming s) y =
    if y < 16 ∧ y < s.zones.length then (channel s y).entered s.settings.geometry.entryGap else channel s y := by
  rw [enterResuming, channel_passResuming, channel_placeEntries]
  simp [channel_congr (enterPhase_zones .resuming s)]

theorem anyEntryMark_placeEntries (count : s.zones.length = 16) : anyEntryMark (forZones placeEntry s) =
    s.zones.any fun c => decide (c.mode = .track) || c.entryMark := by
  rw [Bool.eq_iff_iff]
  simp only [anyEntryMark, List.any_eq_true, mem_zones_iff, forZones_count placeEntry_count, channel_placeEntries, count]
  constructor
  · rintro ⟨_, ⟨z, below, rfl⟩, mark⟩
    rw [if_pos ⟨below, below⟩, Channel.entered_entryMark] at mark
    exact ⟨_, ⟨z, below, rfl⟩, mark⟩
  · rintro ⟨_, ⟨z, below, rfl⟩, mark⟩
    exact ⟨_, ⟨z, below, rfl⟩, by rwa [if_pos ⟨below, below⟩, Channel.entered_entryMark]⟩

theorem enterResuming_phase_eq (count : s.zones.length = 16) : (enterResuming s).ctl.phase =
    if s.zones.any (fun c => decide (c.mode = .track) || c.entryMark) then .resuming else .run := by
  have resuming : (forZones placeEntry (enterPhase .resuming s)).ctl.phase = .resuming := by
    rw [forZones_ctl placeEntry_ctl, enterPhase_phase]
  rw [enterResuming, passResuming_phase, resuming, anyEntryMark_placeEntries (by simpa using count)]
  simp only [enterPhase_zones]
  cases s.zones.any _ <;> simp

/-- RESUMING, and RUN behind it, leave of the controller what a transition and the stop of the timer leave. -/
theorem enterResuming_ctl (s : State) : (enterResuming s).ctl.flags = s.ctl.flags ∧
    (enterResuming s).ctl.enables = s.ctl.enables ∧ (enterResuming s).ctl.restTarget = s.ctl.restTarget ∧
    (s.ctl.dwell.running = false → (enterResuming s).ctl.dwell = s.ctl.dwell) := by
  have placed : (forZones placeEntry (enterPhase .resuming s)).ctl = (enterPhase .resuming s).ctl :=
    forZones_ctl placeEntry_ctl _
  unfold enterResuming passResuming
  split
  · have flags : (forZones placeEntry (enterPhase .resuming s)).ctl.flags = s.ctl.flags := by rw [placed]; simp
    have dwell : (forZones placeEntry (enterPhase .resuming s)).ctl.dwell = s.ctl.dwell := by rw [placed]; simp
    have target : (forZones placeEntry (enterPhase .resuming s)).ctl.restTarget = s.ctl.restTarget := by
      rw [placed]; exact enterPhase_restTarget _ _
    have enables : (forZones placeEntry (enterPhase .resuming s)).ctl.enables = s.ctl.enables := by rw [placed]; simp
    refine ⟨(enterRun_flags _).trans flags, ?_, (enterRun_restTarget _).trans target, fun stopped => ?_⟩
    · rw [enterRun]
      simpa using enables
    · rw [enterRun_of_stopped (by rwa [dwell]), dwell]
  · rw [placed]
    simp [enterPhase_restTarget]

@[simp] theorem enterResuming_core (s : State) : (enterResuming s).feed.core = s.feed.core := by
  have placed : (forZones placeEntry (enterPhase .resuming s)).feed.core = s.feed.core := by
    rw [forZones_keeps State.feed placeEntry placeEntry_feed, enterPhase_core]
  unfold enterResuming passResuming
  split
  · rw [enterRun_core, placed]
  · exact placed

/-! ## Wake events (R134, R146 to R148) -/

@[simp] theorem wakeEvent_core (s : State) : (wakeEvent s).feed.core = s.feed.core := by
  unfold wakeEvent
  split <;> simp

theorem phaseAfterWake_park (park : s.ctl.phase = .park) : phaseAfterWake s =
    if s.zones.any (fun c => c.mode = .track || c.entryMark) then .resuming else .run := by
  simp only [phaseAfterWake, park]

theorem wakeEvent_phase (count : s.zones.length = 16) : (wakeEvent s).ctl.phase = phaseAfterWake s := by
  unfold wakeEvent
  split
  case h_4 park =>
    rw [phaseAfterWake_park park]
    simpa using enterResuming_phase_eq (s := stopDwell s) (by simpa using count)
  all_goals simp [phaseAfterWake, *]

theorem wakeEvent_dwell (stopped : s.ctl.dwell.running = false) : (wakeEvent s).ctl.dwell = s.ctl.dwell := by
  unfold wakeEvent
  split
  case h_4 =>
    rw [stopDwell_of_stopped stopped, raiseLine_ctl, arbitrate_ctl]
    exact (enterResuming_ctl s).2.2.2 stopped
  all_goals simp [enterRun_of_stopped stopped]

theorem wakeEvent_restTarget (s : State) : (wakeEvent s).ctl.restTarget = s.ctl.restTarget := by
  unfold wakeEvent
  split
  case h_4 =>
    rw [raiseLine_ctl, arbitrate_ctl]
    exact (enterResuming_ctl (stopDwell s)).2.2.1
  all_goals simp

theorem wakeEvent_apart (apart : s.ctl.phase ≠ .park) :
    (wakeEvent s).zones = s.zones ∧ (wakeEvent s).track = s.track := by
  unfold wakeEvent
  split <;> simp_all

/-! ## A change of the flags or the enables -/

/-- What a change of flags or enables leaves, and the machine state it brings. -/
structure WakeChanged (held armed : BitVec 4) (s t : State) : Prop where
  flags : t.ctl.flags = held
  enables : t.ctl.enables = armed
  phase : s.zones.length = 16 → t.ctl.phase = phaseWith held armed s
  core : t.feed.core = s.feed.core
  dwell : s.ctl.dwell.running = false → t.ctl.dwell = s.ctl.dwell

theorem changeWake_changed {f : Controller → Controller} (phase : (f s.ctl).phase = s.ctl.phase)
    (dwell : (f s.ctl).dwell = s.ctl.dwell) :
    WakeChanged (f s.ctl).flags (f s.ctl).enables s (changeWake f s) := by
  have wakes : ((f s.ctl).wakeHolds && !s.ctl.wakeHolds) = true ↔
      (f s.ctl).flags &&& (f s.ctl).enables ≠ 0 ∧ s.ctl.flags &&& s.ctl.enables = 0 := by
    simp [Controller.wakeHolds]
  have after : phaseAfterWake { s with ctl := f s.ctl } = phaseAfterWake s := by
    unfold phaseAfterWake
    rw [show ({ s with ctl := f s.ctl } : State).ctl.phase = s.ctl.phase from phase]
  unfold changeWake
  dsimp only
  split
  case isTrue begins =>
    exact ⟨wakeEvent_flags _, wakeEvent_enables _,
      fun count => by rw [wakeEvent_phase (s := { s with ctl := f s.ctl }) count, after, phaseWith, if_pos (wakes.mp begins)],
      wakeEvent_core _, fun stopped => (wakeEvent_dwell (by rwa [dwell])).trans dwell⟩
  case isFalse stays =>
    exact ⟨rfl, rfl, fun _ => by rw [phaseWith, if_neg (mt wakes.mpr stays)]; exact phase, rfl, fun _ => dwell⟩

theorem setWakeFlag_changed (w : WakeFlag) (s : State) :
    WakeChanged (s.ctl.flags ||| w.bit) s.ctl.enables s (setWakeFlag w s) := by
  exact changeWake_changed (s := s) (f := fun c => { c with flags := c.flags ||| w.bit }) rfl rfl

/-- Settles O39: every source goes through one change of the flags or the enables. -/
theorem wakeSourcesSetTheirFlags : Obligations.WakeSourcesSetTheirFlags := by
  intro s count
  refine ⟨?edge, fun profile => ?request, ?wake, fun running => ?timer, fun e => ?enable⟩
  case edge =>
    obtain ⟨flags, enables, phase, core, _⟩ := setWakeFlag_changed .infeed (captureInfeed s)
    exact ⟨_, rfl, (congrArg Feed.capture core :), (congrArg Feed.overwrite core :), flags, enables, phase count⟩
  case request =>
    obtain ⟨flags, enables, phase, _⟩ := setWakeFlag_changed .gauge s
    refine ⟨answerGauge 0x04 .ok [] (setWakeFlag .gauge s), by simp [exec, execWakeRequest, profile], ?_⟩
    simp only [answerGauge_ctl, answerGauge_answer, answerGauge_list, answerGauge_hides, setWakeFlag_intake,
      setWakeFlag_hides, and_self, and_true]
    exact ⟨flags, enables, phase count⟩
  case wake =>
    obtain ⟨flags, enables, phase, _⟩ := setWakeFlag_changed .line s
    refine ⟨_, rfl, fun free => ?_, flags, enables, phase count⟩
    exact answerLine_answer _ _ _ ((hold_of_linePort (by simp)).trans free)
  case timer =>
    let v : State := { advanceTo s.ctl.dwell.expiresAt s with
      ctl := { s.ctl with dwell := { s.ctl.dwell with running := false, remaining := 0 } } }
    obtain ⟨flags, enables, phase, _, dwell⟩ := setWakeFlag_changed .timer v
    refine ⟨setWakeFlag .timer v, ?_, ?_, ?_, flags, enables, phase count⟩
    · simp only [exec, execDwellTimerExpiry, running, if_true]
      rfl
    · rw [dwell rfl]
    · rw [dwell rfl]
  case enable =>
    obtain ⟨flags, enables, phase, _⟩ :=
      changeWake_changed (s := s) (f := fun c => { c with enables := e.setWidth 4 }) rfl rfl
    refine ⟨_, rfl, fun free => ?_, flags, enables, phase count⟩
    exact answerLine_answer _ _ _ ((hold_of_linePort (by simp)).trans free)

/-- Settles O40: each machine state of the rest has its own way out. -/
theorem wakeEventsEndTheRest : Obligations.WakeEventsEndTheRest := by
  intro s w before begins
  let v : State := { s with ctl := { s.ctl with flags := s.ctl.flags ||| w.bit } }
  have wakes : setWakeFlag w s = wakeEvent v := by
    have holds : v.ctl.wakeHolds = true := decide_eq_true begins
    rw [setWakeFlag, changeWake]
    exact if_pos (by simp only [Bool.and_eq_true, Bool.not_eq_true']; exact ⟨holds, before⟩)
  dsimp only
  rw [wakes]
  have core := wakeEvent_core v
  refine ⟨(congrArg Feed.f core :), (congrArg Feed.h core :), wakeEvent_intake v, wakeEvent_hides v,
    wakeEvent_settings v, fun apart => wakeEvent_apart apart, wakeEvent_restTarget v, ?_, fun phase => ?_, fun phase => ?_⟩
  · rintro (phase | phase)
    · simp [wakeEvent, v, phase, raiseLine]
    · simp [wakeEvent, v, phase, raiseLine]
  · simp [wakeEvent, v, phase, raiseLine]
  · have event : wakeEvent v = raiseLine .wake (arbitrate (enterResuming (stopDwell v))) := by
      simp [wakeEvent, v, phase]
    rw [event]
    refine ⟨by simp [raiseLine, v], ?_, fun z small below track => ?_⟩
    · rw [raiseLine_ctl, arbitrate_ctl, (enterResuming_ctl (stopDwell v)).2.2.2 rfl]
      rfl
    · have here : channel (stopDwell v) z = channel s z := rfl
      rw [channel_raiseLine, channel_arbitrate, channel_enterResuming, if_pos ⟨small, below⟩, here, Channel.entered,
        if_pos track]
      exact ⟨rfl, rfl, rfl⟩

end Sys2Proof.Machine

/-! PROOFS. The arbiter's turn, the entries to the rest, and the requests that move the machine (O42, O56). -/

namespace Sys2Proof.Machine

variable {s t u : State}

/-! ## The arbiter's turn (R110, R111) -/

theorem requestOf_eq (c : Channel) : requestOf c = c.request := by
  unfold requestOf Channel.request
  cases c.clearPoll <;> cases c.mode <;> simp

theorem firstRequest_split {zs : List Nat} {z : Nat} {k : TxnKind} (found : firstRequest s zs = some (z, k)) :
    ∃ before behind, zs = before ++ z :: behind ∧ (∀ y ∈ before, (channel s y).request = none) ∧
      (channel s z).request = some k := by
  induction zs with
  | nil => simp [firstRequest] at found
  | cons y rest ih =>
    unfold firstRequest at found
    split at found
    case h_1 k' asks =>
      obtain ⟨rfl, rfl⟩ := Prod.mk.inj (Option.some.inj found)
      exact ⟨[], rest, rfl, by simp, asks⟩
    case h_2 silent =>
      obtain ⟨before, behind, rfl, quiet, asks⟩ := ih found
      exact ⟨y :: before, behind, rfl, List.forall_mem_cons.mpr ⟨silent, quiet⟩, asks⟩

theorem grantOrder_turns (last : Nat) : (grantOrder last).Pairwise fun y z => turnAfter last y < turnAfter last z := by
  have place : ∀ i < 16, turnAfter last ((last + 1 + i) % 16) = i := fun i below => by
    unfold turnAfter
    omega
  rw [grantOrder, List.pairwise_map]
  refine List.Pairwise.imp_of_mem (fun {i j} first second less => ?_) List.pairwise_lt_range
  simp only [Config.zones, List.mem_range] at first second ⊢
  rw [place i first, place j second]
  exact less

/-- The first request in the order of a grant is the first in turn. -/
theorem firstRequest_turn {last z : Nat} {k : TxnKind} (found : firstRequest s (grantOrder last) = some (z, k)) :
    z < 16 ∧ (channel s z).request = some k ∧
      ∀ y, y < 16 → turnAfter last y < turnAfter last z → (channel s y).request = none := by
  obtain ⟨before, behind, split, quiet, asks⟩ := firstRequest_split found
  have turns := grantOrder_turns last
  have listed : ∀ y, y ∈ before ++ z :: behind ↔ y < 16 := fun y => by rw [← split, mem_grantOrder]
  rw [split, List.pairwise_append, List.pairwise_cons] at turns
  obtain ⟨_, ⟨later, _⟩, _⟩ := turns
  refine ⟨(listed z).mp (by simp), asks, fun y small sooner => ?_⟩
  rcases List.mem_append.mp ((listed y).mpr small) with first | behindIt
  · exact quiet y first
  · rcases List.mem_cons.mp behindIt with rfl | there
    · exact absurd sooner (lt_irrefl _)
    · exact absurd sooner (later y there).not_gt

theorem arbitrate_inTurn (free : s.link.free = true) : GrantedInTurn s.link.last (arbitrate s) := by
  have noTxn : s.link.txn = none := by
    simp only [Link.free, Bool.and_eq_true, Option.isNone_iff_eq_none] at free
    exact free.1
  by_cases halted : s.ctl.phase = .halt
  · have link : granted s = s.link := by rw [granted, if_pos halted]
    simp [GrantedInTurn, link, noTxn, halted]
  · cases found : firstRequest s (grantOrder s.link.last) with
    | none =>
      have silent := firstRequest_none found
      have link : granted s = s.link := by rw [granted, if_neg halted, if_pos free, found]
      simp only [GrantedInTurn, arbitrate_link, link, noTxn, channel_arbitrate, requestOf_eq]
      exact ⟨trivial, .inr fun z small => silent z (mem_grantOrder.mpr small)⟩
    | some granting =>
      obtain ⟨z, k⟩ := granting
      obtain ⟨small, asks, first⟩ := firstRequest_turn found
      have link : granted s = { s.link with last := z, txn := some (startTxn s z k) } := by
        rw [granted, if_neg halted, if_pos free, found]
      simp only [GrantedInTurn, arbitrate_link, link, channel_arbitrate, requestOf_eq, arbitrate_ctl, arbitrate_now]
      refine ⟨halted, small, rfl, asks, first, rfl, ?_, rfl, rfl⟩
      cases k <;> rfl

/-! ## Entries to the rest (R143 to R145) -/

/-- The controller at an entry to the rest: FEED-STOP asserted, the timer started from the dwell time held. -/
def resting (p : Phase) (s : State) : Controller :=
  { s.ctl with
    phase := p, feedStop := true, dwell := { running := true, remaining := s.settings.dwellTime, start := s.now } }

theorem enterDwell_ctl (s : State) : (enterDwell s).ctl = resting .dwell s := by
  rw [enterDwell, enterPhase_quiet rfl]
  rfl

/-- What PARK discards, before the park gaps are placed. -/
theorem emptyTrack_park (s : State) : emptyTrack .park (enterPhase .park s) = { quieted .park s with
    intake := { s.intake with list := [] }
    hides := abandonedTable .park s.hides
    track := { emptiedTrack s.track with pendingKnife := none }
    zones := s.zones.map (Channel.detach fun _ => true)
    link := s.link.detach fun _ => true
    settings := { s.settings with knife := s.track.pendingKnife.getD s.settings.knife }
    line := { s.line with
      notices := s.line.notices ||| noticeIf (anyUnfinished s) .hideAbandoned |||
        noticeIf s.track.pendingKnife.isSome .knifeApplied } } := by
  rw [enterPhase_quiet rfl, emptyTrack_values]
  rfl

theorem enterPark_ctl (s : State) : (enterPark s).ctl = resting .park s := by
  have placed : (forZones placePark (emptyTrack .park (enterPhase .park s))).ctl = (quieted .park s).ctl := by
    rw [forZones_ctl placePark_ctl, emptyTrack_park]
  have dwellTime : (forZones placePark (emptyTrack .park (enterPhase .park s))).settings.dwellTime =
      s.settings.dwellTime := by
    rw [forZones_keeps State.settings placePark placePark_settings, emptyTrack_park]
  have now : (forZones placePark (emptyTrack .park (enterPhase .park s))).now = s.now := by
    rw [forZones_keeps State.now placePark placePark_now, emptyTrack_park]
    rfl
  rw [enterPark, raiseLine_ctl, startDwell]
  simp only [placed, dwellTime, now]
  rfl

theorem enterRest_ctl (s : State) : (enterRest s).ctl = resting (restPhase s.ctl.restTarget) s := by
  unfold enterRest
  cases s.ctl.restTarget with
  | dwell => exact enterDwell_ctl s
  | park => exact enterPark_ctl s

theorem enterPark_keeps {α : Type} (part : State → α) (raise : ∀ n s, part (raiseLine n s) = part s)
    (start : ∀ s, part (startDwell s) = part s) (park : ∀ z s, part (placePark z s) = part s) (s : State) :
    part (enterPark s) = part (emptyTrack .park (enterPhase .park s)) := by
  rw [enterPark, raise, start, forZones_keeps part placePark park]

theorem enterPark_hides (s : State) : (enterPark s).hides = abandonedTable .park s.hides := by
  rw [enterPark_keeps State.hides raiseLine_hides startDwell_hides placePark_hides, emptyTrack_park]

theorem enterPark_intake (s : State) : (enterPark s).intake = { s.intake with list := [] } := by
  rw [enterPark_keeps State.intake raiseLine_intake startDwell_intake placePark_intake, emptyTrack_park]

theorem enterPark_track (s : State) : (enterPark s).track = { emptiedTrack s.track with pendingKnife := none } := by
  rw [enterPark, raiseLine_track, startDwell_track, placeParks_track_empty (by rw [emptyTrack_park]; rfl),
    emptyTrack_park]

theorem enterPark_notices (s : State) : (enterPark s).line.notices =
    s.line.notices ||| noticeIf (anyUnfinished s) .hideAbandoned |||
      noticeIf s.track.pendingKnife.isSome .knifeApplied ||| LineNotice.restEntered.bit := by
  rw [enterPark, raiseLine, startDwell_line, forZones_keeps State.line placePark placePark_line, emptyTrack_park]

/-- The park gap, for a TRACK channel (R122). -/
def Channel.parked (gap : Int) (c : Channel) : Channel :=
  if c.mode = .track then { c with slot := some { gap := gap, cause := .park, ref := none } } else c

@[simp] theorem placePark_count (z : Nat) (s : State) : (placePark z s).zones.length = s.zones.length := by
  unfold placePark
  split <;> simp

theorem channel_placeParks (y : Nat) (s : State) : channel (forZones placePark s) y =
    if y < 16 ∧ y < s.zones.length then (channel s y).parked s.settings.geometry.parkGap else channel s y := by
  refine channel_forZones (g := fun x c => c.parked x.geometry.parkGap) placePark_settings placePark_count
    (fun z y s => ?_) y s
  rw [channel_placePark]
  by_cases here : y = z ∧ z < s.zones.length
  · rw [if_pos here]
    obtain ⟨rfl, below⟩ := here
    simp [below, Channel.parked]
  · simp [here]

theorem channel_enterPark (count : s.zones.length = 16) {z : Nat} (small : z < 16) : channel (enterPark s) z =
    ((channel s z).detach fun _ => true).parked s.settings.geometry.parkGap := by
  have zones : (enterPark s).zones = (forZones placePark (emptyTrack .park (enterPhase .park s))).zones := by
    rw [enterPark, raiseLine_zones, startDwell_zones]
  have emptied := emptyTrack_park s
  generalize emptyTrack .park (enterPhase .park s) = t at emptied zones
  have detached : t.zones = s.zones.map (Channel.detach fun _ => true) := by rw [emptied]
  have settings : t.settings.geometry = s.settings.geometry := by rw [emptied]
  rw [channel_congr zones, channel_placeParks, if_pos ⟨small, by simpa [detached, count] using small⟩,
    channel_detached detached, settings]

theorem enterRest_raised (s : State) :
    (enterRest s).line.notices &&& LineNotice.restEntered.bit = LineNotice.restEntered.bit := by
  unfold enterRest
  split
  · exact raised_bit _ _
  · rw [enterPark_notices, raised_bit]

/-- What the park gap and the emptying leave of a channel. -/
theorem parked_stands (leaving : SliceRef → Bool) (gap : Int) (c : Channel) :
    let d := (c.detach leaving).parked gap
    d.mode = c.mode ∧ d.flight.map (fun m => m.target.gap) = c.flight.map (fun m => m.target.gap) ∧
      if c.mode = .track then d.slot = some { gap := gap, cause := .park, ref := none }
      else d.slot.map Target.gap = c.slot.map Target.gap := by
  by_cases track : c.mode = .track
  · simp [Channel.parked, Channel.detach, track, Function.comp_def, Target.detach_gap]
  · simp [Channel.parked, Channel.detach, track, Function.comp_def, Target.detach_gap]

/-! ## FEED-STILL (R132, R143 to R145) -/


/-- Settles O42: either rest starts the timer and raises REST_ENTERED; PARK empties and places the park gaps. -/
theorem feedStillEntersTheRestInBraking : Obligations.FeedStillEntersTheRestInBraking := by
  intro s count
  let v : State := { s with pins := { s.pins with feedStill := true } }
  refine ⟨rfl, fun other => ?_, fun braking => ?_⟩
  · simp [exec, execFeedStillAsserted, other]
  · have run : exec .feedStillAsserted s = .next (arbitrate (enterRest v)) := by
      simp only [exec, execFeedStillAsserted, braking, if_true]
      rfl
    have ctl : (arbitrate (enterRest v)).ctl = resting (restPhase s.ctl.restTarget) s := enterRest_ctl v
    have core : (arbitrate (enterRest v)).feed.core = s.feed.core := enterRest_core v
    refine ⟨_, run, by simp [v], by rw [ctl]; rfl, ?_, by rw [ctl]; rfl, (congrArg Feed.h core :),
      (congrArg Feed.capture core :), ?_⟩
    · rw [arbitrate_line, enterRest_raised]
    · have target : v.ctl.restTarget = s.ctl.restTarget := rfl
      rw [ctl]
      cases rest : s.ctl.restTarget with
      | dwell =>
        have entered : enterRest v = enterDwell v := by rw [enterRest, target, rest]
        rw [entered]
        simp [resting, restPhase, v]
      | park =>
        have entered : enterRest v = enterPark v := by rw [enterRest, target, rest]
        rw [entered]
        have hides : (arbitrate (enterPark v)).hides = abandonedTable .park s.hides := by
          rw [arbitrate_hides, enterPark_hides]
        have track : (arbitrate (enterPark v)).track = { emptiedTrack s.track with pendingKnife := none } := by
          rw [arbitrate_track, enterPark_track]
        refine ⟨rfl, by rw [arbitrate_intake, enterPark_intake], by rw [track]; rfl, by rw [track],
          emptiedBy_of_hides hides, abandonedJoined_of_hides hides ?_, fun z small => ?_⟩
        · rw [arbitrate_line, enterPark_notices, raised_apart (by decide), raised_apart (noticeIf_apart (by decide) _)]
          rfl
        · rw [channel_arbitrate, channel_enterPark (s := v) count small]
          exact parked_stands _ _ _

/-! ## START, CLEAR and REST (R138, R141 to R143, R152) -/

theorem enterPhase_ctl (p : Phase) (s : State) :
    (enterPhase p s).ctl = { s.ctl with phase := p, feedStop := !p.drives } := by
  obtain ⟨r, entered⟩ := enterPhase_spec p s
  rw [entered]

theorem enterBraking_ctl (s : State) : (enterBraking s).ctl =
    if s.pins.feedStill then resting (restPhase s.ctl.restTarget) s
    else { s.ctl with phase := .braking, feedStop := true } := by
  unfold enterBraking
  simp only [enterPhase_pins]
  split
  · rw [enterRest_ctl, enterPhase_quiet rfl]
    rfl
  · exact enterPhase_ctl _ _

/-- What a REST that is taken makes of the controller. -/
structure RestTaken (target : RestTarget) (s t : State) : Prop where
  rest : t.ctl.restTarget = target
  phase : t.ctl.phase = if target = .park ∧ knifeClear s = false then .clearing else braked s target
  flags : t.ctl.flags = s.ctl.flags
  enables : t.ctl.enables = s.ctl.enables
  dwell : t.ctl.phase = .dwell ∨ t.ctl.phase = .park →
    t.ctl.dwell = { running := true, remaining := s.settings.dwellTime, start := s.now }

/-- BRAKING, or the rest at once, from a state that differs from `s` in the target and the phase alone. -/
theorem enterBraking_taken {target : RestTarget} (rest : t.ctl.restTarget = target) (flags : t.ctl.flags = s.ctl.flags)
    (enables : t.ctl.enables = s.ctl.enables) (pins : t.pins = s.pins) (settings : t.settings = s.settings)
    (now : t.now = s.now) (clear : target = .park → knifeClear s = true) : RestTaken target s (enterBraking t) := by
  have ctl := enterBraking_ctl t
  rw [pins] at ctl
  have phase : (enterBraking t).ctl.phase = braked s target := by
    rw [enterBraking_phase, rest]
    unfold braked
    rw [pins]
  refine ⟨by rw [enterBraking_restTarget, rest], ?_, ?_, ?_, fun resting' => ?_⟩
  · rw [phase, if_neg fun ⟨park, unclear⟩ => by simp [clear park] at unclear]
  · rw [ctl]
    split <;> exact flags
  · rw [ctl]
    split <;> exact enables
  · cases still : s.pins.feedStill with
    | true =>
      rw [ctl, if_pos still, resting, settings, now]
    | false =>
      rw [phase, braked, still] at resting'
      simp at resting'

theorem takeRest_taken (target : RestTarget) (s : State) : RestTaken target s (takeRest target s) := by
  have core : ∀ {t : State}, RestTaken target s t → RestTaken target s (arbitrate t) :=
    fun taken => ⟨taken.rest, taken.phase, taken.flags, taken.enables, taken.dwell⟩
  unfold takeRest
  refine core ?_
  cases target with
  | dwell => exact enterBraking_taken rfl rfl rfl rfl rfl rfl (by simp)
  | park =>
    let v : State := { s with ctl := { s.ctl with restTarget := .park } }
    have ctl := enterPhase_ctl .clearing v
    have knife : knifeClear (enterPhase .clearing v) = knifeClear s := by
      simp [knifeClear, anyUnfinished_congr (s := s) (t := enterPhase .clearing v) (by simp [v]), v]
    change RestTaken .park s (passClearing (enterPhase .clearing v))
    rcases Bool.eq_false_or_eq_true (knifeClear s) with clear | clear
    · rw [passClearing, if_pos (by rw [knife, clear]; simp)]
      exact enterBraking_taken (by rw [ctl]) (by rw [ctl]) (by rw [ctl]) (by simp [v]) (by simp [v]) (by simp [v])
        fun _ => clear
    · rw [passClearing, if_neg (by rw [knife, clear]; simp)]
      refine ⟨by rw [ctl], by simp [clear], by rw [ctl], by rw [ctl], by rw [ctl]; simp⟩

theorem takeRest_core (target : RestTarget) (s : State) : (takeRest target s).feed.core = s.feed.core := by
  cases target with
  | dwell => simp [takeRest]
  | park => simp [takeRest, enterClearing]

theorem restTargetOf_of_listed {code : BitVec 8} (listed : code = 1 ∨ code = 2) :
    ∃ target, restTargetOf code = some target ∧ (code = 1 ↔ target = .dwell) ∧ (code = 2 ↔ target = .park) := by
  rcases listed with rfl | rfl
  · exact ⟨.dwell, rfl, by decide, by decide⟩
  · exact ⟨.park, rfl, by decide, by decide⟩

/-- Settles O56: START enters RESUMING, CLEAR leaves HALT, and REST brakes, clears or rests. -/
theorem startClearAndRestMoveTheMachine : Obligations.StartClearAndRestMoveTheMachine := by
  intro s count
  refine ⟨fun halted => ?_, fun released other => ?_, fun released standby => ?start, fun refused => ?_,
    fun halted released => ?clear, fun code => ⟨?refused, fun running quiet listed => ?rest⟩⟩
  · simp [exec, execStart, halted, phaseField]
  · simp [exec, execStart, released, other, phaseField]
  case start =>
    have run : exec .start s = .next (answerLine 0x20 .ok (phaseField (arbitrate (enterResuming s)))
        (arbitrate (enterResuming s))) := by
      simp [exec, execStart, released, standby]
    have line : (arbitrate (enterResuming s)).line = s.line := by simp
    have hides : (arbitrate (enterResuming s)).hides = s.hides := by simp
    have intake : (arbitrate (enterResuming s)).intake = s.intake := by simp
    have settings : (arbitrate (enterResuming s)).settings = s.settings := by simp
    have phase : (arbitrate (enterResuming s)).ctl.phase = (enterResuming s).ctl.phase := by rw [arbitrate_ctl]
    rw [enterResuming_phase_eq count] at phase
    have flags : (arbitrate (enterResuming s)).ctl.flags = s.ctl.flags := by
      rw [arbitrate_ctl]
      exact (enterResuming_ctl s).1
    have core : (arbitrate (enterResuming s)).feed.core = s.feed.core := by rw [arbitrate_feed, enterResuming_core]
    have zones : ∀ z, z < 16 → channel (arbitrate (enterResuming s)) z =
        (channel s z).entered s.settings.geometry.entryGap := fun z small => by
      rw [channel_arbitrate, channel_enterResuming, if_pos ⟨small, by omega⟩]
    generalize arbitrate (enterResuming s) = t at run line hides intake settings phase flags core zones
    exact ⟨_, run, phase, fun free => answerLine_answer _ _ _ (by rwa [line]), by rw [answerLine_notices, line], hides,
      intake, settings, (congrArg Feed.h core :), flags, zones⟩
  · simp only [exec, execClear]
    rw [if_neg (by simpa using fun halted => refused.resolve_left (not_not_intro halted))]
    rfl
  case clear =>
    have run : exec .clear s = .next (answerLine 0x23 .ok (phaseField (leaveHalt s)) (leaveHalt s)) := by
      simp [exec, execClear, halted, released]
    have phase : (leaveHalt s).ctl.phase = .standby := by simp [leaveHalt, setClearPolls]
    have feedStop : (leaveHalt s).ctl.feedStop = true := by simp [leaveHalt, setClearPolls]; rfl
    have line : (leaveHalt s).line = s.line := by simp [leaveHalt, setClearPolls]
    have hides : (leaveHalt s).hides = s.hides := by simp [leaveHalt, setClearPolls]
    have intake : (leaveHalt s).intake = s.intake := by simp [leaveHalt, setClearPolls]
    have track : (leaveHalt s).track = s.track := by simp [leaveHalt, setClearPolls]
    have settings : (leaveHalt s).settings = s.settings := by simp [leaveHalt, setClearPolls]
    have link : (setClearPolls (enterPhase .standby s)).link = s.link := by simp [setClearPolls]
    have turn : s.link.free = true → GrantedInTurn s.link.last (leaveHalt s) := fun free => by
      have granted := arbitrate_inTurn (s := setClearPolls (enterPhase .standby s)) (by rwa [link])
      rwa [link] at granted
    have zones : ∀ z, z < 16 → channel (leaveHalt s) z = { channel s z with
        clearPoll := (channel s z).clearPoll || decide ((channel s z).mode ≠ .off) } := fun z small => by
      have mapped : (leaveHalt s).zones = s.zones.map fun c =>
          { c with clearPoll := c.clearPoll || decide (c.mode ≠ .off) } := by simp [leaveHalt, setClearPolls]
      have below : z < s.zones.length := by omega
      simp [channel, mapped, List.getD_eq_getElem?_getD, below]
    generalize leaveHalt s = t at run phase feedStop line hides intake track settings turn zones
    exact ⟨_, run, phase, feedStop, by rw [answerLine_notices, line],
      fun free => by rw [answerLine_answer _ _ _ (by rwa [line]), phaseField, phase], hides, intake, track, settings,
      turn, zones⟩
  case refused =>
    rintro st (⟨rfl, notDwell, notPark⟩ | ⟨listed, ⟨rfl, other⟩ | ⟨rfl, running, pending⟩⟩)
    · have named : restTargetOf code = none := by rw [restTargetOf, if_neg notDwell, if_neg notPark]
      simp [exec, execRest, named, restFields]
    · obtain ⟨target, named⟩ := restTargetOf_of_listed listed
      simp [exec, execRest, named, other, restFields]
    · obtain ⟨target, named⟩ := restTargetOf_of_listed listed
      have holds : s.ctl.wakeHolds = true := decide_eq_true pending
      simp [exec, execRest, named, running, holds, restFields]
  case rest =>
    have holds : s.ctl.wakeHolds = false := by simp [Controller.wakeHolds, quiet]
    obtain ⟨target, named, isDwell, isPark⟩ := restTargetOf_of_listed listed
    have run : exec (.rest code) s = .next (answerLine 0x21 .ok (restFields (takeRest target s)) (takeRest target s)) := by
      simp [exec, execRest, named, running, holds]
    have core := takeRest_core target s
    have port : linePort (takeRest target s) = linePort s := by
      cases target <;> simp [takeRest, enterClearing] <;> rfl
    obtain ⟨rest, phase, flags, enables, dwell⟩ := takeRest_taken target s
    generalize takeRest target s = t at run core port rest phase flags enables dwell
    refine ⟨_, run, ?_, ?_, fun free => ?_, flags, enables, (congrArg Feed.h core :), dwell⟩
    · rw [answerLine_ctl, rest]
      simp only [isDwell]
      cases target <;> rfl
    · rw [answerLine_ctl, phase]
      have unclear : knifeClear s = false ↔ ¬ (anyUnfinished s = false ∧ s.track.slices = []) := by
        rw [← Bool.not_eq_true, knifeClear_iff, Clear]
      have rests : restPhase target = if code = 1 then .dwell else .park := by
        simp only [isDwell]
        cases target <;> rfl
      simp only [braked, unclear, isPark, rests]
    · rw [answerLine_answer _ _ _ ((hold_of_linePort port).trans free), restFields, flags, enables]
      rfl

end Sys2Proof.Machine

/-! PROOFS. The events of the zone link, each as its effect on one channel (O44 to O47). -/

namespace Sys2Proof.Machine

variable {s t u : State} {z : Nat} {c d : Channel} {l m : LinePort} {sl sm : List Slice}

/-! ## Reports (R75) -/

theorem ZoneResult.report_eq (p : Progress) (o : ZoneResult) : o.report p =
    { o with progress := if o.progress = .waiting ∨ o.progress = .sent then p else o.progress } := by
  obtain ⟨target, flags, progress⟩ := o
  cases progress <;> rfl

theorem report_slices (x : Option Target) (z : Nat) (p : Progress) (s : State) :
    (report x z p s).track.slices = s.track.slices.map (reported p z x) := by
  have results : (fun o : ZoneResult => o.report p) = fun o => { o with
      progress := if o.progress = .waiting ∨ o.progress = .sent then p else o.progress } :=
    funext (ZoneResult.report_eq p)
  cases x with
  | none => exact (List.map_id'' (by simp [reported]) _).symm
  | some r =>
    cases named : r.ref with
    | none =>
      simp only [report, Option.bind_some, named]
      exact (List.map_id'' (by simp [reported, named]) _).symm
    | some i =>
      simp only [report, Option.bind_some, named, reportSlice]
      refine List.map_congr_left fun x _ => ?_
      simp only [reported, Option.mem_def, Option.some.injEq, exists_eq_left', named, Slice.isFor,
        Bool.and_eq_true, decide_eq_true_eq, ← results]

/-! ## The effect of an event on one channel -/

/-- The event leaves zone z's channel, the line port and the slices so; the other channels, the feed unit but FEED
REF, the intake, the hide table and the settings stand, and a link without a transaction stands too. -/
structure Effect (z : Nat) (s t : State) (c : Channel) (l : LinePort) (sl : List Slice) : Prop where
  here : channel t z = c
  others : ∀ y, y ≠ z → channel t y = channel s y
  count : t.zones.length = s.zones.length
  line : t.line = l
  slices : t.track.slices = sl
  link : s.link.txn = none → t.link = s.link
  now : t.now = s.now
  core : t.feed.core = s.feed.core
  intake : t.intake = s.intake
  hides : t.hides = s.hides
  settings : t.settings = s.settings

theorem Effect.refl (z : Nat) (s : State) : Effect z s s (channel s z) s.line s.track.slices :=
  ⟨rfl, fun _ _ => rfl, rfl, rfl, rfl, fun _ => rfl, rfl, rfl, rfl, rfl, rfl⟩

theorem Effect.trans (h : Effect z s t c l sl) (h' : Effect z t u d m sm) : Effect z s u d m sm where
  here := h'.here
  others y other := (h'.others y other).trans (h.others y other)
  count := h'.count.trans h.count
  line := h'.line
  slices := h'.slices
  link idle := by rw [h'.link (by rw [h.link idle, idle]), h.link idle]
  now := h'.now.trans h.now
  core := h'.core.trans h.core
  intake := h'.intake.trans h.intake
  hides := h'.hides.trans h.hides
  settings := h'.settings.trans h.settings

theorem updChannel_effect (f : Channel → Channel) (below : z < s.zones.length) :
    Effect z s (updChannel f z s) (f (channel s z)) s.line s.track.slices where
  here := by simp [channel_updChannel, below]
  others y other := by simp [channel_updChannel, other]
  count := by simp
  line := rfl
  slices := rfl
  link _ := rfl
  now := rfl
  core := rfl
  intake := rfl
  hides := rfl
  settings := rfl

theorem report_effect (x : Option Target) (z : Nat) (p : Progress) (s : State) :
    Effect z s (report x z p s) (channel s z) s.line (s.track.slices.map (reported p z x)) where
  here := by simp
  others _ _ := by simp
  count := by simp
  line := by simp
  slices := report_slices x z p s
  link _ := by simp
  now := by simp
  core := by simp
  intake := by simp
  hides := by simp
  settings := by simp

theorem setSlot_effect (x : Option Target) (below : z < s.zones.length) :
    Effect z s (setSlot x z s) { channel s z with slot := x } s.line s.track.slices where
  here := by simp [channel_setSlot, below]
  others y other := by simp [channel_setSlot, other]
  count := by simp [setSlot]
  line := rfl
  slices := rfl
  link idle := by
    simp only [setSlot, Link.slotChanged, idle, Option.map_none]
    rw [← idle]
  now := rfl
  core := rfl
  intake := rfl
  hides := rfl
  settings := rfl

theorem raiseLine_effect (n : LineNotice) (z : Nat) (s : State) :
    Effect z s (raiseLine n s) (channel s z) { s.line with notices := s.line.notices ||| n.bit } s.track.slices :=
  ⟨rfl, fun _ _ => rfl, rfl, rfl, rfl, fun _ => rfl, rfl, rfl, rfl, rfl, rfl⟩

/-- A slot that gives way to `x`, with its report. -/
theorem replaceSlot_effect (x : Option Target) (below : z < s.zones.length) :
    Effect z s (setSlot x z (report (channel s z).slot z .skipped s)) { channel s z with slot := x } s.line
      (s.track.slices.map (reported .skipped z (channel s z).slot)) := by
  have first := report_effect (channel s z).slot z .skipped s
  have next := setSlot_effect (s := report (channel s z).slot z .skipped s) x (by rwa [first.count])
  rw [first.here, first.line, first.slices] at next
  exact first.trans next

theorem endFlight_effect (p : Progress) (below : z < s.zones.length) :
    Effect z s (endFlight p z s) { channel s z with flight := none } s.line
      (s.track.slices.map (reported p z ((channel s z).flight.map Move.target))) := by
  have first := report_effect ((channel s z).flight.map Move.target) z p s
  have next := updChannel_effect (s := report ((channel s z).flight.map Move.target) z p s)
    (fun c => { c with flight := none }) (by rwa [first.count])
  rw [first.here, first.line, first.slices] at next
  exact first.trans next

/-- A FAULT entry (R119). -/
theorem enterFault_effect (below : z < s.zones.length) : Effect z s (enterFault z s)
    { channel s z with mode := .fault, slot := none, flight := none, entryMark := false }
    { s.line with notices := s.line.notices ||| LineNotice.zoneFault.bit }
    (s.track.slices.map (reportedFault z (channel s z))) := by
  have discarded : Effect z s (discardSlot z s) _ _ _ := replaceSlot_effect none below
  have ended := endFlight_effect (s := discardSlot z s) .ended (by rwa [discarded.count])
  rw [discarded.here, discarded.line, discarded.slices, List.map_map] at ended
  have faulted := updChannel_effect (s := endFlight .ended z (discardSlot z s))
    (fun c => { c with mode := .fault, entryMark := false }) (by rwa [ended.count, discarded.count])
  rw [ended.here, ended.line, ended.slices] at faulted
  have raised := raiseLine_effect .zoneFault z (updChannel (fun c => { c with mode := .fault, entryMark := false }) z
    (endFlight .ended z (discardSlot z s)))
  rw [faulted.here, faulted.line, faulted.slices] at raised
  exact ((discarded.trans ended).trans faulted).trans raised

/-! ## Misses, replies and moves -/

theorem clearMisses_effect (below : z < s.zones.length) (serves : (channel s z).mode.inService = true) :
    Effect z s (clearMisses z s) { channel s z with misses := 0 } s.line s.track.slices := by
  rw [clearMisses, if_pos serves]
  exact updChannel_effect _ below

theorem clearMisses_out (out : (channel s z).mode.inService = false) : clearMisses z s = s := by
  rw [clearMisses, if_neg (by simp [out])]

theorem faultReply_effect (below : z < s.zones.length) (serves : (channel s z).mode.inService = true) :
    Effect z s (faultReply z s)
      { channel s z with mode := .fault, slot := none, flight := none, entryMark := false }
      { s.line with notices := s.line.notices ||| LineNotice.zoneFault.bit }
      (s.track.slices.map (reportedFault z (channel s z))) := by
  rw [faultReply, if_pos serves]
  exact enterFault_effect below

theorem faultReply_out (out : (channel s z).mode.inService = false) : faultReply z s = s := by
  rw [faultReply, if_neg (by simp [out])]

/-- A clear poll stops being pending with its transaction, HALT apart (R125). -/
def Channel.pollEnded (x : Txn) (c : Channel) : Channel :=
  { c with clearPoll := if x.kind = .clearPoll ∧ x.overHalt = false then false else c.clearPoll }

theorem endClearPoll_effect (x : Txn) (below : x.zone < s.zones.length) :
    Effect x.zone s (endClearPoll x s) ((channel s x.zone).pollEnded x) s.line s.track.slices := by
  unfold endClearPoll Channel.pollEnded
  by_cases ends : x.kind = .clearPoll ∧ x.overHalt = false
  · rw [if_pos (by simpa using ends), if_pos ends]
    exact updChannel_effect _ below
  · rw [if_neg (by simpa using ends), if_neg ends]
    exact Effect.refl _ _

theorem countMiss_effect (below : z < s.zones.length) (serves : (channel s z).mode.inService = true) :
    if (channel s z).misses < 2 then
      Effect z s (countMiss z s) { channel s z with misses := (channel s z).misses + 1 } s.line s.track.slices
    else Effect z s (countMiss z s)
      { channel s z with
        misses := (channel s z).misses + 1, mode := .fault, slot := none, flight := none, entryMark := false }
      { s.line with notices := s.line.notices ||| LineNotice.zoneFault.bit }
      (s.track.slices.map (reportedFault z (channel s z))) := by
  have counted := updChannel_effect (fun c => { c with misses := c.misses + 1 }) below
  have misses : (channel (updChannel (fun c => { c with misses := c.misses + 1 }) z s) z).misses =
      (channel s z).misses + 1 := by rw [counted.here]
  rw [countMiss, if_pos serves]
  dsimp only
  rw [misses]
  by_cases few : (channel s z).misses < 2
  · rw [if_pos few, if_neg (by omega)]
    exact counted
  · rw [if_neg few, if_pos (by omega)]
    have fault := enterFault_effect (s := updChannel (fun c => { c with misses := c.misses + 1 }) z s)
      (by rwa [counted.count])
    rw [counted.here, counted.line, counted.slices] at fault
    exact counted.trans fault

theorem countMiss_out (out : (channel s z).mode.inService = false) : countMiss z s = s := by
  rw [countMiss, if_neg (by simp [out])]

theorem completeMove_effect {v : Move} (below : z < s.zones.length) (moving : (channel s z).flight = some v) :
    Effect z s (completeMove z s)
      { channel s z with
        flight := none, lagging := false, timeouts := 0
        entryMark := (channel s z).entryMark && decide (v.target.cause ≠ .entry) }
      s.line (s.track.slices.map (reported .complete z (some v.target))) := by
  have ended := endFlight_effect (s := s) .complete below
  rw [moving, Option.map_some] at ended
  have done := updChannel_effect (s := endFlight .complete z s) (fun c => { c with
    lagging := false, timeouts := 0, entryMark := c.entryMark && decide (v.target.cause ≠ .entry) })
    (by rwa [ended.count])
  rw [ended.here, ended.line, ended.slices] at done
  simp only [completeMove, moving]
  exact ended.trans done

theorem completeMove_still (still : (channel s z).flight = none) : completeMove z s = s := by
  rw [completeMove, still]

theorem startMove_effect (x : Txn) (r : Target) (below : x.zone < s.zones.length)
    (serves : (channel s x.zone).mode.inService = true) : Effect x.zone s (startMove x r s)
      { channel s x.zone with
        flight := some { target := r, accepted := s.now, deadline := s.now + s.settings.geometry.moveTimeout * 1000 }
        slot := if x.slotHolds then none else (channel s x.zone).slot
        misses := 0 }
      s.line (s.track.slices.map (reported .sent x.zone (some r))) := by
  have moved := updChannel_effect (s := s) (fun c => { c with
    flight := some { target := r, accepted := s.now, deadline := s.now + s.settings.geometry.moveTimeout * 1000 }
    slot := if x.slotHolds then none else c.slot }) below
  rw [startMove]
  generalize updChannel _ x.zone s = t at moved
  have cleared := clearMisses_effect (s := t) (by rwa [moved.count]) (by rw [moved.here]; exact serves)
  rw [moved.here, moved.line, moved.slices] at cleared
  have told := report_effect (some r) x.zone .sent (clearMisses x.zone t)
  rw [cleared.here, cleared.line, cleared.slices] at told
  exact (moved.trans cleared).trans told

/-! ## The end of a link event (R111, R139) -/

theorem passResuming_core (s : State) : (passResuming s).feed.core = s.feed.core := by
  unfold passResuming
  split <;> simp

/-- What stands when the event has ended and the link has been granted. -/
structure LinkEvent (z : Nat) (s t : State) (c : Channel) (l : LinePort) (sl : List Slice) : Prop where
  now : t.now = s.now
  start : s.link.txn = none → ∀ y ∈ t.link.txn, y.start = s.now
  turn : s.link.free = true → GrantedInTurn s.link.last t
  h : t.feed.h = s.feed.h
  intake : t.intake = s.intake
  hides : t.hides = s.hides
  settings : t.settings = s.settings
  others : ∀ y, y ≠ z → channel t y = channel s y
  here : channel t z = c
  line : t.line = l
  slices : t.track.slices = sl

theorem arbitrate_start (idle : s.link.txn = none) : ∀ y ∈ (arbitrate s).link.txn, y.start = s.now := by
  intro y held
  rcases granted_cases s with same | ⟨_, _, z, k, _, _, link⟩
  · rw [arbitrate_link, same, idle] at held
    simp at held
  · rw [arbitrate_link, link, Option.mem_some] at held
    rw [← held]
    rfl

theorem Link.txn_of_free {link : Link} (free : link.free = true) : link.txn = none := by
  simp only [Link.free, Bool.and_eq_true, Option.isNone_iff_eq_none] at free
  exact free.1

theorem Effect.finish (h : Effect z s t c l sl) : LinkEvent z s (finishLink t) c l sl where
  now := by rw [finishLink, arbitrate_now, passResuming_now, h.now]
  start idle y held := by
    rw [← h.now, ← passResuming_now t]
    exact arbitrate_start (s := passResuming t) (by rw [passResuming_link, h.link idle, idle]) y held
  turn free := by
    have same := h.link (Link.txn_of_free free)
    have granted := arbitrate_inTurn (s := passResuming t) (by rwa [passResuming_link, same])
    rwa [passResuming_link, same] at granted
  h := by
    rw [finishLink, arbitrate_feed]
    exact (congrArg Feed.h ((passResuming_core t).trans h.core) :)
  intake := by rw [finishLink, arbitrate_intake, passResuming_intake, h.intake]
  hides := by rw [finishLink, arbitrate_hides, passResuming_hides, h.hides]
  settings := by rw [finishLink, arbitrate_settings, passResuming_settings, h.settings]
  others y other := by rw [finishLink, channel_arbitrate, channel_passResuming, h.others y other]
  here := by rw [finishLink, channel_arbitrate, channel_passResuming, h.here]
  line := by rw [finishLink, arbitrate_line, passResuming_line, h.line]
  slices := by rw [finishLink, arbitrate_track, passResuming_track, h.slices]

end Sys2Proof.Machine

/-! PROOFS. Replies, misses and timeouts (O44 to O47). -/

namespace Sys2Proof.Machine

variable {s t u : State} {z : Nat} {c d : Channel} {l m : LinePort} {sl sm : List Slice}

/-! ## The link freed of its transaction -/

/-- What every end of a transaction brings, whatever it makes of the channel. -/
theorem LinkEvent.ended (event : LinkEvent z (freeLink s) t c l sl) {effect : Prop} (rest : effect) :
    (∀ y ∈ t.link.txn, y.start = s.now) ∧ (s.link.abandoned = none → GrantedInTurn s.link.last t) ∧
      t.feed.h = s.feed.h ∧ t.intake = s.intake ∧ t.hides = s.hides ∧ t.settings = s.settings ∧
      (∀ y, y < 16 → y ≠ z → channel t y = channel s y) ∧ effect :=
  ⟨event.start rfl, fun apart => event.turn (by simp [freeLink, Link.free, apart]), event.h, event.intake, event.hides,
    event.settings, fun y _ other => event.others y other, rest⟩

/-- Settles O44: the ACCEPT starts the move, or starts nothing over HALT, or ends in FAULT. -/
theorem acceptPutsTheSentTargetInFlight : Obligations.AcceptPutsTheSentTargetInFlight := by
  intro zone flags s x r count sending send named below sent serves
  refine ⟨fun late => ?_, fun within => ⟨finishLink (acceptReply x flags (freeLink s)), ?_, ?_⟩⟩
  · simp [exec, execAccept, takeAccept, answered_late [.send] zone s x sending late]
  · have reply : answered [.send] zone s = some x :=
      (answered_eq_some_iff _ _ _ _).mpr ⟨sending, by simp [send], named, within⟩
    simp only [exec, execAccept, takeAccept, reply]
  · have here : x.zone < (freeLink s).zones.length := by simpa [freeLink, count] using below
    have inService : (channel (freeLink s) x.zone).mode.inService = true := serves
    unfold acceptReply faultBit
    cases fault : flags.getLsbD 1 with
    | true =>
      have event := (faultReply_effect here inService).finish
      exact event.ended ⟨event.here, congrArg LinePort.notices event.line, event.slices⟩
    | false =>
      cases halted : x.overHalt with
      | true =>
        have event := (clearMisses_effect here inService).finish
        exact event.ended ⟨event.here, event.line, event.slices⟩
      | false =>
        have event := (startMove_effect x r here inService).finish
        simp only [sent, inService]
        exact event.ended ⟨event.here, event.line, event.slices⟩

/-! ## STATUS replies (R115, R116) -/

/-- Step 1 of R115: the channel with the position recorded and its clear poll ended. -/
theorem recorded_effect (x : Txn) (position : BitVec 16) (below : x.zone < s.zones.length) :
    Effect x.zone s (updChannel (fun c => { c with position := some position }) x.zone (endClearPoll x s))
      { (channel s x.zone).pollEnded x with position := some position } s.line s.track.slices := by
  have ended := endClearPoll_effect x below
  have recorded := updChannel_effect (s := endClearPoll x s) (fun c => { c with position := some position })
    (by rwa [ended.count])
  rw [ended.here, ended.line, ended.slices] at recorded
  exact ended.trans recorded

/-- What a STATUS reply makes of the line port, the slices and the channel, `c` being the channel with the reply
recorded (R115, R116, R119). -/
def StatusEffect (x : Txn) (flags : Byte) (s t : State) (c : Channel) : Prop :=
  if c.mode.inService = false then
    c.flight = none → channel t x.zone = c ∧ t.line = s.line ∧ t.track.slices = s.track.slices
  else if flags.getLsbD 1 = true then
    channel t x.zone = { c with mode := .fault, slot := none, flight := none, entryMark := false } ∧
    t.line.notices = s.line.notices ||| LineNotice.zoneFault.bit ∧
    t.track.slices = s.track.slices.map (reportedFault x.zone c)
  else match c.flight with
    | some m =>
      if x.kind = .poll ∧ flags.getLsbD 0 = true then
        channel t x.zone = { c with
          flight := none
          misses := 0
          timeouts := 0
          lagging := false
          entryMark := c.entryMark && decide (m.target.cause ≠ .entry) } ∧ t.line = s.line ∧
        t.track.slices = s.track.slices.map (reported .complete x.zone (some m.target))
      else channel t x.zone = { c with misses := 0 } ∧ t.line = s.line ∧ t.track.slices = s.track.slices
    | none => channel t x.zone = { c with misses := 0 } ∧ t.line = s.line ∧ t.track.slices = s.track.slices

/-- Steps 2 to 4 of R115 on the recorded reply. -/
theorem recorded_outcome {x : Txn} {flags : Byte} (recorded : Effect x.zone (freeLink s) t c s.line s.track.slices)
    (here : x.zone < t.zones.length) :
    ∃ u d l sl, (if faultBit flags then faultReply x.zone t
        else if x.kind = .poll && inPositionBit flags then completeMove x.zone (clearMisses x.zone t)
          else clearMisses x.zone t) = u ∧
      LinkEvent x.zone (freeLink s) (finishLink u) d l sl ∧ StatusEffect x flags s (finishLink u) c := by
  unfold StatusEffect faultBit inPositionBit
  cases serves : c.mode.inService with
  | false =>
    have out : (channel t x.zone).mode.inService = false := by rwa [recorded.here]
    rw [faultReply_out out, clearMisses_out out]
    cases moving : c.flight with
    | none =>
      have event := recorded.finish
      rw [completeMove_still (by rwa [recorded.here]), ite_self, ite_self]
      exact ⟨_, _, _, _, rfl, event, fun _ => ⟨event.here, event.line, event.slices⟩⟩
    | some v =>
      have completed := completeMove_effect here (v := v) (by rwa [recorded.here])
      split
      · exact ⟨_, _, _, _, rfl, recorded.finish, by simp⟩
      · split
        · exact ⟨_, _, _, _, rfl, (recorded.trans completed).finish, by simp⟩
        · exact ⟨_, _, _, _, rfl, recorded.finish, by simp⟩
  | true =>
    have inService : (channel t x.zone).mode.inService = true := by rwa [recorded.here]
    have cleared := clearMisses_effect here inService
    rw [recorded.here, recorded.line, recorded.slices] at cleared
    cases fault : flags.getLsbD 1 with
    | true =>
      have faulted := faultReply_effect here inService
      rw [recorded.here, recorded.line, recorded.slices] at faulted
      have event := (recorded.trans faulted).finish
      exact ⟨_, _, _, _, rfl, event, event.here, congrArg LinePort.notices event.line, event.slices⟩
    | false =>
      have event := (recorded.trans cleared).finish
      cases moving : c.flight with
      | none =>
        have still : completeMove x.zone (clearMisses x.zone t) = clearMisses x.zone t :=
          completeMove_still (by rw [cleared.here]; exact moving)
        rw [still, ite_self]
        exact ⟨_, _, _, _, rfl, event, event.here.trans (by simp [moving]), event.line, event.slices⟩
      | some v =>
        by_cases done : x.kind = .poll ∧ flags.getLsbD 0 = true
        · have completed := completeMove_effect (s := clearMisses x.zone t) (v := v) (by rwa [cleared.count])
            (by rw [cleared.here]; exact moving)
          rw [cleared.here, cleared.line, cleared.slices] at completed
          have event := ((recorded.trans cleared).trans completed).finish
          simp only [done, and_self, if_true, decide_true, Bool.and_self]
          exact ⟨_, _, _, _, rfl, event, event.here, event.line, event.slices⟩
        · have undone : (decide (x.kind = .poll) && flags.getLsbD 0) = false := by simpa using done
          simp only [if_neg done, undone]
          exact ⟨_, _, _, _, rfl, event, event.here.trans (by simp [moving]), event.line, event.slices⟩

/-- Settles O45: the reply is recorded, and then faults, completes the move, or only clears the misses. -/
theorem statusReplyRecordsAndCompletes : Obligations.StatusReplyRecordsAndCompletes := by
  intro zone flags position s x count polling poll named below
  have kinds : x.kind ∈ [TxnKind.poll, .clearPoll] := by cases kind : x.kind <;> simp_all
  have small : x.zone < (freeLink s).zones.length := by simpa [freeLink, count] using below
  refine ⟨fun late => ?_, fun within => ⟨finishLink (statusReply x position flags (freeLink s)), ?_, ?_⟩⟩
  · simp [exec, execStatusReply, takeStatus, answered_late [.poll, .clearPoll] zone s x polling late]
  · have reply : answered [.poll, .clearPoll] zone s = some x :=
      (answered_eq_some_iff _ _ _ _).mpr ⟨polling, kinds, named, within⟩
    simp only [exec, execStatusReply, takeStatus, reply]
  · have recorded := recorded_effect x position small
    obtain ⟨u, d, l, sl, result, event, effect⟩ := recorded_outcome (flags := flags) recorded (by rwa [recorded.count])
    have ends : statusReply x position flags (freeLink s) = u := result
    rw [ends]
    exact event.ended effect

/-! ## Misses (R112, R117) and ignored frames (R113) -/

/-- What a miss makes of the line port, the slices and the channel, `c` being the channel with its clear poll ended. -/
def MissEffect (z : Nat) (s t : State) (c : Channel) : Prop :=
  if c.mode.inService = false then
    channel t z = c ∧ t.line = s.line ∧ t.track.slices = s.track.slices
  else if c.misses < 2 then
    channel t z = { c with misses := c.misses + 1 } ∧ t.line = s.line ∧ t.track.slices = s.track.slices
  else
    channel t z = { c with
      misses := c.misses + 1
      mode := .fault
      slot := none
      flight := none
      entryMark := false } ∧
    t.line.notices = s.line.notices ||| LineNotice.zoneFault.bit ∧
    t.track.slices = s.track.slices.map (reportedFault z c)

theorem countMiss_outcome (ended : Effect z u t c s.line s.track.slices) (below : z < t.zones.length) :
    ∃ d l sl, LinkEvent z u (finishLink (countMiss z t)) d l sl ∧ MissEffect z s (finishLink (countMiss z t)) c := by
  unfold MissEffect
  cases serves : c.mode.inService with
  | false =>
    have event := ended.finish
    rw [countMiss_out (by rwa [ended.here])]
    exact ⟨_, _, _, event, event.here, event.line, event.slices⟩
  | true =>
    have counted := countMiss_effect below (by rwa [ended.here])
    rw [ended.here, ended.line, ended.slices] at counted
    by_cases few : c.misses < 2
    · rw [if_pos few] at counted ⊢
      have event := (ended.trans counted).finish
      exact ⟨_, _, _, event, event.here, event.line, event.slices⟩
    · rw [if_neg few] at counted ⊢
      have event := (ended.trans counted).finish
      exact ⟨_, _, _, event, event.here, congrArg LinePort.notices event.line, event.slices⟩

theorem granted_abandoned (s : State) : (granted s).abandoned = s.link.abandoned := by
  rcases granted_cases s with same | ⟨_, _, z, k, _, _, link⟩
  · rw [same]
  · rw [link]

/-- No frame is the reply of the transaction on the link: its kind or its zone is another, or the window has closed. -/
theorem replyAmong_none {bytes : List (Option (BitVec 8))}
    (ignored : ∀ x ∈ s.link.txn, s.now < x.start + 400 → ∀ frame ∈ driveFrames bytes, match frame with
      | .accept zone _ => ¬ (x.kind = .send ∧ x.zone = zone.toNat)
      | .status zone _ _ => ¬ (x.kind ≠ .send ∧ x.zone = zone.toNat)) : replyAmong bytes s = none := by
  refine List.find?_eq_none.mpr fun frame held reply => ?_
  cases frame with
  | accept zone flags =>
    obtain ⟨x, answers⟩ := Option.isSome_iff_exists.mp reply
    obtain ⟨sending, kind, zone', within⟩ := (answered_eq_some_iff _ _ _ _).mp answers
    exact ignored x sending within _ held ⟨by simpa using kind, zone'⟩
  | status zone position flags =>
    obtain ⟨x, answers⟩ := Option.isSome_iff_exists.mp reply
    obtain ⟨polling, kind, zone', within⟩ := (answered_eq_some_iff _ _ _ _).mp answers
    refine ignored x polling within _ held ⟨fun send => ?_, zone'⟩
    simp [send] at kind

/-- Settles O46: a miss counts or faults, an abandoned window frees the link, and no other frame has an effect. -/
theorem missesCountTowardsFault : Obligations.MissesCountTowardsFault := by
  intro s count
  refine ⟨fun x missing below => ?_, fun start abandoned => ?_, fun bytes ignored => ?_⟩
  · let v : State := freeLink (advanceTo (x.start + Config.replyWindow) s)
    have small : x.zone < v.zones.length := lt_of_lt_of_eq below count.symm
    have ended : Effect x.zone v (endClearPoll x v) _ s.line s.track.slices := endClearPoll_effect x small
    obtain ⟨d, l, sl, event, effect⟩ := countMiss_outcome ended (by rwa [ended.count])
    have run : exec .miss s = .next (finishLink (countMiss x.zone (endClearPoll x v))) := by
      simp only [exec, execMiss, missing]
      rfl
    refine ⟨_, run, event.now, fun y held => (event.start rfl y held).trans event.now.symm, fun apart => ?_, event.h,
      event.intake, event.hides, event.settings, fun y _ other => event.others y other, effect⟩
    exact event.turn (by simp [v, freeLink, Link.free, advanceTo, apart])
  · have run : exec .abandonedReplyWindowClose s = .next (closeWindow start s) := by
      simp only [exec, execAbandonedReplyWindowClose, abandoned]
    refine ⟨_, run, granted_abandoned _, rfl, rfl, rfl, fun idle => ?_⟩
    exact arbitrate_inTurn (s := { advanceTo (start + Config.replyWindow) s with
      link := { s.link with abandoned := none } }) (by simp [Link.free, idle])
  · simp only [exec, execZoneLinkFrameIgnored, replyAmong_none ignored]

/-! ## Move timeouts (R118) -/

theorem reported_nothing (p : Progress) (z : Nat) (x : Slice) : reported p z none x = x := by simp [reported]

theorem timedOut_effect {v : Move} (below : z < s.zones.length) (moving : (channel s z).flight = some v) :
    Effect z (advanceTo v.deadline s) (timedOut v z s)
      { channel s z with flight := none, lagging := true, timeouts := (channel s z).timeouts + 1 }
      { s.line with notices := s.line.notices ||| LineNotice.zoneLagging.bit }
      (s.track.slices.map (reported .timedOut z (some v.target))) := by
  have ended := endFlight_effect (s := advanceTo v.deadline s) .timedOut below
  rw [show (channel (advanceTo v.deadline s) z).flight = some v from moving, Option.map_some] at ended
  have counted := updChannel_effect (s := endFlight .timedOut z (advanceTo v.deadline s))
    (fun c => { c with lagging := true, timeouts := c.timeouts + 1 }) (by rwa [ended.count])
  rw [ended.here, ended.line, ended.slices] at counted
  have raised := raiseLine_effect .zoneLagging z (updChannel (fun c => { c with
    lagging := true, timeouts := c.timeouts + 1 }) z (endFlight .timedOut z (advanceTo v.deadline s)))
  rw [counted.here, counted.line, counted.slices] at raised
  exact (ended.trans counted).trans raised

/-- Step 5 of R118: an empty slot behind a marked ENTRY move takes the entry gap again. -/
theorem retryEntry_effect (v : Move) (below : z < t.zones.length) : Effect z t (retryEntry v z t)
    { channel t z with
      slot := if v.target.cause = .entry ∧ (channel t z).entryMark = true ∧ (channel t z).slot = none
        then some { gap := t.settings.geometry.entryGap, cause := .entry, ref := none } else (channel t z).slot }
    t.line t.track.slices := by
  unfold retryEntry
  by_cases again : v.target.cause = .entry ∧ (channel t z).entryMark = true ∧ (channel t z).slot = none
  · rw [if_pos again, if_pos (by simp [again])]
    have placed : Effect z t (place { gap := t.settings.geometry.entryGap, cause := .entry, ref := none } z t) _ t.line
        (t.track.slices.map (reported .skipped z (channel t z).slot)) := replaceSlot_effect _ below
    rw [again.2.2, List.map_id'' (reported_nothing _ _)] at placed
    exact placed
  · rw [if_neg again, if_neg (by simpa [and_assoc] using again)]
    exact Effect.refl z t

/-- Settles O47: the move ends with LAGGING, and the third in a row with FAULT. -/
theorem moveTimeoutEndsTheMove : Obligations.MoveTimeoutEndsTheMove := by
  intro z s v count small moving
  have below : z < s.zones.length := by omega
  have out := timedOut_effect below moving
  have timeouts : (channel (timedOut v z s) z).timeouts = (channel s z).timeouts + 1 := by rw [out.here]
  have run : exec (.moveTimeout z) s = .next (timeoutMove v z s) := by simp only [exec, execMoveTimeout, moving]
  rw [timeoutMove_eq, timeouts] at run
  refine ⟨_, run, ?_⟩
  by_cases few : (channel s z).timeouts < 2
  · rw [if_pos few, if_neg (show ¬ 3 ≤ (channel s z).timeouts + 1 by omega)]
    have retried := retryEntry_effect (t := timedOut v z s) v (by rwa [out.count])
    rw [out.here, out.line, out.slices, out.settings] at retried
    have event := (out.trans retried).finish
    exact ⟨event.now, event.turn, event.h, event.intake, event.hides, event.settings,
      fun y _ other => event.others y other, event.here, congrArg LinePort.notices event.line, event.slices⟩
  · rw [if_neg few, if_pos (show 3 ≤ (channel s z).timeouts + 1 by omega)]
    have fault := enterFault_effect (s := timedOut v z s) (z := z) (by rwa [out.count])
    rw [out.here, out.line, out.slices, List.map_map] at fault
    have event := (out.trans fault).finish
    refine ⟨event.now, event.turn, event.h, event.intake, event.hides, event.settings,
      fun y _ other => event.others y other, event.here, ?_, event.slices.trans ?_⟩
    · rw [event.line, ← BitVec.or_assoc]
    · exact List.map_congr_left fun x _ => reported_nothing .ended z _

end Sys2Proof.Machine

/-! PROOFS. The two ports: transfers, frames and the placing of responses (O48 to O51). -/

namespace Sys2Proof.Machine

variable {s t : State}

/-! ## What SDO carries (R191) -/

theorem shifted_length (x : Option Response) (n : Nat) : (shifted x n).length = n := by simp [shifted]

theorem shifted_getElem? (x : Option Response) {n i : Nat} (within : i < n) :
    (shifted x n)[i]? = some ((x.bind fun r => r.frame[i]?).getD 0xFF) := by
  cases x with
  | none => simp [shifted, within]
  | some r =>
    simp only [shifted]
    rw [List.getElem?_take_of_lt within]
    by_cases short : i < r.frame.length
    · simp [List.getElem?_append_left short, short]
    · rw [List.getElem?_append_right (by omega), List.getElem?_replicate_of_lt (by omega)]
      simp [short]

theorem sdoBytes_length (cut tx : Option Response) (n : Nat) (lead : Lead) : (sdoBytes cut tx n lead).length = n := by
  simp [sdoBytes, shifted_length]
  omega

theorem sdoBytes_getElem? (cut tx : Option Response) {n i : Nat} (before shown : Nat) (within : i < n) :
    (sdoBytes cut tx n ⟨before, shown⟩)[i]? = some
      (if i < before then 0xFF
        else if i < before + shown then (cut.bind fun r => r.frame[i - before]?).getD 0xFF
        else (tx.bind fun r => r.frame[i - (before + shown)]?).getD 0xFF) := by
  rw [sdoBytes, List.getElem?_take_of_lt within]
  dsimp only
  by_cases early : i < before
  · rw [if_pos early, List.getElem?_append_left (by simp [shifted_length]; omega),
      List.getElem?_append_left (by simpa [shifted_length] using early), shifted_getElem? none early]
    rfl
  · rw [if_neg early]
    by_cases showing : i < before + shown
    · rw [if_pos showing, List.getElem?_append_left (by simpa [shifted_length] using showing),
        List.getElem?_append_right (by simpa [shifted_length] using early), shifted_length,
        shifted_getElem? cut (by omega)]
    · rw [if_neg showing, List.getElem?_append_right (by simpa [shifted_length] using showing), List.length_append,
        shifted_length, shifted_length, shifted_getElem? tx (by omega)]

/-! ## The transmit buffer and the counters at the end of a transfer (R28, R176) -/

theorem readOut_eq (n : Nat) (lead : Lead) (p : Port) : p.readOut n lead = { p with tx := leftUnread p.tx n lead } := by
  have left : p.tx.filter (fun r => !r.shiftedOut n lead.total) = leftUnread p.tx n lead := by
    cases p.tx with
    | none => rfl
    | some r =>
      simp only [Option.filter_some, leftUnread, Response.shiftedOut, Lead.total, Bool.not_eq_true']
      split <;> split <;> simp_all
  rw [Port.readOut, left]

theorem raiseGauge_eq (n : GaugeNotice) (s : State) : raiseGauge n s = { s with intake := { s.intake with
    notices := if s.ctl.strap = .profile then s.intake.notices ||| n.bit else s.intake.notices } } := by
  unfold raiseGauge
  cases strap : s.ctl.strap <;> simp

/-- The port at the end of a transfer: SDO recorded, the response read where it was shifted out whole. -/
def Port.ended (n : Nat) (lead : Lead) (p : Port) : Port :=
  { p with tx := leftUnread p.tx n lead, cut := none, sdo := sdoBytes p.cut p.tx n lead }

theorem Port.readOut_recordSdo (n : Nat) (lead : Lead) (p : Port) :
    (p.recordSdo n lead).readOut n lead = p.ended n lead := by
  rw [readOut_eq]
  rfl

theorem exec_gaugeTransferEnd_high (sdi : List Byte) (lead : Lead) (high : s.intake.port.rdy = true) :
    exec (.gaugeTransferEnd sdi lead) s = .next (gaugeExamine sdi { s with intake := { s.intake with
      port := s.intake.port.ended sdi.length lead } }) := by
  have rdy : (s.intake.port.recordSdo sdi.length lead).rdy = true := high
  simp only [exec, execGaugeTransferEnd, high, if_true, Port.readOut_recordSdo]

theorem exec_lineTransferEnd_high (sdi : List Byte) (lead : Lead) (high : s.line.port.rdy = true) :
    exec (.lineTransferEnd sdi lead) s = .next (lineExamine sdi { s with line := { s.line with
      port := s.line.port.ended sdi.length lead } }) := by
  simp only [exec, execLineTransferEnd, high, if_true, Port.readOut_recordSdo]

theorem unreadAfter_leftUnread (tx : Option Response) (n : Nat) (lead : Lead) (count : Nat) :
    unreadAfter (leftUnread tx n lead) count = match tx with
      | some r => if lead.before + lead.shown + r.frame.length ≤ n then count else min 65535 (count + 1)
      | none => count := by
  cases tx with
  | none => rfl
  | some r =>
    simp only [leftUnread]
    split <;> rfl


theorem gaugeExamine_request {sdi : List Byte} {c : Instr} (request : PortName.gauge.examine sdi = .request c) :
    gaugeExamine sdi s = takeGauge sdi s := by
  rw [gaugeExamine, request]

theorem lineExamine_request {sdi : List Byte} {c : Instr} (request : PortName.line.examine sdi = .request c) :
    lineExamine sdi s = if c = .reset then holdSync (takeLine sdi s) else takeLine sdi s := by
  rw [lineExamine, request]

/-- Settles O48: a request's frame is taken, and what was left unread is discarded and counted. -/
theorem transfersWithRdyHighTakeTheRequest : Obligations.TransfersWithRdyHighTakeTheRequest := by
  refine ⟨fun cut tx n before shown => ⟨sdoBytes_length cut tx n _, fun i within => sdoBytes_getElem? cut tx _ _ within⟩,
    fun sdi lead c s => ⟨fun high request => ?_, fun high request => ?_⟩⟩
  · refine ⟨_, exec_gaugeTransferEnd_high sdi lead high, ?_⟩
    rw [gaugeExamine_request request]
    exact ⟨rfl, rfl, rfl, rfl, rfl, rfl, unreadAfter_leftUnread _ _ _ _⟩
  · refine ⟨_, exec_lineTransferEnd_high sdi lead high, ?_⟩
    rw [lineExamine_request request]
    by_cases reset : c = .reset
    · rw [if_pos reset, decide_eq_true reset, Bool.or_true]
      exact ⟨rfl, rfl, rfl, rfl, rfl, rfl, unreadAfter_leftUnread _ _ _ _⟩
    · rw [if_neg reset, decide_eq_false reset, Bool.or_false]
      exact ⟨rfl, rfl, rfl, rfl, rfl, rfl, unreadAfter_leftUnread _ _ _ _⟩

/-- Settles O49: each verdict on the frame has its own answer and its own counter. -/
theorem badAndUnknownFramesAreAnswered : Obligations.BadAndUnknownFramesAreAnswered := by
  intro sdi lead s
  refine ⟨fun high free => ?_, fun high => ?_⟩
  · refine ⟨_, exec_lineTransferEnd_high sdi lead high, ?_⟩
    simp only [lineExamine]
    cases verdict : PortName.line.examine sdi with
    | noFrame => simp [Port.ended, high]
    | noKind => simp [Port.ended, high, countLineBadFrame, bump_eq]
    | badFrame k =>
      simp [Port.ended, high, countLineBadFrame, bump_eq, answerLine_eq, free, takeLine, Port.take, unreadAfter]
    | unknownKind k =>
      simp [Port.ended, high, bump_eq, answerLine_eq, free, takeLine, Port.take, unreadAfter]
    | request c =>
      by_cases reset : c = .reset
      · simp [Port.ended, high, bump_eq, takeLine, Port.take, unreadAfter, reset, holdSync]
      · simp [Port.ended, high, bump_eq, takeLine, Port.take, unreadAfter, reset]
  · refine ⟨_, exec_gaugeTransferEnd_high sdi lead high, ?_⟩
    simp only [gaugeExamine]
    cases verdict : PortName.gauge.examine sdi with
    | noFrame => simp [Port.ended, high]
    | noKind => simp [Port.ended, high, countGaugeBadFrame, bump_eq]
    | badFrame k =>
      by_cases slice : k = 1#8
      · simp [Port.ended, high, countGaugeBadFrame, bump_eq, answerGaugeBadFrame, answerGauge, Port.answerWith,
          Port.acted, takeGauge, Port.take, unreadAfter, raiseGauge_eq, slice]
      · simp [Port.ended, high, countGaugeBadFrame, bump_eq, answerGaugeBadFrame, answerGauge, Port.answerWith,
          Port.acted, takeGauge, Port.take, unreadAfter, slice]
    | unknownKind k =>
      simp [Port.ended, high, bump_eq, answerGauge, Port.answerWith, Port.acted, takeGauge, Port.take, unreadAfter]
    | request c => simp [Port.ended, high, bump_eq, takeGauge, Port.take, unreadAfter]

/-! ## Transfers with RDY low (R27, R175, R177) -/

theorem carriesStart_iff {sdi : List Byte} : carriesStart sdi = true ↔ requestStart ∈ sdi := by
  simp [carriesStart]

/-- Settles O50: without RDY a frame is an overrun, or the RESET that enters the hold. -/
theorem transfersWithRdyLowAreOverruns : Obligations.TransfersWithRdyLowAreOverruns := by
  intro sdi lead s
  refine ⟨fun low => ?_, fun low => ?_⟩
  · by_cases start : requestStart ∈ sdi
    · simp [exec, execGaugeTransferEnd, low, carriesStart_iff, start, countGaugeOverrun, raiseGauge_eq, bump_eq,
        Port.recordSdo]
    · simp [exec, execGaugeTransferEnd, low, carriesStart_iff, start, Port.recordSdo]
  · by_cases holds : PortName.line.examine sdi = .request .reset ∧ s.feed.syncHeld = false
    · simp [exec, execLineTransferEnd, low, lineLate, holds, enterHold, holdSync, Port.recordSdo]
    · have stays : (decide (PortName.line.examine sdi = .request .reset) && !s.feed.syncHeld) = false := by
        simpa using holds
      by_cases start : requestStart ∈ sdi
      · simp [exec, execLineTransferEnd, low, lineLate, stays, if_neg holds, carriesStart_iff, start, countLineOverrun,
          raiseLine, bump_eq, Port.recordSdo]
      · simp [exec, execLineTransferEnd, low, lineLate, stays, if_neg holds, carriesStart_iff, start, Port.recordSdo]

/-! ## Placing a response (R23, R24, R172), SYNC and ATN (R8, R29, R178) -/

/-- A notice that is set and unmasked. -/
theorem unmasked_iff {w : Nat} (notices mask : BitVec w) :
    notices &&& ~~~mask ≠ 0 ↔ ∃ i, i < w ∧ notices.getLsbD i = true ∧ mask.getLsbD i = false := by
  constructor
  · intro some'
    by_contra all
    push Not at all
    refine some' (BitVec.eq_of_getLsbD_eq fun i small => ?_)
    have here := all i small
    simp only [BitVec.getLsbD_and, BitVec.getLsbD_not, small, decide_true, Bool.true_and]
    cases set : notices.getLsbD i with
    | false => simp
    | true => simp [here set]
  · rintro ⟨i, small, set, clear⟩ zero
    have bit : (notices &&& ~~~mask).getLsbD i = false := by rw [zero]; simp
    rw [BitVec.getLsbD_and, BitVec.getLsbD_not, set, clear, decide_eq_true small] at bit
    exact absurd bit (by decide)

theorem interruptedWaits_eq_false (ready : s.line.hold = false ∨ ∀ f ∈ s.line.port.rx, f.acted = true) :
    interruptedWaits s = false := by
  unfold interruptedWaits
  rcases ready with free | acted
  · rw [free, Bool.false_and]
  · cases rx : s.line.port.rx with
    | none => simp
    | some f => simp [acted f (by simp [rx])]

/-- Settles O51: a placed response fills the buffer and raises RDY; that of a RESET releases SYNC. -/
theorem placingAResponseRaisesRdy : Obligations.PlacingAResponseRaisesRdy := by
  refine ⟨fun s => ⟨by simp [syncOutput], ?_, ?_⟩, fun s r => ⟨fun waits => ?_, fun waits ready => ?_, fun held waits => ?_⟩⟩
  · rw [lineAtn, decide_eq_true_iff]
    exact unmasked_iff _ _
  · rw [gaugeAtn, decide_eq_true_iff]
    exact unmasked_iff _ _
  · simp [exec, execGaugeResponsePlaced, waits, Port.place]
  · have placed : exec .lineResponsePlaced s = .next (placeLine r s) := by
      simp [exec, execLineResponsePlaced, waits, interruptedWaits_eq_false ready]
    rw [placed]
    by_cases reset : r.kind = 0x3E ∧ r.status = .ok
    · simp [placeLine, Response.answersReset, reset, raiseGauge_eq, Port.place]
    · have other : (decide (r.kind = 0x3E) && decide (r.status = .ok)) = false := by simpa using reset
      have other' : ¬ (r.kind = 0x3E ∧ r.status = .ok ∧ s.ctl.strap = .profile) :=
        fun ⟨kind, status, _⟩ => reset ⟨kind, status⟩
      simp only [placeLine, Response.answersReset, other, if_neg other', Port.place, Bool.not_false, Bool.and_true]
      rfl
  · obtain ⟨f, there, acted⟩ := waits
    have interrupted : interruptedWaits s = true := by
      simp [interruptedWaits, held, Option.mem_def.mp there, acted]
    simp only [exec, execLineResponsePlaced, interrupted, if_true]
    split <;> rfl

end Sys2Proof.Machine

/-! PROOFS. Layouts as sequences of fields: what a record built field by field spells at each of its places. -/

namespace Sys2Proof.Machine

/-! ## Fields -/

/-- The bytes are fields of these widths and numbers, one behind the other. -/
def Spells (l : List Byte) : List (Nat × Nat) → Prop
  | [] => l = []
  | (width, value) :: fields =>
    ∃ field tail, l = field ++ tail ∧ field.length = width ∧ valueAt field 0 width = value ∧ Spells tail fields

variable {l m : List Byte} {fields others : List (Nat × Nat)}

/-- The place behind the first fields. -/
def placeOf : List (Nat × Nat) → Nat
  | [] => 0
  | (width, _) :: fields => placeOf fields + width

theorem placeOf_append (fields others : List (Nat × Nat)) :
    placeOf (fields ++ others) = placeOf fields + placeOf others := by
  induction fields with
  | nil => simp [placeOf]
  | cons first fields ih =>
    rw [List.cons_append, placeOf, placeOf, ih]
    omega

theorem Spells.nil : Spells [] [] := rfl

theorem Spells.one {width value : Nat} (count : l.length = width) (reads : valueAt l 0 width = value) :
    Spells l [(width, value)] := ⟨l, [], by simp, count, reads, rfl⟩

theorem Spells.append (h : Spells l fields) (h' : Spells m others) : Spells (l ++ m) (fields ++ others) := by
  induction fields generalizing l with
  | nil =>
    obtain rfl : l = [] := h
    exact h'
  | cons first fields ih =>
    obtain ⟨field, tail, rfl, count, reads, spells⟩ := h
    exact ⟨field, tail ++ m, List.append_assoc .., count, reads, ih spells⟩

theorem Spells.length (h : Spells l fields) : l.length = placeOf fields := by
  induction fields generalizing l with
  | nil =>
    obtain rfl : l = [] := h
    rfl
  | cons first fields ih =>
    obtain ⟨field, tail, rfl, count, _, spells⟩ := h
    simp [placeOf, count, ih spells, Nat.add_comm]

/-- A field is read at its place, whatever follows the record. -/
theorem Spells.field (h : Spells l fields) (rest : List Byte) {i width value : Nat}
    (there : fields[i]? = some (width, value)) : valueAt (l ++ rest) (placeOf (fields.take i)) width = value := by
  induction fields generalizing l i with
  | nil => simp at there
  | cons first fields ih =>
    obtain ⟨field, tail, rfl, count, reads, spells⟩ := h
    cases i with
    | zero =>
      obtain rfl : first = (width, value) := by simpa using there
      rw [List.append_assoc]
      exact (valueAt_append_left field _ 0 width (by rw [count, Nat.zero_add])).trans reads
    | succ i =>
      have behind := ih spells (i := i) (by simpa using there)
      rw [← valueAt_append field (tail ++ rest), count, ← List.append_assoc] at behind
      simpa [placeOf, Nat.add_comm] using behind

theorem Spells.value (h : Spells l fields) (i : Nat) {width value : Nat} (there : fields[i]? = some (width, value)) :
    valueAt l (placeOf (fields.take i)) width = value := by
  have read := h.field [] there
  rwa [List.append_nil] at read

/-! ## The fields of chapter 10 -/

theorem spells_byte (b : Byte) : Spells [b] [(1, b.toNat)] := .one rfl (valueAt_byte b [])

theorem spells_be16 (w : BitVec 16) : Spells (be16 w) [(2, w.toNat)] :=
  .one rfl (by simpa using valueAt_be16 w [])

theorem spells_be24 (w : BitVec 24) : Spells (be24 w) [(3, w.toNat)] :=
  .one rfl (by simpa using valueAt_be24 w [])

theorem spells_be32 (w : BitVec 32) : Spells (be32 w) [(4, w.toNat)] :=
  .one rfl (by simpa using valueAt_be32 w [])

theorem spells_nat8 (n : Nat) : Spells (nat8 n) [(1, n % 256)] :=
  .one rfl (by simpa using valueAt_nat8 n [])

theorem spells_nat16 (n : Nat) : Spells (nat16 n) [(2, n % 65536)] :=
  .one rfl (by simpa using valueAt_nat16 n [])

theorem spells_nat32 (n : Nat) : Spells (nat32 n) [(4, n % 4294967296)] :=
  .one rfl (by simpa using valueAt_nat32 n [])

theorem spells_int16 (i : Int) : Spells (int16 i) [(2, signedWord i)] :=
  .one rfl (by simpa using valueAt_int16 i [])

theorem spells_flag (b : Bool) : Spells [flagByte b] [(1, b.toNat)] := by
  have byte := spells_byte (flagByte b)
  rwa [show (flagByte b).toNat = b.toNat by cases b <;> rfl] at byte

theorem spells_zeros (k : Nat) : Spells (List.replicate k 0) [(k, 0)] := .one (by simp) (valueAt_zeros k 0 k)

/-! ## Optional fields (R193) -/

theorem spells_optWord (x : Option (BitVec 16)) :
    Spells (optWord x) [(1, x.isSome.toNat), (2, (x.map BitVec.toNat).getD 0)] := by
  cases x with
  | none => exact (spells_byte 0).append (spells_be16 0)
  | some w => exact (spells_byte 1).append (spells_be16 w)

theorem spells_optPos (x : Option Pos) :
    Spells (optPos x) [(1, x.isSome.toNat), (4, (x.map BitVec.toNat).getD 0)] := by
  cases x with
  | none => exact (spells_byte 0).append (spells_be32 0)
  | some w => exact (spells_byte 1).append (spells_be32 w)

theorem spells_optStrobe (x : Option StrobeId) : Spells (optStrobe x)
    [(1, x.isSome.toNat), (2, (x.map fun n => n.num.toNat).getD 0), (4, (x.map fun n => n.pos.toNat).getD 0)] := by
  cases x with
  | none => exact (spells_byte 0).append ((spells_be16 0).append (spells_be32 0))
  | some n => exact (spells_byte 1).append ((spells_be16 n.num).append (spells_be32 n.pos))

theorem spells_optThickness (x : Option Nat) : Spells (optThickness x) [(2, (x.getD 0xFFFF) % 65536)] := by
  cases x with
  | none => exact spells_be16 0xFFFF#16
  | some t => exact spells_nat16 t

theorem spells_optGap (x : Option Int) : Spells (optGap x) [(2, (x.map signedWord).getD 0xFFFF)] := by
  cases x with
  | none => exact spells_be16 0xFFFF#16
  | some g => exact spells_int16 g

/-! ## Words in a row -/

theorem spells_words (ns : List Nat) : Spells (ns.flatMap nat16) (ns.map fun n => (2, n % 65536)) := by
  induction ns with
  | nil => exact .nil
  | cons n ns ih => exact (spells_nat16 n).append ih

theorem spells_signedWords (vs : List Int) : Spells (vs.flatMap int16) (vs.map fun v => (2, signedWord v)) := by
  induction vs with
  | nil => exact .nil
  | cons v vs ih => exact (spells_int16 v).append ih

/-- Two-byte fields in a row stand two places apart. -/
theorem Spells.row {α : Type} {f : α → Nat} {xs : List α} {before after : List (Nat × Nat)} {k : Nat} {x : α}
    (h : Spells l fields) (rest : List Byte) (row : fields = before ++ (xs.map (fun x => (2, f x)) ++ after))
    (there : xs[k]? = some x) : valueAt (l ++ rest) (placeOf before + 2 * k) 2 = f x := by
  have small : k < xs.length := (List.getElem?_eq_some_iff.mp there).1
  have field : fields[before.length + k]? = some (2, f x) := by
    rw [row, List.getElem?_append_right (by omega), Nat.add_sub_cancel_left,
      List.getElem?_append_left (by simpa using small), List.getElem?_map, there]
    rfl
  have sum : ∀ ys : List α, placeOf (ys.map fun y => (2, f y)) = 2 * ys.length := by
    intro ys
    induction ys with
    | nil => rfl
    | cons y ys ih =>
      rw [List.map_cons, placeOf, ih, List.length_cons]
      omega
  have place : placeOf (fields.take (before.length + k)) = placeOf before + 2 * k := by
    rw [row, List.take_length_add_append, List.take_append_of_le_length (by simpa using small.le), ← List.map_take,
      placeOf_append, sum, List.length_take, min_eq_left small.le]
  rw [← place]
  exact h.field rest field

theorem Spells.words {ns : List Nat} {before after : List (Nat × Nat)} (h : Spells l fields) (rest : List Byte)
    (row : fields = before ++ (ns.map (fun n => (2, n % 65536)) ++ after)) :
    WordsRead ns (l ++ rest) (placeOf before) :=
  fun _ _ there => h.row (f := fun n => n % 65536) rest row there

theorem Spells.signedWords {vs : List Int} {before after : List (Nat × Nat)} (h : Spells l fields) (rest : List Byte)
    (row : fields = before ++ (vs.map (fun v => (2, signedWord v)) ++ after)) :
    SignedWordsRead vs (l ++ rest) (placeOf before) :=
  fun _ _ there => h.row (f := signedWord) rest row there

/-! ## Blocks of one size -/

/-- Block `z` of a row of blocks, with the bytes before and behind it. -/
theorem blocks_split (f : Nat → List Byte) {n z k : Nat} (small : z < n) (size : ∀ y, (f y).length = k) :
    ∃ before after, (List.range n).flatMap f = before ++ (f z ++ after) ∧ before.length = k * z := by
  obtain ⟨m, rfl⟩ := Nat.exists_eq_add_of_lt small
  refine ⟨(List.range z).flatMap f, ((List.range (m + 1)).map (z + ·)).tail.flatMap f, ?_, ?_⟩
  · rw [Nat.add_assoc, List.range_add, List.flatMap_append]
    have first : (List.range (m + 1)).map (z + ·) = z :: ((List.range (m + 1)).map (z + ·)).tail := by
      simp [List.range_succ_eq_map]
    conv_lhs => rw [first, List.flatMap_cons]
  · rw [List.length_flatMap]
    simp [size, Nat.mul_comm]

theorem blocks_length (f : Nat → List Byte) (n : Nat) {k : Nat} (size : ∀ y, (f y).length = k) :
    ((List.range n).flatMap f).length = n * k := by
  rw [List.length_flatMap]
  simp [size]

/-- A field of block `z` is read in the row. -/
theorem valueAt_block (f : Nat → List Byte) (rest : List Byte) {n z k place width : Nat} (small : z < n)
    (size : ∀ y, (f y).length = k) (within : place + width ≤ k) :
    valueAt ((List.range n).flatMap f ++ rest) (k * z + place) width = valueAt (f z) place width := by
  obtain ⟨before, after, split, count⟩ := blocks_split f small size
  rw [split, List.append_assoc, ← count, valueAt_append, List.append_assoc,
    valueAt_append_left _ _ _ _ (by rwa [size])]

/-! ## Bits (R193) -/

theorem getLsbD_setBit (w : BitVec 16) {y z : Nat} (small : z < 16) (b : Bool) :
    (if b then w ||| (1#16 <<< y) else w).getLsbD z = (w.getLsbD z || (decide (z = y) && b)) := by
  cases b with
  | false => simp
  | true =>
    rw [if_pos rfl, BitVec.getLsbD_or, BitVec.getLsbD_shiftLeft, BitVec.getLsbD_one]
    rcases lt_trichotomy z y with less | rfl | more
    · simp [less, less.ne]
    · simp [small]
    · simp [more.ne', more.not_gt, Nat.sub_ne_zero_of_lt more]

theorem zoneSet_testBit (p : Channel → Bool) (s : State) {z : Nat} (small : z < 16) :
    (zoneList.foldl (fun w z => if p (channel s z) then w ||| (1#16 <<< z) else w) 0).toNat.testBit z =
      p (channel s z) := by
  have fold : ∀ (zs : List Nat) (w : BitVec 16),
      (zs.foldl (fun w z => if p (channel s z) then w ||| (1#16 <<< z) else w) w).getLsbD z =
        (w.getLsbD z || (decide (z ∈ zs) && p (channel s z))) := by
    intro zs
    induction zs with
    | nil => simp
    | cons y zs ih =>
      intro w
      rw [List.foldl_cons, ih, getLsbD_setBit w small]
      by_cases same : z = y
      · subst same
        cases p (channel s z) <;> simp
      · simp [same]
  rw [BitVec.testBit_toNat, fold]
  simp [zoneList, Config.zones, small]

theorem bits2_toNat : ∀ a b : Bool, (bitsByte [a, b]).toNat = a.toNat + 2 * b.toNat := by decide

theorem bits3_toNat : ∀ a b c : Bool, (bitsByte [a, b, c]).toNat = a.toNat + 2 * b.toNat + 4 * c.toNat := by decide

theorem bits6_toNat : ∀ a b c d e f : Bool, (bitsByte [a, b, c, d, e, f]).toNat =
    a.toNat + 2 * b.toNat + 4 * c.toNat + 8 * d.toNat + 16 * e.toNat + 32 * f.toNat := by decide

theorem spells_bits2 (a b : Bool) : Spells [bitsByte [a, b]] [(1, a.toNat + 2 * b.toNat)] :=
  bits2_toNat a b ▸ spells_byte _

theorem spells_bits3 (a b c : Bool) : Spells [bitsByte [a, b, c]] [(1, a.toNat + 2 * b.toNat + 4 * c.toNat)] :=
  bits3_toNat a b c ▸ spells_byte _

theorem spells_bits6 (a b c d e f : Bool) : Spells [bitsByte [a, b, c, d, e, f]]
    [(1, a.toNat + 2 * b.toNat + 4 * c.toNat + 8 * d.toNat + 16 * e.toNat + 32 * f.toNat)] :=
  bits6_toNat a b c d e f ▸ spells_byte _

theorem toNat_setWidth_of_le {v w : Nat} (wide : v ≤ w) (x : BitVec v) : (x.setWidth w).toNat = x.toNat := by
  rw [BitVec.toNat_setWidth, Nat.mod_eq_of_lt (lt_of_lt_of_le x.isLt (Nat.pow_le_pow_right (by decide) wide))]

theorem spells_wake (w : BitVec 4) : Spells [wakeByte w] [(1, w.toNat)] := by
  have byte := spells_byte (wakeByte w)
  rwa [wakeByte, toNat_setWidth_of_le (by decide)] at byte

theorem spells_gauge (w : BitVec 5) : Spells [gaugeByte w] [(1, w.toNat)] := by
  have byte := spells_byte (gaugeByte w)
  rwa [gaugeByte, toNat_setWidth_of_le (by decide)] at byte

theorem spells_line (w : BitVec 18) : Spells (lineBytes w) [(3, w.toNat)] := by
  have bytes := spells_be24 (w.setWidth 24)
  rwa [toNat_setWidth_of_le (by decide)] at bytes

end Sys2Proof.Machine

/-! PROOFS. The records of chapter 10, field by field (O55). -/

namespace Sys2Proof.Machine

variable {s t : State}

/-! ## READ_STATUS (R182) -/

theorem spells_feedGroup (s : State) : Spells (feedGroup s)
    [(4, s.feed.f.toNat), (4, s.feed.h.toNat), (1, s.feed.sync.code.toNat),
      (4, (if decide (s.feed.sync = .locked) then 0 else s.feed.settleStart : Pos).toNat),
      (2, (if decide (s.feed.sync = .locked) then s.feed.nextNum else 0 : Num).toNat),
      (4, (if decide (s.feed.sync = .locked) then s.feed.nextPos else 0 : Pos).toNat),
      (1, s.feed.newest.isSome.toNat), (2, (s.feed.newest.map fun n => n.num.toNat).getD 0),
      (4, (s.feed.newest.map fun n => n.pos.toNat).getD 0), (1, s.feed.slip.count % 256), (1, s.feed.trim % 256),
      (2, s.feed.period % 65536), (2, s.feed.duty % 65536), (2, s.feed.effective % 65536),
      (1, (!s.ctl.phase.drives).toNat + 2 * s.pins.halt.toNat), (1, s.feed.capture.isSome.toNat),
      (4, (s.feed.capture.map BitVec.toNat).getD 0), (1, s.feed.overwrite.toNat)] :=
  ((spells_be32 _).append (spells_be32 _)).append (spells_byte _) |>.append (spells_be32 _) |>.append (spells_be16 _)
    |>.append (spells_be32 _) |>.append (spells_optStrobe _) |>.append (spells_nat8 _) |>.append (spells_nat8 _)
    |>.append (spells_nat16 _) |>.append (spells_nat16 _) |>.append (spells_nat16 _) |>.append (spells_bits2 _ _)
    |>.append (spells_optPos _) |>.append (spells_flag _)

theorem spells_hideGroup (s : State) : Spells (hideGroup s)
    [(2, (openNumber s).toNat), (2, s.hides.nextNumber.toNat), (1, s.hides.completion.length % 256),
      (1, (s.hides.completion.length - s.hides.cursor) % 256)] :=
  (spells_be16 _).append (spells_be16 _) |>.append (spells_nat8 _) |>.append (spells_nat8 _)

theorem spells_controllerGroup (s : State) : Spells (controllerGroup s)
    [(1, s.ctl.phase.code.toNat), (1, s.ctl.restTarget.code.toNat), (1, s.ctl.flags.toNat), (1, s.ctl.enables.toNat),
      (1, s.ctl.dwell.running.toNat), (2, dwellRemaining s % 65536),
      (1, s.ctl.feedStop.toNat + 2 * s.pins.halt.toNat + 4 * s.pins.feedStill.toNat), (1, s.ctl.activeZones % 256),
      (1, s.ctl.strap.code.toNat)] :=
  ((spells_byte s.ctl.phase.code).append ((spells_byte s.ctl.restTarget.code).append ((spells_wake s.ctl.flags).append
    ((spells_wake s.ctl.enables).append (spells_flag s.ctl.dwell.running))))).append (spells_nat16 _)
    |>.append (spells_bits3 _ _ _) |>.append (spells_nat8 _) |>.append (spells_byte _)

theorem openNumber_eq (s : State) : (openNumber s).toNat = ((openHide s).map fun r => r.number.toNat).getD 0 := by
  unfold openNumber
  cases openHide s <;> rfl

theorem statusRecord_reads (s : State) : (statusRecord s).length = 71 ∧ StatusRecordReads s (statusRecord s) := by
  have spells := (spells_feedGroup s).append (spells_nat8 s.intake.list.length) |>.append (spells_hideGroup s)
    |>.append (spells_nat16 s.track.slices.length) |>.append (spells_flag (knifePending s))
    |>.append (spells_controllerGroup s)
    |>.append (spells_be16 (zoneList.foldl (fun w z => if decide ((channel s z).mode = .fault) then
      w ||| (1#16 <<< z) else w) 0))
    |>.append (spells_be16 (zoneList.foldl (fun w z => if Channel.lagging (channel s z) then
      w ||| (1#16 <<< z) else w) 0))
    |>.append (spells_line s.line.notices) |>.append (spells_line s.line.mask)
  simp only [List.cons_append, List.nil_append] at spells
  have h : Spells (statusRecord s) _ := spells
  refine ⟨h.length, h.value 0 rfl, h.value 1 rfl, (h.value 2 rfl).trans ?_, (h.value 3 rfl).trans ?_,
    (h.value 4 rfl).trans ?_, (h.value 5 rfl).trans ?_, ⟨h.value 6 rfl, h.value 7 rfl, h.value 8 rfl⟩, h.value 9 rfl,
    h.value 10 rfl, h.value 11 rfl, h.value 12 rfl, h.value 13 rfl, h.value 14 rfl, h.value 15 rfl, h.value 16 rfl,
    h.value 17 rfl, h.value 18 rfl, (h.value 19 rfl).trans (openNumber_eq s), h.value 20 rfl, h.value 21 rfl,
    h.value 22 rfl, h.value 23 rfl, h.value 24 rfl, h.value 25 rfl, h.value 26 rfl, h.value 27 rfl, h.value 28 rfl,
    h.value 29 rfl, h.value 30 rfl, h.value 31 rfl, h.value 32 rfl, h.value 33 rfl, fun z small => ⟨?_, ?_⟩,
    h.value 36 rfl, h.value 37 rfl⟩
  · cases s.feed.sync <;> rfl
  · cases sync : s.feed.sync <;> rfl
  · cases sync : s.feed.sync <;> rfl
  · cases sync : s.feed.sync <;> rfl
  · have read : valueAt (statusRecord s) 61 2 = _ := h.value 34 rfl
    rw [read]
    exact zoneSet_testBit (fun c => decide (c.mode = .fault)) s small
  · have read : valueAt (statusRecord s) 63 2 = _ := h.value 35 rfl
    rw [read]
    exact zoneSet_testBit Channel.lagging s small

/-! ## READ_COUNTERS, READ_SETTINGS and READ_ARTICLE (R160, R170, R184) -/

theorem wordsRead_flatMap (ns : List Nat) (rest : List Byte) : WordsRead ns (ns.flatMap nat16 ++ rest) 0 :=
  (spells_words ns).words (before := []) (after := []) rest (by simp)

theorem signedWordsRead_flatMap (vs : List Int) (rest : List Byte) : SignedWordsRead vs (vs.flatMap int16 ++ rest) 0 :=
  (spells_signedWords vs).signedWords (before := []) (after := []) rest (by simp)

theorem counterRecord_reads (s : State) : (counterRecord s).length = 22 ∧
    WordsRead [s.intake.overrun, s.intake.badFrame, s.intake.unread, s.intake.late, s.intake.duplicate,
      s.intake.orphan, s.intake.refusedAnnounce, s.line.overrun, s.line.badFrame, s.line.unread,
      s.hides.reclaimed] (counterRecord s) 0 := by
  have words := wordsRead_flatMap [s.intake.overrun, s.intake.badFrame, s.intake.unread, s.intake.late,
    s.intake.duplicate, s.intake.orphan, s.intake.refusedAnnounce, s.line.overrun, s.line.badFrame, s.line.unread,
    s.hides.reclaimed] []
  rw [List.append_nil] at words
  exact ⟨rfl, words⟩

/-- The values of an article in the order of R157. -/
def articleValues (a : Article) : List Int :=
  [a.s, a.rmin, a.p0.t, a.p1.t, a.p2.t, a.p3.t, a.p4.t, a.p5.t, a.p0.a, a.p1.a, a.p2.a, a.p3.a, a.p4.a, a.p5.a]

theorem articleBytes_eq (a : Article) : a.bytes = (articleValues a).flatMap int16 := by
  simp [Article.bytes, articleValues, Article.points, CurvePoint.thicknessBytes, CurvePoint.allowanceBytes]

theorem articleBytes_length (a : Article) : a.bytes.length = 28 := rfl

theorem article_reads (a : Article) (rest : List Byte) : ArticleReads a (a.bytes ++ rest) 0 := by
  rw [articleBytes_eq]
  exact signedWordsRead_flatMap (articleValues a) rest

theorem int16_length (i : Int) : (int16 i).length = 2 := rfl

theorem knifeBytes_length (k : List Int) : (knifeBytes k).length = 32 :=
  blocks_length _ 16 fun z => int16_length (k.getD z 0)

theorem valueAt_knifeBytes (k : List Int) (rest : List Byte) {z : Nat} (small : z < 16) :
    valueAt (knifeBytes k ++ rest) (2 * z) 2 = signedWord (k.getD z 0) := by
  have read := valueAt_block (fun z => int16 (k.getD z 0)) rest (place := 0) (width := 2) small
    (fun z => int16_length _) (by decide)
  rw [Nat.add_zero] at read
  exact read.trans ((spells_int16 _).value 0 rfl)

/-- A pending profile's presence and its offsets, zeros where there is none. -/
def pendingBytes (s : State) : List Byte :=
  match s.track.pendingKnife with
  | some k => 1 :: knifeBytes k
  | none => List.replicate 33 0

theorem pendingBytes_reads (s : State) : (pendingBytes s).length = 33 ∧
    valueAt (pendingBytes s) 0 1 = s.track.pendingKnife.isSome.toNat ∧
    ∀ z, z < 16 → valueAt (pendingBytes s) (1 + 2 * z) 2 =
      (s.track.pendingKnife.map fun k => signedWord (k.getD z 0)).getD 0 := by
  unfold pendingBytes
  cases s.track.pendingKnife with
  | none => exact ⟨by simp, valueAt_zeros _ _ _, fun z _ => valueAt_zeros _ _ _⟩
  | some k =>
    refine ⟨by simp [knifeBytes_length], valueAt_byte 1 _, fun z small => ?_⟩
    have behind := valueAt_append [(1 : Byte)] (knifeBytes k) (2 * z) 2
    have read := valueAt_knifeBytes k [] small
    rw [List.append_nil] at read
    exact behind.trans read

theorem settingsRecord_split (s : State) : settingsRecord s =
    (s.settings.geometry.items ++ [s.settings.scale, s.settings.dwellTime]).flatMap nat16 ++
      ([flagByte s.settings.locked] ++ nat8 s.settings.current ++
        (knifeBytes s.settings.knife ++ pendingBytes s)) := by
  unfold settingsRecord pendingBytes
  simp only [List.flatMap_append, List.flatMap_cons, List.flatMap_nil, List.append_nil, List.append_assoc] <;> rfl

theorem settingsRecord_reads (s : State) :
    (settingsRecord s).length = 101 ∧ SettingsRecordReads s (settingsRecord s) := by
  obtain ⟨count, present, offsets⟩ := pendingBytes_reads s
  have words := wordsRead_flatMap (s.settings.geometry.items ++ [s.settings.scale, s.settings.dwellTime])
    ([flagByte s.settings.locked] ++ nat8 s.settings.current ++ (knifeBytes s.settings.knife ++ pendingBytes s))
  have middle := (spells_flag s.settings.locked).append (spells_nat8 s.settings.current)
  have tail : ∀ place width, valueAt (settingsRecord s) (36 + place) width =
      valueAt (knifeBytes s.settings.knife ++ pendingBytes s) place width := fun place width => by
    rw [settingsRecord_split, ← List.append_assoc]
    exact valueAt_append _ _ place width
  have behind : ∀ place width, valueAt (settingsRecord s) (34 + place) width =
      valueAt ([flagByte s.settings.locked] ++ nat8 s.settings.current ++
        (knifeBytes s.settings.knife ++ pendingBytes s)) place width := fun place width => by
    rw [settingsRecord_split]
    exact valueAt_append _ _ place width
  have last : ∀ place width, valueAt (settingsRecord s) (68 + place) width = valueAt (pendingBytes s) place width :=
    fun place width => by
      have here := valueAt_append (knifeBytes s.settings.knife) (pendingBytes s) place width
      rw [knifeBytes_length, ← tail, ← Nat.add_assoc] at here
      exact here
  refine ⟨?_, ?_, (behind 0 1).trans (middle.field _ (i := 0) rfl), (behind 1 1).trans (middle.field _ (i := 1) rfl),
    fun z small => (tail _ _).trans (valueAt_knifeBytes _ _ small), (last 0 1).trans present, fun z small => ?_⟩
  · rw [settingsRecord_split, List.length_append, List.length_append, List.length_append, List.length_append,
      knifeBytes_length, count]
    rfl
  · rw [settingsRecord_split]
    exact words
  · have place : 69 + 2 * z = 68 + (1 + 2 * z) := by omega
    rw [place, last, offsets z small]

/-! ## READ_ZONES (R130) -/

theorem spells_ref (x : Option SliceRef) : Spells (refBytes x)
    [(1, x.isSome.toNat), (2, (x.map fun r => r.strobe.toNat).getD 0), (2, (x.map fun r => r.hide.toNat).getD 0)] := by
  cases x with
  | none => exact (spells_byte 0).append ((spells_be16 0).append (spells_be16 0))
  | some r => exact (spells_byte 1).append ((spells_be16 r.strobe).append (spells_be16 r.hide))

theorem spells_target (t : Target) : Spells (targetBytes (some t))
    [(1, 1), (2, signedWord t.gap), (1, t.cause.code.toNat), (1, t.ref.isSome.toNat),
      (2, (t.ref.map fun r => r.strobe.toNat).getD 0), (2, (t.ref.map fun r => r.hide.toNat).getD 0)] :=
  (spells_byte 1).append (((spells_int16 t.gap).append (spells_byte t.cause.code)).append (spells_ref t.ref))

theorem targetBytes_length (x : Option Target) : (targetBytes x).length = 9 := by
  cases x with
  | none => rfl
  | some t => exact (spells_target t).length

theorem targetBytes_reads (x : Option Target) (rest : List Byte) : TargetReads x (targetBytes x ++ rest) 0 := by
  cases x with
  | none => exact (spells_zeros 9).field rest (i := 0) rfl
  | some t =>
    have h := spells_target t
    exact ⟨h.field rest (i := 0) rfl, h.field rest (i := 1) rfl, h.field rest (i := 2) rfl, h.field rest (i := 3) rfl,
      h.field rest (i := 4) rfl, h.field rest (i := 5) rfl⟩

/-- A target record is read behind what stands before it. -/
theorem targetReads_behind {x : Option Target} {front l : List Byte} (reads : TargetReads x l 0) :
    TargetReads x (front ++ l) front.length := by
  unfold TargetReads at reads ⊢
  cases x with
  | none =>
    exact (valueAt_append front l 0 9).trans reads
  | some t =>
    obtain ⟨present, gap, cause, marked, strobe, hide⟩ := reads
    exact ⟨(valueAt_append front l 0 1).trans present, (valueAt_append front l 1 2).trans gap,
      (valueAt_append front l 3 1).trans cause, (valueAt_append front l 4 1).trans marked,
      (valueAt_append front l 5 2).trans strobe, (valueAt_append front l 7 2).trans hide⟩

theorem flightBytes_eq (now : Nat) (x : Option Move) : flightBytes now x =
    targetBytes (x.map Move.target) ++ nat16 ((x.map fun m => min 65535 ((now - m.accepted) / 1000)).getD 0) := by
  cases x with
  | none =>
    change List.replicate 11 (0 : Byte) = List.replicate 9 0 ++ nat16 0
    decide
  | some m => rfl

theorem spells_base (x : Option Base) : Spells (baseBytes x)
    [(1, x.isSome.toNat), (2, (x.map fun b => signedWord b.gap).getD 0xFFFF), (2, (x.map fun b => b.hide.toNat).getD 0)] := by
  cases x with
  | none => exact (spells_byte 0).append ((spells_be16 0xFFFF#16).append (spells_be16 0))
  | some b => exact (spells_byte 1).append ((spells_int16 b.gap).append (spells_be16 b.hide))

theorem zoneRecord_reads (now : Nat) (c : Channel) (rest : List Byte) :
    (c.record now).length = 32 ∧ ZoneRecordReads now c (c.record now ++ rest) := by
  have h := (spells_byte c.mode.code).append (spells_optWord c.position)
    |>.append (.one (targetBytes_length c.slot) rfl)
    |>.append ((Spells.one (targetBytes_length (c.flight.map Move.target)) rfl).append
      (spells_nat16 ((c.flight.map fun m => min 65535 ((now - m.accepted) / 1000)).getD 0)))
    |>.append (spells_nat8 c.misses) |>.append (spells_nat8 c.timeouts)
    |>.append (spells_bits3 c.lagging c.entryMark c.clearPoll) |>.append (spells_base c.base)
  rw [← flightBytes_eq] at h
  have record : Spells (c.record now) _ := h
  have small : (c.flight.map fun m => min 65535 ((now - m.accepted) / 1000)).getD 0 % 65536 =
      (c.flight.map fun m => min 65535 ((now - m.accepted) / 1000)).getD 0 := by
    refine Nat.mod_eq_of_lt ?_
    cases c.flight with
    | none => exact Nat.zero_lt_succ _
    | some m => exact lt_of_le_of_lt (min_le_left _ _) (by decide)
  have front := (spells_byte c.mode.code).append (spells_optWord c.position)
  have slot : TargetReads c.slot (c.record now ++ rest) 4 := by
    have behind := targetReads_behind (front := [c.mode.code] ++ optWord c.position) (targetBytes_reads c.slot
      (flightBytes now c.flight ++ (nat8 c.misses ++ (nat8 c.timeouts ++
        ([bitsByte [c.lagging, c.entryMark, c.clearPoll]] ++ (baseBytes c.base ++ rest))))))
    rw [front.length] at behind
    simp only [Channel.record, List.append_assoc] at behind ⊢
    exact behind
  have flight : TargetReads (c.flight.map Move.target) (c.record now ++ rest) 13 := by
    have behind := targetReads_behind (front := [c.mode.code] ++ optWord c.position ++ targetBytes c.slot)
      (targetBytes_reads (c.flight.map Move.target)
        (nat16 ((c.flight.map fun m => min 65535 ((now - m.accepted) / 1000)).getD 0) ++ (nat8 c.misses ++
          (nat8 c.timeouts ++ ([bitsByte [c.lagging, c.entryMark, c.clearPoll]] ++ (baseBytes c.base ++ rest))))))
    rw [List.length_append, front.length, targetBytes_length] at behind
    simp only [Channel.record, List.append_assoc, flightBytes_eq] at behind ⊢
    exact behind
  exact ⟨record.length, record.field rest (i := 0) rfl, record.field rest (i := 1) rfl, record.field rest (i := 2) rfl,
    slot, flight, (record.field rest (i := 5) rfl).trans small, record.field rest (i := 6) rfl,
    record.field rest (i := 7) rfl, record.field rest (i := 8) rfl, record.field rest (i := 9) rfl,
    record.field rest (i := 10) rfl, record.field rest (i := 11) rfl⟩

theorem linkRecord_reads (s : State) : (linkRecord s).length = 5 ∧ LinkRecordReads s (linkRecord s) := by
  have condition : (linkCondition s).toNat = if s.ctl.phase = .halt then 3 else if s.link.txn.isSome then 2 else 1 := by
    unfold linkCondition
    split
    · rfl
    · split <;> rfl
  cases txn : s.link.txn with
  | none =>
    have h := (spells_nat8 s.link.last).append (spells_byte (linkCondition s))
      |>.append ((spells_byte 0).append ((spells_byte 0).append (spells_byte 0)))
    have record : linkRecord s = nat8 s.link.last ++ [linkCondition s] ++ ([0] ++ ([0] ++ [0])) := by
      simp [linkRecord, txn]
    rw [record]
    refine ⟨h.length, h.value 0 rfl, (h.value 1 rfl).trans condition, ?_, ?_, ?_⟩ <;> rw [txn]
    · exact h.value 2 rfl
    · exact h.value 3 rfl
    · exact h.value 4 rfl
  | some x =>
    have h := (spells_nat8 s.link.last).append (spells_byte (linkCondition s))
      |>.append ((spells_byte 1).append (spells_nat8 x.zone) |>.append (spells_byte x.kind.code))
    have record : linkRecord s = nat8 s.link.last ++ [linkCondition s] ++ ([1] ++ nat8 x.zone ++ [x.kind.code]) := by
      simp [linkRecord, txn]
    rw [record]
    refine ⟨h.length, h.value 0 rfl, (h.value 1 rfl).trans condition, ?_, ?_, ?_⟩ <;> rw [txn]
    · exact h.value 2 rfl
    · exact h.value 3 rfl
    · exact h.value 4 rfl

theorem zonesRecord_reads (s : State) : (zonesRecord s).length = 517 ∧
    (∀ z, z < 16 → ZoneRecordReads s.now (channel s z) ((zonesRecord s).drop (32 * z))) ∧
    LinkRecordReads s ((zonesRecord s).drop 512) := by
  have size : ∀ z, ((channel s z).record s.now).length = 32 := fun z => (zoneRecord_reads _ _ []).1
  have blocks : (zoneList.flatMap fun z => (channel s z).record s.now).length = 512 := blocks_length _ 16 size
  refine ⟨?_, fun z small => ?_, ?_⟩
  · rw [zonesRecord, List.length_append, blocks, (linkRecord_reads s).1]
  · obtain ⟨before, after, split, count⟩ := blocks_split (fun z => (channel s z).record s.now) small size
    have record : zonesRecord s = before ++ ((channel s z).record s.now ++ (after ++ linkRecord s)) := by
      rw [← List.append_assoc, ← List.append_assoc, List.append_assoc before, ← split]
      rfl
    rw [record, ← count, List.drop_left]
    exact (zoneRecord_reads _ _ _).2
  · rw [zonesRecord, ← blocks, List.drop_left]
    exact (linkRecord_reads s).2

/-! ## Hide reports, track headers and summaries (R64, R86) -/

theorem zoneBytes_length (active : Nat) (r : HideRecord) (z : Nat) : (r.zoneBytes active z).length = 20 := by
  unfold HideRecord.zoneBytes
  split <;> rfl

theorem zoneBytes_reads (active : Nat) (r : HideRecord) (z : Nat) (rest : List Byte) :
    let c := if z < active then r.counts.getD z ZoneCounts.zero else ZoneCounts.zero
    WordsRead [c.residual, c.floor, c.ceiling, c.slewed, c.extended, c.onTime, c.late, c.skipped, c.held,
      c.notTrack] (r.zoneBytes active z ++ rest) 0 := by
  have bytes : r.zoneBytes active z = (if z < active then r.counts.getD z ZoneCounts.zero else ZoneCounts.zero).bytes := by
    unfold HideRecord.zoneBytes
    split <;> rfl
  rw [bytes]
  exact wordsRead_flatMap _ rest

/-- Words are read behind what stands before them. -/
theorem wordsRead_behind {ns : List Nat} {front l : List Byte} {place : Nat} (reads : WordsRead ns l place) :
    WordsRead ns (front ++ l) (front.length + place) := fun k n there => by
  rw [Nat.add_assoc, valueAt_append]
  exact reads k n there

theorem signedWordsRead_behind {vs : List Int} {front l : List Byte} (reads : SignedWordsRead vs l 0) :
    SignedWordsRead vs (front ++ l) front.length := fun k v there => by
  rw [valueAt_append]
  have read := reads k v there
  rwa [Nat.zero_add] at read

theorem causeByte_toNat (x : Option AbandonCause) : (causeByte x).toNat = (x.map fun c => c.code.toNat).getD 0 := by
  cases x <;> rfl

/-- The hide report in its four parts: up to the article, the article, up to the counts, the counts of the zones. -/
theorem hideReport_split (active : Nat) (r : HideRecord) : hideReport active r =
    (be16 r.number ++ be16 r.tag ++ ([r.state.code] ++ [causeByte r.cause]) ++ nat8 r.row) ++ (r.article.bytes ++
      ((optPos r.edge ++ be16 r.first.num ++ be32 r.first.pos ++ optWord r.last ++ nat16 r.sliceCount ++
        nat16 r.gapCount ++ nat16 r.inTrack ++ nat32 (r.area / 100) ++ optThickness r.tMin ++ optThickness r.tMax ++
        nat32 r.deviation ++ [r.flags.byte]) ++ zoneList.flatMap (r.zoneBytes active))) := by
  simp only [hideReport, List.append_assoc]
  rfl

theorem hideReport_reads (active : Nat) (r : HideRecord) :
    (hideReport active r).length = 388 ∧ HideReportReads active r (hideReport active r) := by
  have head := (spells_be16 r.number).append (spells_be16 r.tag)
    |>.append ((spells_byte r.state.code).append (spells_byte (causeByte r.cause))) |>.append (spells_nat8 r.row)
  have flags : Spells [r.flags.byte] _ := spells_bits6 r.flags.edgeMismatch r.flags.noEdge r.flags.gaugeLost
    r.flags.forcedEnd r.flags.manualInfluence r.flags.slip
  have middle := (spells_optPos r.edge).append (spells_be16 r.first.num)
    |>.append (spells_be32 r.first.pos) |>.append (spells_optWord r.last) |>.append (spells_nat16 r.sliceCount)
    |>.append (spells_nat16 r.gapCount) |>.append (spells_nat16 r.inTrack) |>.append (spells_nat32 (r.area / 100))
    |>.append (spells_optThickness r.tMin) |>.append (spells_optThickness r.tMax) |>.append (spells_nat32 r.deviation)
    |>.append flags
  simp only [List.cons_append, List.nil_append] at middle
  have size : (zoneList.flatMap (r.zoneBytes active)).length = 320 := blocks_length _ 16 (zoneBytes_length active r)
  have split := hideReport_split active r
  generalize be16 r.number ++ be16 r.tag ++ ([r.state.code] ++ [causeByte r.cause]) ++ nat8 r.row = front at head split
  generalize optPos r.edge ++ be16 r.first.num ++ be32 r.first.pos ++ optWord r.last ++ nat16 r.sliceCount ++
    nat16 r.gapCount ++ nat16 r.inTrack ++ nat32 (r.area / 100) ++ optThickness r.tMin ++ optThickness r.tMax ++
    nat32 r.deviation ++ [r.flags.byte] = back at middle split
  generalize zones : zoneList.flatMap (r.zoneBytes active) = counts at size split
  rw [split]
  have first : front.length = 7 := head.length
  have second : back.length = 33 := middle.length
  have behind : ∀ place width, valueAt (front ++ (r.article.bytes ++ (back ++ counts))) (35 + place) width =
      valueAt (back ++ counts) place width := fun place width => by
    have here := valueAt_append front (r.article.bytes ++ (back ++ counts)) (28 + place) width
    rw [first, ← articleBytes_length r.article, valueAt_append, articleBytes_length, ← Nat.add_assoc] at here
    exact here
  have words : ∀ ns place, WordsRead ns (back ++ counts) place →
      WordsRead ns (front ++ (r.article.bytes ++ (back ++ counts))) (35 + place) := fun ns place reads k n there => by
    rw [Nat.add_assoc, behind]
    exact reads k n there
  refine ⟨?_, head.field _ (i := 0) rfl, head.field _ (i := 1) rfl, head.field _ (i := 2) rfl,
    (head.field _ (i := 3) rfl).trans (causeByte_toNat _), head.field _ (i := 4) rfl, ?_,
    (behind 0 1).trans (middle.field _ (i := 0) rfl), (behind 1 4).trans (middle.field _ (i := 1) rfl),
    (behind 5 2).trans (middle.field _ (i := 2) rfl), (behind 7 4).trans (middle.field _ (i := 3) rfl),
    (behind 11 1).trans (middle.field _ (i := 4) rfl), (behind 12 2).trans (middle.field _ (i := 5) rfl), ?_,
    (behind 20 4).trans (middle.field _ (i := 9) rfl), ?_, (behind 28 4).trans (middle.field _ (i := 12) rfl),
    (behind 32 1).trans (middle.field _ (i := 13) rfl), fun z small => ?_⟩
  · rw [List.length_append, List.length_append, List.length_append, first, articleBytes_length, second, size]
  · have reads := signedWordsRead_behind (front := front) (article_reads r.article (back ++ counts))
    rwa [first] at reads
  · exact words _ 14 (middle.words (before := [(1, _), (4, _), (2, _), (4, _), (1, _), (2, _)]) counts rfl)
  · exact words _ 24 (middle.words (before := [(1, _), (4, _), (2, _), (4, _), (1, _), (2, _), (2, _), (2, _), (2, _),
      (4, _)]) counts rfl)
  · obtain ⟨before, after, parts, place⟩ := blocks_split (r.zoneBytes active) small (zoneBytes_length active r)
    have block : counts = before ++ (r.zoneBytes active z ++ after) := zones.symm.trans parts
    have reads := wordsRead_behind (front := back ++ before) (zoneBytes_reads active r z after)
    rw [List.append_assoc, ← block, List.length_append, second, place, Nat.add_zero] at reads
    have shifted := words _ _ reads
    rwa [← Nat.add_assoc] at shifted

theorem trackHeader_reads (count : Nat) (s : State) :
    (trackHeader count s).length = 16 ∧ TrackHeaderReads count s (trackHeader count s) := by
  have h : Spells (trackHeader count s) _ := (spells_nat16 s.track.slices.length).append (spells_nat32 s.track.readCount)
    |>.append (spells_nat32 s.track.gapCount) |>.append (spells_nat32 s.track.flushedCount)
    |>.append (spells_flag (knifePending s)) |>.append (spells_nat8 count)
  exact ⟨h.length, h.value 0 rfl, h.value 1 rfl, h.value 2 rfl, h.value 3 rfl, h.value 4 rfl, h.value 5 rfl⟩

theorem spells_result (x : Option ZoneResult) : Spells (resultBytes x)
    [(2, ((x.bind ZoneResult.target).map signedWord).getD 0xFFFF), (1, (x.map fun o => o.progress.code.toNat).getD 0)] := by
  cases x with
  | none => exact (spells_optGap none).append (spells_byte 0)
  | some o => exact (spells_optGap o.target).append (spells_byte o.progress.code)

theorem summary_reads (sl : Slice) : sl.summary.length = 58 ∧ SummaryReads sl sl.summary := by
  have head := (spells_be16 sl.strobe).append (spells_be32 sl.pos) |>.append (spells_be16 sl.hide)
    |>.append ((spells_byte (if sl.readings.isSome then 1 else 2)).append (spells_byte sl.stage.code))
  have size : ∀ z : Nat, (resultBytes sl.results[z]?).length = 3 := fun z => (spells_result _).length
  have blocks : (zoneList.flatMap fun z => resultBytes sl.results[z]?).length = 48 := blocks_length _ 16 size
  have behind : ∀ place width, valueAt sl.summary (10 + place) width =
      valueAt (zoneList.flatMap fun z => resultBytes sl.results[z]?) place width := fun place width =>
    valueAt_append _ _ place width
  have result : ∀ z, z < 16 → ∀ place width, place + width ≤ 3 → valueAt sl.summary (10 + (3 * z + place)) width =
      valueAt (resultBytes sl.results[z]?) place width := fun z small place width within => by
    have block := valueAt_block (fun z : Nat => resultBytes sl.results[z]?) [] small size within
    rw [List.append_nil] at block
    exact (behind _ _).trans block
  refine ⟨?_, head.field _ (i := 0) rfl, head.field _ (i := 1) rfl, head.field _ (i := 2) rfl,
    (head.field _ (i := 3) rfl).trans ?_, (head.field _ (i := 4) rfl).trans ?_, fun z small => ⟨?_, ?_⟩⟩
  · rw [Slice.summary, List.length_append, blocks]
    rfl
  · split <;> rfl
  · cases sl.stage <;> rfl
  · exact (result z small 0 2 (by decide)).trans ((spells_result _).value 0 rfl)
  · have place : 12 + 3 * z = 10 + (3 * z + 2) := by omega
    rw [place, result z small 2 1 (by decide)]
    exact (spells_result _).value 1 rfl

/-! ## The gauge port's records (R40, R41) -/

theorem gaugeSetup_reads (s : State) :
    (gaugeSetupRecord s).length = 6 ∧ GaugeSetupReads s (gaugeSetupRecord s) := by
  have h : Spells (gaugeSetupRecord s) _ := (spells_nat8 s.ctl.activeZones).append (spells_nat16 s.settings.geometry.pitch)
    |>.append (spells_nat16 s.settings.geometry.zoneWidth) |>.append (spells_byte s.ctl.strap.code)
  have words := h.words (ns := [s.settings.geometry.pitch, s.settings.geometry.zoneWidth]) (before := [(1, _)]) [] rfl
  rw [List.append_nil] at words
  exact ⟨h.length, h.value 0 rfl, words, h.value 3 rfl⟩

theorem gaugeStatus_reads (s : State) :
    (gaugeStatusRecord s).length = 13 ∧ GaugeStatusReads s (gaugeStatusRecord s) := by
  have h : Spells (gaugeStatusRecord s) _ := (spells_byte s.feed.sync.code).append (spells_optStrobe s.feed.newest)
    |>.append (spells_nat8 s.intake.list.length) |>.append (spells_be16 (openNumber s))
    |>.append ((spells_gauge s.intake.notices).append (spells_gauge s.intake.mask))
  refine ⟨h.length, (h.value 0 rfl).trans ?_, ⟨h.value 1 rfl, h.value 2 rfl, h.value 3 rfl⟩, h.value 4 rfl,
    (h.value 5 rfl).trans (openNumber_eq s), h.value 6 rfl, h.value 7 rfl⟩
  cases s.feed.sync <;> rfl

/-- Settles O55: each read answers its record, whose fields stand at their bytes. -/
theorem readsAnswerWithTheirRecords : Obligations.ReadsAnswerWithTheirRecords := by
  refine ⟨by unfold CodesAsListed; decide +kernel, fun s => ?_⟩
  refine ⟨⟨rfl, statusRecord_reads s⟩, ⟨rfl, counterRecord_reads s⟩, ⟨rfl, settingsRecord_reads s⟩,
    ⟨rfl, zonesRecord_reads s⟩, fun row small count => ?_, fun row beyond => ?_, fun n r found => ?_, fun n missing => ?_,
    fun place count out => ?_, summary_reads, fun place count low high => ?_, ⟨rfl, gaugeSetup_reads s⟩,
    fun profile => ?_, fun fixed => ?_⟩
  · have there : s.settings.articles[row]? = some s.settings.articles[row] := List.getElem?_eq_getElem (by omega)
    refine ⟨_, there, ?_, articleBytes_length _, ?_⟩
    · simp only [exec, execReadArticle, articleFields, there, if_neg (show ¬ 31 < row by omega)]
    · have reads := article_reads s.settings.articles[row] []
      rwa [List.append_nil] at reads
  · simp only [exec, execReadArticle, if_pos beyond]
  · refine ⟨?_, hideReport_reads _ _⟩
    simp only [exec, execReadHide, found]
  · simp only [exec, execReadHide, missing]
    rfl
  · refine ⟨?_, trackHeader_reads 0 s⟩
    simp only [exec, execReadTrack, if_neg (show ¬ (1 ≤ count ∧ count ≤ 16) by omega)]
  · refine ⟨?_, ?_, (trackHeader_reads _ s).2⟩
    · simp only [exec, execReadTrack, if_pos (And.intro low high)]
      rfl
    · rw [List.length_append, (trackHeader_reads _ s).1, List.length_flatMap]
      simp [summary_reads, Nat.mul_comm]
  · refine ⟨by simp only [exec, execGaugeStatus, profile], (gaugeStatus_reads s).1, (gaugeStatus_reads s).2,
      fun named mask => ?_⟩
    simp only [exec, execClearGaugeNotices, profile]
    cases mask <;> rfl
  · refine ⟨by simp only [exec, execGaugeStatus, fixed], by simp only [exec, execWakeRequest, fixed],
      fun named mask => ?_⟩
    simp only [exec, execClearGaugeNotices, fixed]
    rfl

end Sys2Proof.Machine

/-! PROOFS. The zone requests at the line port (O58). -/

namespace Sys2Proof.Machine

variable {s t u : State} {z : Nat}

theorem report_track (x : Option Target) (z : Nat) (p : Progress) (s : State) :
    (report x z p s).track = { s.track with slices := s.track.slices.map (reported p z x) } := by
  rw [← report_slices]
  unfold report
  split <;> rfl

theorem clampGap_eq (v : Int) : clampGap v = max 20 (min 900 v) := by
  unfold clampGap Config.gapFloor Config.gapCeiling
  split
  · omega
  · split <;> omega

/-- The arbiter grants in turn after an event that leaves a link without a transaction as it was (R111). -/
theorem Effect.turn {c : Channel} {l : LinePort} {sl : List Slice} (h : Effect z s t c l sl)
    (free : s.link.free = true) : GrantedInTurn s.link.last (arbitrate t) := by
  have same := h.link (Link.txn_of_free free)
  have granted := arbitrate_inTurn (s := t) (by rwa [same])
  rwa [same] at granted

theorem Effect.channels {c : Channel} {l : LinePort} {sl : List Slice} (h : Effect z s t c l sl) (y : Nat) :
    channel t y = if y = z then c else channel s y := by
  by_cases same : y = z
  · rw [if_pos same, same, h.here]
  · rw [if_neg same, h.others y same]

/-! ## ZONE_MOVE (R127) -/

theorem takeMove_moves (count : s.zones.length = 16) (below : z < 16) (target : Int) :
    (s.link.free = true → GrantedInTurn s.link.last (takeMove z target s)) ∧
    (takeMove z target s).track = { s.track with
      slices := s.track.slices.map (reported .skipped z (channel s z).slot) } ∧
    ∀ y, channel (takeMove z target s) y = if y = z then { channel s z with
      slot := some { gap := clampGap target, cause := .manual, ref := none } } else channel s y := by
  have placed : Effect z s (place { gap := clampGap target, cause := .manual, ref := none } z s) _ _ _ :=
    replaceSlot_effect _ (by omega)
  refine ⟨placed.turn, ?_, fun y => ?_⟩
  · rw [takeMove, arbitrate_track, place, setSlot_track, report_track]
  · rw [takeMove, channel_arbitrate, placed.channels]

theorem updAt_eq_set {α : Type} {f : α → α} {l : List α} {i : Nat} (a : α) (below : i < l.length) :
    updAt f i l = l.set i (f (l.getD i a)) := by
  refine List.ext_getElem? fun j => ?_
  rw [updAt_getElem?, List.getElem?_set]
  by_cases here : i = j
  · subst here
    simp [below]
  · simp [here, Ne.symm here]

/-! ## ZONE_MODE (R128) -/

theorem discardsTrack_eq (z : Nat) (mode : ZoneMode) (s : State) : discardsTrack z mode s =
    (decide ((channel s z).mode = .track) && decide (mode ≠ .track) &&
      (channel s z).slot.any fun x => x.cause = .track) := by
  unfold discardsTrack
  cases (channel s z).slot <;> rfl

theorem slotForMode_effect (mode : ZoneMode) (below : z < s.zones.length) : Effect z s (slotForMode z mode s)
    { channel s z with slot := if discardsTrack z mode s then none else (channel s z).slot } s.line
    (if discardsTrack z mode s then s.track.slices.map (reported .skipped z (channel s z).slot) else s.track.slices) := by
  unfold slotForMode
  split
  · exact replaceSlot_effect none below
  · exact .refl z s

theorem slotForMode_track (z : Nat) (mode : ZoneMode) (s : State) : (slotForMode z mode s).track =
    { s.track with slices := if discardsTrack z mode s then s.track.slices.map (reported .skipped z (channel s z).slot)
      else s.track.slices } := by
  unfold slotForMode
  split
  · rw [discardSlot, setSlot_track, report_track]
  · rfl

theorem flagInfluence_zones (s : State) : (flagInfluence s).zones = s.zones := rfl

theorem takeMode_moves (count : s.zones.length = 16) (below : z < 16) (mode : ZoneMode) :
    (s.link.free = true → GrantedInTurn s.link.last (takeMode z mode s)) ∧
    (takeMode z mode s).track = { s.track with
      slices := if discardsTrack z mode s then s.track.slices.map (reported .skipped z (channel s z).slot)
        else s.track.slices } ∧
    (takeMode z mode s).hides = { s.hides with records := s.hides.records.map flagManual } ∧
    (takeMode z mode s).feed.core = s.feed.core ∧ (takeMode z mode s).line = s.line ∧
    (takeMode z mode s).intake = s.intake ∧ (takeMode z mode s).settings = s.settings ∧
    (∀ y, channel (takeMode z mode s) y = if y = z then { channel s z with
      mode := mode
      base := none
      entryMark := (channel s z).entryMark && !(decide ((channel s z).mode = .track) && decide (mode ≠ .track))
      slot := if discardsTrack z mode s then none else (channel s z).slot } else channel s y) ∧
    (takeMode z mode s).ctl.phase =
      if s.ctl.phase = .resuming ∧ (takeMode z mode s).zones.any Channel.entryMark = false then .run
      else s.ctl.phase := by
  have slot := slotForMode_effect mode (s := s) (z := z) (by omega)
  have track := slotForMode_track z mode s
  have ctl := slotForMode_ctl z mode s
  rw [takeMode_eq]
  generalize slotForMode z mode s = u at slot track ctl
  have moved := updChannel_effect (s := u) (z := z) (Channel.toMode mode) (by rw [slot.count]; omega)
  have both := slot.trans moved
  rw [slot.here, Channel.toMode] at both
  have same : (updChannel (Channel.toMode mode) z u).ctl = u.ctl := rfl
  have still : (updChannel (Channel.toMode mode) z u).track = u.track := rfl
  generalize updChannel (Channel.toMode mode) z u = v at both same still
  have phase := passResuming_phase (flagInfluence v)
  rw [show (flagInfluence v).ctl = s.ctl from same.trans ctl, anyEntryMark, flagInfluence_zones] at phase
  refine ⟨fun free => ?_, ?_, ?_, ?_, ?_, ?_, ?_, fun y => ?_, ?_⟩
  · have idle := both.link (Link.txn_of_free free)
    have link : (passResuming (flagInfluence v)).link = s.link := by rw [passResuming_link]; exact idle
    have granted := arbitrate_inTurn (s := passResuming (flagInfluence v)) (by rwa [link])
    rwa [link] at granted
  · rw [arbitrate_track, passResuming_track]
    exact still.trans track
  · rw [arbitrate_hides, passResuming_hides]
    exact congrArg (fun x : HideTable => { x with records := x.records.map flagManual }) both.hides
  · rw [arbitrate_feed, passResuming_core]
    exact both.core
  · rw [arbitrate_line, passResuming_line]
    exact both.line.trans slot.line
  · rw [arbitrate_intake, passResuming_intake]
    exact both.intake
  · rw [arbitrate_settings, passResuming_settings]
    exact both.settings
  · rw [channel_arbitrate, channel_passResuming]
    exact both.channels y
  · rw [arbitrate_ctl, arbitrate_zones, passResuming_zones]
    exact phase

/-- Settles O58: ZONE_MOVE places, ZONE_MODE changes the mode and ZONE_RESET frees a FAULT zone, each of its zone. -/
theorem zoneRequestsActOnTheirZone : Obligations.ZoneRequestsActOnTheirZone := by
  intro z s count
  refine ⟨fun high => ⟨fun target => ?_, fun code => ?_, ?_⟩, fun below => ⟨fun target refused => ?_,
    fun code st refused => ?modeRefused, fun other => ?_, fun target runs manual => ?move,
    fun code mode named serves => ?mode, fun fault => ?reset⟩⟩
  · simp [exec, execZoneMove, high, refuseMove, int16, be16]
  · simp [exec, execZoneMode, high]
  · simp [exec, execZoneReset, high]
  · have low : ¬ 15 < z := by omega
    rcases refused with halted | other
    · simp [exec, execZoneMove, low, halted, refuseMove, int16, be16]
    · simp [exec, execZoneMove, low, other, refuseMove, int16, be16]
  case modeRefused =>
    have low : ¬ 15 < z := by omega
    rcases refused with ⟨rfl, notTrack, notManual⟩ | ⟨rfl, ⟨listed, out⟩ | ⟨rfl, fixed⟩⟩
    · have unnamed : zoneModeOf code = none := by rw [zoneModeOf, if_neg notTrack, if_neg notManual]
      simp [exec, execZoneMode, low, unnamed, modeFields, flagByte]
    · rcases listed with rfl | rfl <;> simp [exec, execZoneMode, low, zoneModeOf, out, modeFields, flagByte]
    · by_cases out : (channel s z).mode.inService = false
      · simp [exec, execZoneMode, low, zoneModeOf, out, modeFields, flagByte]
      · simp [exec, execZoneMode, low, zoneModeOf, fixed, modeFields, flagByte]
  · simp [exec, execZoneReset, show ¬ 15 < z by omega, other]
  case move =>
    have run : exec (.zoneMove z target) s = .next (answerLine 0x2C .ok
        (int16 (clampGap target) ++ [flagByte (decide (clampGap target ≠ target))]) (takeMove z target s)) := by
      simp [exec, execZoneMove, show ¬ 15 < z by omega, runs, manual]
    obtain ⟨turn, track, channels⟩ := takeMove_moves count below target
    rw [clampGap_eq] at run channels
    refine ⟨_, run, fun free => answerLine_answer _ _ _ (by simpa [takeMove, place] using free), ?_, ?_, ?_, ?_, ?_, ?_,
      track, turn, fun y _ => channels y⟩ <;> simp [takeMove, place]
  case mode =>
    have drop := discardsTrack_eq z mode s
    obtain ⟨turn, track, hides, core, line, intake, settings, channels, phase⟩ := takeMode_moves count below mode
    have here := channels z
    rw [if_pos rfl] at here
    have run : exec (.zoneMode z code) s = .next (answerLine 0x2D .ok [code, flagByte (discardsTrack z mode s)]
        (takeMode z mode s)) := by
      rcases named with ⟨rfl, rfl, profile⟩ | ⟨rfl, rfl⟩ <;>
        simp [exec, execZoneMode, show ¬ 15 < z by omega, zoneModeOf, modeFields, ZoneMode.code, *]


    rw [drop] at run track channels
    generalize takeMode z mode s = t at run track hides core channels phase turn line intake settings
    exact ⟨_, run, fun free => answerLine_answer _ _ _ (by rwa [line]), intake, settings, (congrArg Feed.h core :),
      by rw [answerLine_notices, line], track, turn, hides, fun y _ => channels y, phase⟩
  case reset =>
    have low : ¬ 15 < z := by omega
    simp only [exec, execZoneReset, if_neg low, if_pos fault, takeZoneReset, updChannel]
    rw [updAt_eq_set _ (by omega)]
    rfl

end Sys2Proof.Machine

/-! PROOFS. What the end of an event that may clear the knife leaves, and the hide requests at the line port (O57). -/

namespace Sys2Proof.Machine

variable {s t u : State} {P : SliceRef → Prop} {closes : Bool}

/-! ## The slice references of the channels (R77) -/

/-- Every slice reference of a target that a channel holds meets `P`. -/
def RefsAll (P : SliceRef → Prop) (zones : List Channel) : Prop :=
  ∀ c ∈ zones, (∀ x ∈ c.slot, ∀ i ∈ x.ref, P i) ∧ ∀ m ∈ c.flight, ∀ i ∈ m.target.ref, P i

theorem Target.detach_ref {leaving : SliceRef → Bool} {x : Target} {i : SliceRef}
    (held : i ∈ (x.detach leaving).ref) : leaving i = false ∧ i ∈ x.ref := by
  unfold Target.detach at held
  cases named : x.ref with
  | none => simp [named] at held
  | some r =>
    rw [named] at held
    dsimp only at held
    cases leaves : leaving r with
    | true => simp [leaves] at held
    | false =>
      simp only [leaves, named, Bool.false_eq_true, if_false, Option.mem_def, Option.some.injEq] at held
      subst held
      exact ⟨leaves, rfl⟩

theorem refsAll_detached (leaving : SliceRef → Bool) (zones : List Channel) :
    RefsAll (fun i => leaving i = false) (zones.map (Channel.detach leaving)) := by
  intro c held
  obtain ⟨d, _, rfl⟩ := List.mem_map.mp held
  simp only [Channel.detach, Option.mem_def, Option.map_eq_some_iff]
  constructor
  · rintro _ ⟨x, _, rfl⟩ i named
    exact (Target.detach_ref named).1
  · rintro _ ⟨m, _, rfl⟩ i named
    exact (Target.detach_ref named).1

theorem RefsAll.detach (refs : RefsAll P s.zones) (leaving : SliceRef → Bool) :
    RefsAll P (s.zones.map (Channel.detach leaving)) := by
  intro c held
  obtain ⟨d, there, rfl⟩ := List.mem_map.mp held
  obtain ⟨slot, flight⟩ := refs d there
  simp only [Channel.detach, Option.mem_def, Option.map_eq_some_iff]
  constructor
  · rintro _ ⟨x, waits, rfl⟩ i named
    exact slot x waits i (Target.detach_ref named).2
  · rintro _ ⟨m, moves, rfl⟩ i named
    exact flight m moves i (Target.detach_ref named).2

theorem RefsAll.placePark (z : Nat) (refs : RefsAll P s.zones) : RefsAll P (placePark z s).zones := by
  unfold Machine.placePark
  split
  · intro c held
    simp only [place, setSlot_zones, report_zones] at held
    obtain there | ⟨d, there, rfl⟩ := mem_updAt held
    · exact refs c there
    · exact ⟨by simp, (refs d there).2⟩
  · exact refs

theorem RefsAll.enterPark (refs : RefsAll P s.zones) : RefsAll P (enterPark s).zones := by
  rw [Machine.enterPark, raiseLine_zones, startDwell_zones]
  refine forZones_related (R := fun a b => RefsAll P a.zones → RefsAll P b.zones) (fun _ => id)
    (fun first second => second ∘ first) (fun z _ refs => refs.placePark z) _ ?_
  rw [emptyTrack_park]
  exact refs.detach _

theorem RefsAll.enterRest (refs : RefsAll P s.zones) : RefsAll P (enterRest s).zones := by
  unfold Machine.enterRest
  split
  · simpa using refs
  · exact refs.enterPark

theorem gaps_detached (leaving : SliceRef → Bool) (zones : List Channel) :
    (zones.map (Channel.detach leaving)).map
        (fun c => (c.slot.map Target.gap, c.flight.map fun m => m.target.gap)) =
      zones.map fun c => (c.slot.map Target.gap, c.flight.map fun m => m.target.gap) := by
  rw [List.map_map]
  refine List.map_congr_left fun c _ => ?_
  simp [Channel.detach, Function.comp_def, Target.detach_gap]

/-! ## The end of an event that may clear the knife (R142 to R145) -/

/-- A record over the end of an event: PARK closes the ranges. -/
def HideRecord.shut (closes : Bool) (r : HideRecord) : HideRecord :=
  { r with rangeOpen := r.rangeOpen && !closes }

@[simp] theorem HideRecord.shut_false (r : HideRecord) : r.shut false = r := by simp [HideRecord.shut]

/-- The end of an event changes the hides, the track and the settings only by an entry to PARK, with the knife
clear: the list is empty then, every range is closed and a pending profile applied. -/
structure Settles (closes : Bool) (s t : State) : Prop where
  clear : closes = true → s.ctl.phase = .clearing ∧ Clear s
  list : t.intake = if closes then { s.intake with list := [] } else s.intake
  hides : t.hides = { s.hides with records := s.hides.records.map (HideRecord.shut closes) }
  slices : t.track.slices = s.track.slices
  counts : t.track.readCount = s.track.readCount ∧ t.track.gapCount = s.track.gapCount
  pending : s.track.pendingKnife = none → t.track.pendingKnife = none ∧ t.settings.knife = s.settings.knife
  same : closes = false → t.track = s.track ∧ t.settings = s.settings ∧ t.zones = s.zones
  refs : ∀ {P : SliceRef → Prop}, RefsAll P s.zones → RefsAll P t.zones

theorem Settles.refl (s : State) : Settles false s s :=
  ⟨nofun, rfl, by simp [show HideRecord.shut false = id from funext HideRecord.shut_false], rfl, ⟨rfl, rfl⟩,
    fun none => ⟨none, rfl⟩, fun _ => ⟨rfl, rfl, rfl⟩, id⟩

/-- A part of the end that the work does not see. -/
theorem Settles.congr (h : Settles closes s t) (intake : u.intake = t.intake) (hides : u.hides = t.hides)
    (track : u.track = t.track) (settings : u.settings = t.settings) (zones : u.zones = t.zones) : Settles closes s u where
  clear := h.clear
  list := intake.trans h.list
  hides := hides.trans h.hides
  slices := by rw [track, h.slices]
  counts := by rw [track]; exact h.counts
  pending := by rw [track, settings]; exact h.pending
  same := by rw [track, settings, zones]; exact h.same
  refs := by rw [zones]; exact h.refs

theorem settles_enterPark (phase : s.ctl.phase = .clearing) (clear : Clear s)
    (intake : t.intake = s.intake) (hides : t.hides = s.hides) (track : t.track = s.track)
    (settings : t.settings = s.settings) (zones : t.zones = s.zones) : Settles true s (enterPark t) := by
  obtain ⟨finished, empty⟩ := clear
  have each : ∀ r ∈ s.hides.records, r.state.unfinished = false := by
    rw [anyUnfinished, List.any_eq_false] at finished
    exact fun r held => by simpa using finished r held
  have table : abandonedTable .park s.hides =
      { s.hides with records := s.hides.records.map (HideRecord.shut true) } := by
    have records : s.hides.records.map (HideRecord.emptied .park) = s.hides.records.map (HideRecord.shut true) :=
      List.map_congr_left fun r held => by
        rw [r.emptied_finished (each r held)]
        simp [HideRecord.shut]
    have leaving : s.hides.records.filter (fun r => r.state.unfinished) = [] :=
      List.filter_eq_nil_iff.mpr fun r held => by simp [each r held]
    rw [abandonedTable, records, leaving]
    simp [sortByFirst]
  refine ⟨fun _ => ⟨phase, finished, empty⟩, ?_, ?_, ?_, ?_, fun none => ?_, nofun, fun refs => ?_⟩
  · rw [enterPark_intake, intake]
    rfl
  · rw [enterPark_hides, hides, table]
  · rw [enterPark_track, track, empty]
    rfl
  · rw [enterPark_track, track]
    exact ⟨rfl, rfl⟩
  · refine ⟨by rw [enterPark_track], ?_⟩
    rw [enterPark_keeps State.settings raiseLine_settings startDwell_settings placePark_settings, emptyTrack_park,
      track, none, settings]
    rfl
  · exact RefsAll.enterPark (by rwa [zones])

theorem settle_settles (s : State) : ∃ closes, Settles closes s (settle s) := by
  have grant : ∀ {closes t}, Settles closes s t → Settles closes s (arbitrate t) :=
    fun h => h.congr (by simp) (by simp) (by simp) (by simp) (by simp)
  unfold settle passClearing
  split
  case isFalse => exact ⟨false, grant (.refl s)⟩
  case isTrue passes =>
    simp only [Bool.and_eq_true, decide_eq_true_eq] at passes
    obtain ⟨phase, knife⟩ := passes
    have clear := knifeClear_iff.mp knife
    unfold enterBraking
    dsimp only
    split
    · unfold enterRest
      split
      · exact ⟨false, grant ((Settles.refl s).congr (by simp) (by simp) (by simp) (by simp) (by simp))⟩
      · exact ⟨true, grant (settles_enterPark phase clear (by simp) (by simp) (by simp) (by simp) (by simp))⟩
    · exact ⟨false, grant ((Settles.refl s).congr (by simp) (by simp) (by simp) (by simp) (by simp))⟩

theorem HideRecord.shut_state (closes : Bool) (r : HideRecord) : (r.shut closes).state = r.state := rfl

theorem Settles.anyConverting (h : Settles closes s t) : anyConverting t = anyConverting s := by
  simp only [Machine.anyConverting, h.hides, List.any_map, Function.comp_def, HideRecord.shut_state]

theorem Settles.findHide (h : Settles closes s t) (n : Num) : findHide t n = (findHide s n).map (HideRecord.shut closes) := by
  simp only [Machine.findHide, h.hides, List.find?_map]
  rfl

theorem anyConverting_of_clear (clear : Clear s) : anyConverting s = false := by
  have finished := clear.1
  rw [anyUnfinished, List.any_eq_false] at finished
  rw [anyConverting, List.any_eq_false]
  intro r held
  have done := finished r held
  revert done
  cases r.state <;> simp [HideState.unfinished, HideState.converting]

/-! ## The pending knife profile (R84) -/

/-- An event that has changed neither profile ends with the test of R84. -/
theorem applyPending_waitsOrApplied (pending : u.track.pendingKnife = s.track.pendingKnife)
    (knife : u.settings.knife = s.settings.knife) : PendingWaitsOrApplied s (applyPending u) := by
  intro k held
  rcases applyPending_cases u with ⟨same, waits⟩ | ⟨k', named, idle, applied⟩
  · rw [same, if_pos (waits (by rw [pending, held]; simp))]
    exact ⟨pending.trans held, knife⟩
  · have fitting : k' = k := Option.some.inj (named.symm.trans (pending.trans held))
    have still : anyConverting (applyKnife k' u) = false := idle
    rw [applied, still, fitting, if_neg (by simp)]
    exact ⟨rfl, rfl, raised_bit _ _⟩

theorem PendingWaitsOrApplied.settles (h : PendingWaitsOrApplied s u) (settles : Settles closes u t)
    (notices : Keeps u.line.notices t.line.notices) : PendingWaitsOrApplied s t := by
  intro k held
  have outcome := h k held
  rw [settles.anyConverting]
  by_cases waits : anyConverting u = true
  · rw [if_pos waits] at outcome ⊢
    have opens : closes = false := by
      rw [← Bool.not_eq_true]
      exact fun shut => by simp [anyConverting_of_clear (settles.clear shut).2] at waits
    obtain ⟨track, settings, _⟩ := settles.same opens
    rwa [track, settings]
  · rw [if_neg waits] at outcome ⊢
    obtain ⟨none, knife, raised⟩ := outcome
    obtain ⟨none', knife'⟩ := settles.pending none
    exact ⟨none', knife'.trans knife, notices.raised raised⟩

/-! ## ABANDON (R60, R79) -/

theorem closedRange_eq (list : List Entry) (r : HideRecord) : closedRange list r = { r with
    rangeOpen := r.rangeOpen && !(decide (r.state = .abandoned) && !(list.any fun e => r.holds e.num)) } := by
  unfold closedRange
  generalize (list.any fun e => r.holds e.num) = holds
  split
  case isTrue closes =>
    simp only [Bool.and_eq_true] at closes
    simp [closes]
  case isFalse stays =>
    have kept : (r.rangeOpen && !(decide (r.state = .abandoned) && !holds)) = r.rangeOpen := by
      revert stays
      cases r.rangeOpen <;> cases holds <;> simp
    rw [kept]

@[simp] theorem lineAbandoned_number (n : Num) (newest : Option StrobeId) (list : List Entry) (r : HideRecord) :
    (lineAbandoned n newest list r).number = r.number := by
  rw [lineAbandoned, closedRange_eq]
  split <;> rfl

/-- The record that an ABANDON names. -/
theorem lineAbandoned_named (newest : Option StrobeId) (list : List Entry) (r : HideRecord) :
    lineAbandoned r.number newest list r = { r.abandonedBy newest with
      rangeOpen := r.rangeOpen && list.any fun e => (r.abandonedBy newest).holds e.num } := by
  rw [lineAbandoned, if_pos rfl, closedRange_eq]
  simp [HideRecord.abandonedBy]

/-- The state that an ABANDON leaves before the profile's test and the end of the event. -/
def lineAbandonedState (n : Num) (s : State) : State :=
  { raiseLine .hideAbandoned (detach (fun r => decide (r.hide = n)) s) with
    hides := lineAbandonedTable n s.feed.newest s.intake.list s.hides
    track := { s.track with slices := s.track.slices.filter fun sl => sl.hide ≠ n } }

/-- What an ABANDON leaves before the end of the event. -/
theorem findHide_lineAbandoned {n : Num} {r : HideRecord} (found : findHide s n = some r)
    (hides : u.hides = lineAbandonedTable n s.feed.newest s.intake.list s.hides) :
    findHide u n = some (lineAbandoned n s.feed.newest s.intake.list r) := by
  rw [findHide, hides, lineAbandonedTable_records, List.find?_map]
  simp only [Function.comp_def, lineAbandoned_number]
  exact congrArg (Option.map _) found

/-- Settles O57: each hide request acts on the record that it names. -/
theorem hideRequestsActOnTheRecordNamed : Obligations.HideRequestsActOnTheRecordNamed := by
  intro n s
  refine ⟨fun row high => ?_, fun missing => ⟨fun row low => ?_, ?_, ?_⟩, fun past => ?_, fun r sound found =>
    ⟨fun row a low named state => ?bind, fun row low notScanning notScanned => ?late, fun finished => ?_,
    fun unfinished => ?_, fun unfinished => ?abandon, fun finished => ?release, fun listed => ?read⟩⟩
  · simp [exec, execBind, high, bindFields]
  · simp [exec, execBind, show ¬ 31 < row by omega, missing, bindFields]
  · simp [exec, execAbandon, missing]
  · simp [exec, execRelease, missing]
  · simp only [exec, execReadReport, recordAtCursor, List.getElem?_eq_none past]
    rfl
  case bind =>
    have row' : ¬ 31 < row := by omega
    have article : s.settings.articles.getD row Config.factoryArticle = a := by
      simp [List.getD_eq_getElem?_getD, named]
    have taken : exec (.bind n row) s = .next (answerLine 0x26 .ok (bindFields n row) (takeBind n row s)) := by
      rcases state with state | state <;> simp [exec, execBind, row', found, state]
    rw [taken, takeBind, article]
    rfl
  case late =>
    have row' : ¬ 31 < row := by omega
    cases state : r.state <;> simp_all [exec, execBind, bindFields]
  · simp [exec, execAbandon, found, finished]
  · simp [exec, execRelease, found, unfinished]
  case abandon =>
    obtain ⟨held, numbered⟩ := findHide_mem found
    have run : exec (.abandon n) s = .next (answerLine 0x27 .ok (be16 n ++ nat16 (slicesOf n s)) (takeAbandon n s)) := by
      simp [exec, execAbandon, found, unfinished]
    have notices : Keeps (applyPending (lineAbandonedState n s)).line.notices (takeAbandon n s).line.notices :=
      settle_keeps_notices _
    obtain ⟨closes, settles⟩ := settle_settles (applyPending (lineAbandonedState n s))
    have port : linePort (takeAbandon n s) = linePort s :=
      (settle_linePort _).trans ((applyPending_linePort (lineAbandonedState n s)).trans rfl)
    change Settles closes _ (takeAbandon n s) at settles
    generalize takeAbandon n s = t at run notices settles port
    have slices : t.track.slices = s.track.slices.filter fun sl => sl.hide ≠ n := by
      rw [settles.slices, applyPending_slices]
      rfl
    have counts : (applyPending (lineAbandonedState n s)).track.readCount = s.track.readCount ∧
        (applyPending (lineAbandonedState n s)).track.gapCount = s.track.gapCount := by
      obtain ⟨same, _⟩ | ⟨k, _, _, applied⟩ := applyPending_cases (lineAbandonedState n s)
      · rw [same]
        exact ⟨rfl, rfl⟩
      · rw [applied]
        exact ⟨rfl, rfl⟩
    have named : findHide t n = some ((lineAbandoned n s.feed.newest s.intake.list r).shut closes) := by
      have there : findHide (applyPending (lineAbandonedState n s)) n = _ :=
        findHide_lineAbandoned (s := s) found (applyPending_hides _)
      rw [settles.findHide, there]
      rfl
    have list : t.intake.list = if closes then [] else s.intake.list := by
      rw [settles.list, applyPending_intake]
      cases closes <;> rfl
    have zones : (applyPending (lineAbandonedState n s)).zones =
        s.zones.map (Channel.detach fun i => decide (i.hide = n)) := applyPending_zones _
    have raised : (applyPending (lineAbandonedState n s)).line.notices &&& LineNotice.hideAbandoned.bit =
        LineNotice.hideAbandoned.bit :=
      (applyPending_notices _).1.raised (raised_bit _ _)
    have record := lineAbandoned_named s.feed.newest s.intake.list r
    rw [numbered] at record
    rw [record] at named
    refine ⟨_, _, run, slices, settles.counts.1.trans counts.1, settles.counts.2.trans counts.2, fun free => ?_, named,
      rfl, rfl, rfl, rfl, rfl, ?_, fun _ => ?_, rfl, rfl, rfl, ?_, ?_, ?_, ?_, fun other => ?_⟩
    · have taken : s.track.slices.length - t.track.slices.length = slicesOf n s := by
        have parts := List.length_eq_length_filter_add (l := s.track.slices) fun sl => decide (sl.hide = n)
        simp only [slices, slicesOf, ne_eq, decide_not]
        omega
      rw [answerLine_answer _ _ _ ((hold_of_linePort port).trans free), answerLine_track, taken]
    · simp only [HideRecord.shut, answerLine_intake, list]
      cases closes with
      | true => simp
      | false => simp [List.any_eq_true, HideRecord.holds_iff]
    · have waits : PendingWaitsOrApplied s (applyPending (lineAbandonedState n s)) := applyPending_waitsOrApplied rfl rfl
      have after : PendingWaitsOrApplied s t := waits.settles settles notices
      exact after
    · rw [answerLine_hides, settles.hides, applyPending_hides]
      rfl
    · rw [answerLine_hides, settles.hides, applyPending_hides]
      rfl
    · rw [answerLine_notices]
      exact notices.raised raised
    · have refs := settles.refs (P := fun i => i.hide ≠ n) (by
        rw [zones]
        exact fun c held => by simpa using refsAll_detached (fun i => decide (i.hide = n)) s.zones c held)
      exact refs
    · have opens : closes = false := by
        rw [← Bool.not_eq_true]
        exact fun shut => other ((settles.clear shut).1.symm.trans (by rw [applyPending_ctl]; rfl)).symm
      rw [answerLine_zones, (settles.same opens).2.2, zones, gaps_detached]
  case release =>
    simp [exec, execRelease, found, finished, takeRelease, HideTable.leave, HideTable.free]
  case read =>
    simp [exec, execReadReport, recordAtCursor, listed, found, advanceCursor]

end Sys2Proof.Machine

/-! PROOFS. SLICE at the gauge port (O52). -/

namespace Sys2Proof.Machine

variable {s t u : State} {e d : Entry} {rest : List Entry} {n : Num} {reply : List Reading} {raw : List (BitVec 16)}

/-! ## The reply (R37, R194) -/

theorem replyOf_length (active : Nat) (raw : List (BitVec 16)) : (replyOf active raw).length = 16 := by
  simp [replyOf, Config.zones]

theorem replyOf_getElem? (active : Nat) (raw : List (BitVec 16)) {z : Nat} (small : z < 16) :
    (replyOf active raw)[z]? = some (if z < active then (match raw[z]? with
      | some v => if v.toNat ≤ 3000 then .thickness v.toNat else if v = 0x8000 then .absent else .doubtful
      | none => .absent) else .absent) := by
  simp only [replyOf, Config.zones, List.getElem?_map, List.getElem?_range small, Option.map_some, readingOf]
  rfl

/-! ## What departs after a reply (R32) -/

/-- With no reply at the head nothing departs. -/
theorem departDue_waits (head : ∀ d ∈ s.intake.list.head?, d.reply = none) : departDue s = s := by
  obtain ⟨k, eq, few, taken, _⟩ := departDue_eq s
  rw [eq]
  cases k with
  | zero => rfl
  | succ k =>
    cases list : s.intake.list with
    | nil => simp [list] at few
    | cons d rest =>
      have replied := taken d (by simp [list])
      rw [head d (by simp [list])] at replied
      simp at replied

/-- A head that holds a reply departs, with those behind it that hold one. -/
theorem departDue_head (list : s.intake.list = d :: rest) (replied : d.reply.isSome = true) :
    ∃ k, departDue s = departAll (k + 1) s ∧ k ≤ rest.length ∧ (∀ x ∈ rest.take k, x.reply.isSome = true) ∧
      ∀ x ∈ (rest.drop k).head?, x.reply = none := by
  obtain ⟨k, eq, few, taken, behind⟩ := departDue_eq s
  rw [list] at few taken behind
  cases k with
  | zero =>
    have bare := behind d (by simp)
    simp [bare] at replied
  | succ k =>
    rw [List.take_succ_cons, List.forall_mem_cons] at taken
    exact ⟨k, eq, by simpa using few, taken.2, by simpa using behind⟩

theorem storeReply_others (others : ∀ d ∈ rest, d.num ≠ n) :
    (rest.map fun d => if d.num = n then { d with reply := some reply } else d) = rest := by
  conv_rhs => rw [← List.map_id rest]
  exact List.map_congr_left fun d held => if_neg (others d held)

/-! ## SLICE (R37, R43) -/

theorem slice_refused (profile : s.ctl.strap = .profile) (st : Status) (i : Intake) (notices : i.notices = s.intake.notices)
    (list : i.list = s.intake.list) : refuseSlice st { s with intake := i } =
      answerGauge 0x01 st (nat8 s.intake.list.length)
        { s with intake := { i with notices := s.intake.notices ||| GaugeNotice.sliceRefused.bit } } := by
  simp only [refuseSlice, raiseGauge, profile, listCount, notices, list]

/-- Settles O52: a SLICE that is taken is stored, and its entry departs where it is the head. -/
theorem sliceIsJudgedStoredAndDeparts : Obligations.SliceIsJudgedStoredAndDeparts := by
  intro n raw s
  split
  case isTrue long =>
    simp only [exec, execSlice, if_pos long, answerGaugeBadFrame, if_true, countGaugeBadFrame, raiseGauge_eq, bump_eq,
      answerGauge]
  case isFalse short =>
    dsimp only
    refine ⟨replyOf_length _ _, fun z small => replyOf_getElem? _ _ small, fun fixed => ?_, fun profile => ?_⟩
    · simp only [exec, execSlice, if_neg short, fixed, refuseSlice, raiseGauge, listCount]
    have run : exec (.slice n raw) s = .next (slice n (replyOf s.ctl.activeZones raw) s) := by
      simp only [exec, execSlice, if_neg short, profile]
    generalize replyOf s.ctl.activeZones raw = reply at run
    rw [run]
    refine ⟨fun none => ?_, fun newest issued => ⟨fun past => ?_, fun known => ⟨fun gone => ?_, fun e found =>
      ⟨fun replied => ?_, fun bare behind => ?behind, fun bare rest list others => ?head⟩⟩⟩⟩
    · rw [slice, none]
      exact congrArg Host.Outcome.next (slice_refused profile .badValue s.intake rfl rfl)
    · simp only [slice, issued, past, if_true]
      exact congrArg Host.Outcome.next (slice_refused profile .badValue s.intake rfl rfl)
    · have missing : s.intake.list.find? (fun e => e.num = n) = none := by
        simpa [List.find?_eq_none] using gone
      simp only [slice, issued, known, missing]
      exact congrArg Host.Outcome.next (slice_refused profile .late _ rfl rfl)
    · simp only [slice, issued, known, found, replied, if_true]
      exact congrArg Host.Outcome.next (slice_refused profile .duplicate _ rfl rfl)
    case behind =>
      obtain ⟨d, head, other, unanswered⟩ := behind
      have waits : departDue (storeReply n reply s) = storeReply n reply s := by
        refine departDue_waits fun x first => ?_
        rw [storeReply, List.head?_map, Option.mem_def.mp head, Option.map_some, Option.mem_some, if_neg other] at first
        rw [← first]
        exact unanswered
      simp only [slice, issued, known, found, bare, waits]
      simp [listCount, storeReply]
    case head =>
      have numbered : e.num = n := by simpa using List.find?_some found
      have stored : (storeReply n reply s).intake.list = { e with reply := some reply } :: rest := by
        rw [storeReply, list, List.map_cons, storeReply_others others, if_pos numbered]
      have notices : (storeReply n reply s).intake.notices = s.intake.notices := rfl
      obtain ⟨k, eq, few, taken, behind⟩ := departDue_head stored rfl
      have slices := departAll_slices (k := k + 1) (s := storeReply n reply s) (by simpa [stored] using few)
      have intake := departAll_intake (k := k + 1) (s := storeReply n reply s) (by simpa [stored] using few)
      have left := departAll_list (k + 1) (storeReply n reply s)
      rw [stored, List.drop_succ_cons] at left
      rw [stored, List.take_succ_cons] at slices intake
      have ran : slice n reply s = answerGauge 0x01 .ok (nat8 (departDue (storeReply n reply s)).intake.list.length)
          (departDue (storeReply n reply s)) := by
        simp [slice, issued, known, found, bare, listCount]
      refine ⟨_, k, congrArg Host.Outcome.next ran, ?_⟩
      rw [eq]
      refine ⟨left, taken, behind, by rw [left]; rfl, ?_, ?_, ?_, ?_, ?_, _, slices, ?_⟩
      · exact departAll_feed _ _
      · exact departAll_zones _ _
      · exact departAll_link _ _
      · exact departAll_ctl _ _
      · exact departAll_settings _ _
      cases member : memberOf n s.hides.records with
      | none =>
        have orphan : isOrphan (storeReply n reply s).hides.records { e with reply := some reply } = true := by
          simp only [isOrphan, numbered]
          rw [show (storeReply n reply s).hides.records = s.hides.records from rfl, member]
          rfl
        have strap : (storeReply n reply s).ctl.strap = .profile := profile
        have raised : (departAll (k + 1) (storeReply n reply s)).intake.notices =
            s.intake.notices ||| GaugeNotice.orphan.bit := by
          rw [intake]
          dsimp only
          rw [List.filter_cons_of_pos orphan, List.length_cons, if_pos ⟨Nat.succ_pos _, strap⟩, notices]
        change (departAll (k + 1) (storeReply n reply s)).intake.notices &&& _ = _
        rw [raised]
        exact raised_bit _ _
      | some r =>
        intro unfinished
        have entered : enteredFor (storeReply n reply s).hides.records { e with reply := some reply } =
            some { strobe := n, pos := e.pos, hide := r.number, readings := some reply, stage := .entered,
                   results := [] } := by
          simp only [enteredFor, numbered]
          rw [show (storeReply n reply s).hides.records = s.hides.records from rfl, member]
          exact if_pos unfinished
        rw [List.filterMap_cons_some entered, List.head?_cons]

end Sys2Proof.Machine

/-! PROOFS. The ends of hides: END, GAUGE_RESET and the maximum length (O54). -/

namespace Sys2Proof.Machine

variable {s t u : State} {r q : HideRecord} {n e : Num} {forced : Bool}

/-! ## Finding records -/

theorem findHide_of_mem (distinct : DistinctNumbers s) (held : r ∈ s.hides.records) : findHide s r.number = some r := by
  cases found : findHide s r.number with
  | none => exact absurd (List.find?_eq_none.mp found r held) (by simp)
  | some q =>
    obtain ⟨there, same⟩ := findHide_mem found
    rw [distinct.unique there held same]

/-- Searches in related lists find related elements, where the test cannot tell these apart. -/
theorem find?_related {α β : Type} {R : α → β → Prop} {p : α → Bool} {p' : β → Bool} {l : List α} {l' : List β}
    (related : List.Forall₂ R l l') (agree : ∀ a b, R a b → p' b = p a) : Option.Rel R (l.find? p) (l'.find? p') := by
  induction related with
  | nil => exact .none
  | @cons a b _ _ here _ ih =>
    rw [List.find?_cons, List.find?_cons, agree a b here]
    cases p a with
    | true => exact .some here
    | false => exact ih

theorem forall₂_trans {α β γ : Type} {R : α → β → Prop} {S : β → γ → Prop} {T : α → γ → Prop} {l : List α} {m : List β}
    {k : List γ} (both : ∀ a b c, R a b → S b c → T a c) (first : List.Forall₂ R l m) (second : List.Forall₂ S m k) :
    List.Forall₂ T l k := by
  induction first generalizing k with
  | nil =>
    cases second
    exact .nil
  | cons here _ ih =>
    cases second with
    | cons there rest => exact .cons (both _ _ _ here there) (ih rest)

/-! ## Finishing (R59) -/

theorem HideRecord.finished_iff : r.finished = true ↔
    r.state = .splitting ∧ r.last.isSome = true ∧ r.newestEntered = r.last ∧ r.inTrack = 0 := by
  simp [HideRecord.finished, and_assoc]

/-- The record of R59 after its test. -/
def HideRecord.ifDone (r : HideRecord) : HideRecord :=
  if r.finished then { r with state := .done, rangeOpen := false } else r

theorem tryDone_done (found : findHide s n = some r) (done : r.finished = true) : tryDone n s = becomeDone n s := by
  simp [tryDone, found, done]

theorem tryDone_stays (found : findHide s n = some r) (stays : r.finished = false) : tryDone n s = s := by
  simp [tryDone, found, stays]

theorem becomeDone_hides (n : Num) (s : State) : (becomeDone n s).hides = { s.hides with
    records := s.hides.records.map (HideRecord.doneIf n), completion := s.hides.completion ++ [n] } := by
  rw [becomeDone, applyPending_hides]
  rfl

theorem findHide_map {f : HideRecord → HideRecord} (records : t.hides.records = s.hides.records.map f)
    (numbers : ∀ r, (f r).number = r.number) (n : Num) : findHide t n = (findHide s n).map f := by
  simp only [findHide, records, List.find?_map, Function.comp_def, numbers]

@[simp] theorem HideRecord.doneIf_number (n : Num) (r : HideRecord) : (r.doneIf n).number = r.number := by
  unfold HideRecord.doneIf
  split <;> rfl

@[simp] theorem HideRecord.endedIf_number (n e : Num) (forced : Bool) (r : HideRecord) :
    (r.endedIf n e forced).number = r.number := by
  unfold HideRecord.endedIf
  split <;> rfl

theorem findHide_tryDone (found : findHide s n = some r) : findHide (tryDone n s) n = some r.ifDone := by
  have numbered := (findHide_mem found).2
  cases done : r.finished with
  | false => rw [tryDone_stays found done, found, HideRecord.ifDone, done]; rfl
  | true =>
    rw [tryDone_done found done, findHide_map (s := s) (f := HideRecord.doneIf n) (by rw [becomeDone_hides])
      (HideRecord.doneIf_number n), found, Option.map_some, HideRecord.doneIf, if_pos numbered, HideRecord.ifDone, done,
      if_pos rfl]

theorem becomeDone_keeps (n : Num) (s : State) : Keeps s.line.notices (becomeDone n s).line.notices := by
  have raised := (applyPending_notices (raiseLine .hideDone (joinCompletion n
    (updHide (fun r => { r with state := .done, rangeOpen := false }) n s)))).1
  exact (Keeps.or s.line.notices LineNotice.hideDone.bit).trans raised

theorem tryDone_keeps (n : Num) (s : State) : Keeps s.line.notices (tryDone n s).line.notices := by
  unfold tryDone
  split
  · split
    · exact becomeDone_keeps n s
    · exact .refl _
  · exact .refl _

theorem tryDone_slices (n : Num) (s : State) : (tryDone n s).track.slices = s.track.slices := by
  unfold tryDone
  split
  · split
    · rw [becomeDone, applyPending_slices]
      rfl
    · rfl
  · rfl

/-- With no converting hide lost, the profile waits or is applied after the test of R59. -/
theorem tryDone_waitsOrApplied (pending : u.track.pendingKnife = s.track.pendingKnife)
    (knife : u.settings.knife = s.settings.knife) (converts : anyConverting u = true) :
    PendingWaitsOrApplied s (tryDone n u) := by
  have still : PendingWaitsOrApplied s u := fun k held => by
    rw [if_pos converts]
    exact ⟨pending.trans held, knife⟩
  unfold tryDone
  split
  · split
    · exact applyPending_waitsOrApplied pending knife
    · exact still
  · exact still

/-! ## Ending (R53) -/

/-- The record of a hide after its end at e. -/
def HideRecord.endedAt (e : Num) (forced : Bool) (r : HideRecord) : HideRecord :=
  HideRecord.ifDone { r with
    state := r.state.ended, last := some e, flags := { r.flags with forcedEnd := r.flags.forcedEnd || forced } }

theorem findHide_endAt (found : findHide s n = some r) : findHide (endAt n e forced s) n = some (r.endedAt e forced) := by
  have ended : findHide (raiseLineIf forced .forcedEnd (updRecords (HideRecord.endedIf n e forced) s)) n =
      some (r.endedIf n e forced) := by
    rw [findHide_map (s := s) (f := HideRecord.endedIf n e forced) (by rw [raiseLineIf_hides]; rfl)
      (HideRecord.endedIf_number n e forced), found]
    rfl
  rw [endAt_eq, findHide_tryDone ended, HideRecord.endedAt, HideRecord.endedIf, if_pos (findHide_mem found).2]

/-- The state of an open hide after its end (R53, R59). -/
theorem HideRecord.endedAt_state (isOpen : r.state.isOpen = true) : (r.endedAt e forced).state =
    if r.state = .scanning then .scanned
    else if r.newestEntered = some e ∧ r.inTrack = 0 then .done else .splitting := by
  cases state : r.state <;> simp [HideState.isOpen, state] at isOpen
  · simp [HideRecord.endedAt, HideRecord.ifDone, HideRecord.finished, HideState.ended, state]
  · by_cases last : r.newestEntered = some e ∧ r.inTrack = 0
    · simp [HideRecord.endedAt, HideRecord.ifDone, HideRecord.finished, HideState.ended, state, last]
    · simp [HideRecord.endedAt, HideRecord.ifDone, HideRecord.finished, HideState.ended, state, last]

theorem HideRecord.endedAt_last : (r.endedAt e forced).last = some e := by
  unfold HideRecord.endedAt HideRecord.ifDone
  split <;> rfl

theorem HideRecord.endedAt_rest : (r.endedAt e forced).article = r.article ∧ (r.endedAt e forced).counts = r.counts ∧
    (r.endedAt e forced).newestEntered = r.newestEntered ∧
    (r.endedAt e forced).flags = { r.flags with forcedEnd := r.flags.forcedEnd || forced } := by
  unfold HideRecord.endedAt HideRecord.ifDone
  split <;> exact ⟨rfl, rfl, rfl, rfl⟩

theorem endAt_raises (s : State) : (endAt n e true s).line.notices &&& LineNotice.forcedEnd.bit = LineNotice.forcedEnd.bit :=
  (tryDone_keeps n _).raised (raised_bit _ _)

theorem endAt_slices (s : State) : (endAt n e forced s).track.slices = s.track.slices := by
  rw [endAt_eq, tryDone_slices, raiseLineIf_track]
  rfl

theorem HideState.ended_converting (h : HideState) : h.ended.converting = h.converting := by cases h <;> rfl

theorem HideRecord.endedIf_converting : (r.endedIf n e forced).state.converting = r.state.converting := by
  unfold HideRecord.endedIf
  split
  · exact r.state.ended_converting
  · rfl

theorem endAt_waitsOrApplied (converts : anyConverting s = true) : PendingWaitsOrApplied s (endAt n e forced s) := by
  rw [endAt_eq]
  refine tryDone_waitsOrApplied ?_ ?_ ?_
  · rw [raiseLineIf_track]
    rfl
  · rw [raiseLineIf_settings]
    rfl
  · simpa only [anyConverting, raiseLineIf_hides, updRecords_records, List.any_map, Function.comp_def,
      HideRecord.endedIf_converting] using converts

theorem openHide_none (noneOpen : NoneOpen s) : openHide s = none := by
  rw [openHide, List.find?_eq_none]
  intro r held
  simp [noneOpen r held]

theorem endAt_openHide (sound : HideTableSound s) (found : openHide s = some r) :
    NoneOpen (endAt r.number e forced s) := by
  obtain ⟨held, isOpen⟩ := openHide_mem found
  exact endAt_noneOpen fun q there opened => by rw [sound.open_unique there held opened isOpen]

theorem Settles.noneOpen {closes : Bool} (settles : Settles closes s t) (noneOpen : NoneOpen s) : NoneOpen t := by
  intro r held
  rw [settles.hides] at held
  obtain ⟨q, there, rfl⟩ := List.mem_map.mp held
  exact noneOpen q there

/-! ## GAUGE_RESET (R42) -/

theorem departHead_none (none : s.intake.list = []) : departHead s = s := by
  simp [departHead, none]

/-- Departures leave the numbers and the states of the records. -/
theorem departAll_states (k : Nat) (s : State) : List.Forall₂ (fun q q' : HideRecord => q'.number = q.number ∧ q'.state = q.state)
    s.hides.records (departAll k s).hides.records := by
  induction k generalizing s with
  | zero => exact List.forall₂_same.mpr fun _ _ => ⟨rfl, rfl⟩
  | succ k ih =>
    have later := ih (departHead s)
    cases list : s.intake.list with
    | nil =>
      rw [departHead_none list] at later
      rwa [departAll, departHead_none list]
    | cons e rest =>
      have first := departHead_records list
      exact forall₂_trans (fun _ _ _ departed same =>
        ⟨same.1.trans departed.number, same.2.trans departed.state⟩) first later

theorem departAll_openHide (k : Nat) (s : State) : Option.Rel (fun q q' : HideRecord => q'.number = q.number ∧ q'.state = q.state)
    (openHide s) (openHide (departAll k s)) :=
  find?_related (departAll_states k s) fun _ _ same => by rw [same.2]

/-- The state in which GAUGE_RESET lets the strobes depart: the receive buffer is empty. -/
def rxEmptied (s : State) : State := { s with intake := { s.intake with port := { s.intake.port with rx := none } } }

/-- The state after the departures of a GAUGE_RESET. -/
def gaugeEmptied (s : State) : State := departAll s.intake.list.length (rxEmptied s)

theorem gaugeReset_eq (s : State) : gaugeReset s = settle (forceOpenEnd (gaugeEmptied s)) := rfl

theorem gaugeEmptied_sound (sound : HideTableSound s) : HideTableSound (gaugeEmptied s) :=
  (departAll_trail (c := .gaugeReset) (s := rxEmptied s) rfl _).hideTableSound (by simp) sound

theorem gaugeEmptied_slices (s : State) : (gaugeEmptied s).track.slices =
    s.track.slices ++ s.intake.list.filterMap (enteredFor s.hides.records) := by
  have slices := departAll_slices (k := s.intake.list.length) (s := rxEmptied s) le_rfl
  rwa [show (rxEmptied s).intake.list = s.intake.list from rfl, List.take_length] at slices

theorem gaugeEmptied_intake (s : State) :
    let orphans := (s.intake.list.filter (isOrphan s.hides.records)).length
    (gaugeEmptied s).intake = { (rxEmptied s).intake with
      list := []
      orphan := orphansAfter s.intake.orphan orphans
      notices := if 0 < orphans ∧ s.ctl.strap = .profile
        then s.intake.notices ||| GaugeNotice.orphan.bit else s.intake.notices } := by
  have intake := departAll_intake (k := s.intake.list.length) (s := rxEmptied s) le_rfl
  rwa [show (rxEmptied s).intake.list = s.intake.list from rfl, List.take_length, List.drop_length] at intake

@[simp] theorem forceOpenEnd_intake (s : State) : (forceOpenEnd s).intake = s.intake := by
  unfold forceOpenEnd
  split <;> simp

@[simp] theorem forceOpenEnd_feed (s : State) : (forceOpenEnd s).feed = s.feed := by
  unfold forceOpenEnd
  split <;> simp

theorem forceOpenEnd_slices (s : State) : (forceOpenEnd s).track.slices = s.track.slices := by
  unfold forceOpenEnd
  split
  · exact endAt_slices s
  · rfl

theorem forceOpenEnd_noneOpen (sound : HideTableSound s) : NoneOpen (forceOpenEnd s) := by
  unfold forceOpenEnd
  split
  case h_1 r isOpen => exact endAt_openHide sound isOpen
  case h_2 none => exact .of_openHide none

/-- The forced end of a GAUGE_RESET (R42): at the newest entered strobe where there is one. -/
theorem findHide_forceOpenEnd (sound : HideTableSound s) (isOpen : openHide s = some r) : ∃ q,
    findHide (forceOpenEnd s) r.number = some q ∧ q.state.isOpen = false ∧ q.flags.forcedEnd = true ∧
      (q.newestEntered.isSome = true → q.last = q.newestEntered) := by
  obtain ⟨held, _⟩ := openHide_mem isOpen
  have force : forceOpenEnd s = endAt r.number (r.newestEntered.getD r.first.num) true s := by
    simp [forceOpenEnd, isOpen]
  have found : findHide (forceOpenEnd s) r.number = some (r.endedAt (r.newestEntered.getD r.first.num) true) := by
    rw [force]
    exact findHide_endAt (findHide_of_mem sound.distinct held)
  obtain ⟨_, _, newest, flags⟩ := r.endedAt_rest (e := r.newestEntered.getD r.first.num) (forced := true)
  refine ⟨_, found, forceOpenEnd_noneOpen sound _ (findHide_mem found).1, by rw [flags]; exact Bool.or_true _, ?_⟩
  rw [HideRecord.endedAt_last, newest]
  cases r.newestEntered <;> simp

theorem gaugeEmptied_openHide (isOpen : openHide s = some r) : ∃ q, openHide (gaugeEmptied s) = some q ∧ q.number = r.number := by
  have related := departAll_openHide s.intake.list.length (rxEmptied s)
  rw [show openHide (rxEmptied s) = some r from isOpen] at related
  change Option.Rel _ _ (openHide (gaugeEmptied s)) at related
  generalize openHide (gaugeEmptied s) = found at related
  cases related with
  | @some _ q same => exact ⟨q, rfl, same.1⟩

/-- Settles O54: END, GAUGE_RESET and the maximum length end the open hide. -/
theorem endAndGaugeResetEndTheOpenHide : Obligations.EndAndGaugeResetEndTheOpenHide := by
  refine ⟨fun s => ⟨fun none => ?_, fun r newest sound isOpen issued => ?length⟩, fun last s =>
    ⟨fun fixed => ⟨?_, ?_⟩, fun profile st refused => ?refused, fun sound profile r isOpen started issued => ?ends,
    fun sound profile => ?reset⟩⟩
  · simp [riseLength, none]
  case length =>
    have run : riseLength s = if (s.settings.geometry.maxLength : Int) < posDiff r.first.pos s.feed.h then
        endAt r.number newest.num true s else s := by
      simp [riseLength, isOpen, issued]
    split
    case isTrue long =>
      rw [if_pos long] at run
      rw [run]
      obtain ⟨held, opened⟩ := openHide_mem isOpen
      have found := findHide_of_mem sound.distinct held
      obtain ⟨article, counts, _, flags⟩ := r.endedAt_rest (e := newest.num) (forced := true)
      rw [Bool.or_true] at flags
      exact ⟨openHide_none (endAt_openHide sound isOpen), ⟨_, findHide_endAt found, HideRecord.endedAt_last, flags, counts,
        HideRecord.endedAt_state opened⟩, endAt_raises s, by simp, by simp, by simp, endAt_slices s⟩
    case isFalse short => rw [run, if_neg short]
  · simp [exec, execEndHide, fixed, refuseEnd, raiseGauge]
  · simp [exec, execGaugeReset, fixed]
  case refused =>
    have refuse : ∀ st, refuseEnd st s = answerGauge 0x03 st (be16 0 ++ be16 0) { s with
        intake := { s.intake with notices := s.intake.notices ||| GaugeNotice.hideRefused.bit } } := fun st => by
      rw [refuseEnd, raiseGauge_eq, if_pos profile]
    rcases refused with ⟨rfl, none⟩ | ⟨rfl, r, isOpen, range⟩
    · simp [exec, execEndHide, profile, endRequest, none, refuse]
    · have out : endOutOfRange r last s = true := by
        rw [endOutOfRange, Bool.or_eq_true]
        refine range.imp_right fun past => ?_
        cases issued : s.feed.newest with
        | none => rfl
        | some newest => exact past newest issued
      simp [exec, execEndHide, profile, endRequest, Option.mem_def.mp isOpen, out, refuse]
  case ends =>
    obtain ⟨newest, named, known⟩ := issued
    obtain ⟨held, opened⟩ := openHide_mem isOpen
    have inRange : endOutOfRange r last s = false := by
      simp [endOutOfRange, started, Option.mem_def.mp named, known]
    have forced : endForced r last = r.newestEntered.any fun n => older last n := by
      unfold endForced
      cases r.newestEntered <;> rfl
    have taken : endStrobe r last = if r.newestEntered.any (fun n => older last n) then r.newestEntered.getD last else last := by
      unfold endStrobe laterOf
      cases r.newestEntered <;> rfl
    have run : exec (.endHide last) s = .next (answerGauge 0x03 .ok (be16 r.number ++ be16 (endStrobe r last))
        (settle (endAt r.number (endStrobe r last) (endForced r last) s))) := by
      simp [exec, execEndHide, profile, endRequest, isOpen, inRange]
    rw [taken, forced] at run
    generalize (r.newestEntered.any fun n => older last n) = forces at run
    dsimp only
    generalize (if forces = true then r.newestEntered.getD last else last) = e at run
    obtain ⟨closes, settles⟩ := settle_settles (endAt r.number e forces s)
    have notices := settle_keeps_notices (endAt r.number e forces s)
    have core : (settle (endAt r.number e forces s)).feed.core = s.feed.core := by rw [settle_core, endAt_feed]
    generalize settle (endAt r.number e forces s) = t at run settles notices core
    obtain ⟨article, counts, _, flags⟩ := r.endedAt_rest (e := e) (forced := forces)
    have there : findHide t r.number = some ((r.endedAt e forces).shut closes) := by
      rw [settles.findHide, findHide_endAt (findHide_of_mem sound.distinct held)]
      rfl
    have none : openHide t = none := openHide_none (settles.noneOpen (endAt_openHide sound isOpen))
    have waits : anyConverting s = true → PendingWaitsOrApplied s t := fun converts =>
      (endAt_waitsOrApplied converts).settles settles notices
    refine ⟨_, _, run, none, rfl, waits, there, HideRecord.endedAt_last, article, counts, flags,
      HideRecord.endedAt_state opened, (congrArg Feed.h core :), (congrArg Feed.newest core :),
      (congrArg Feed.nextNum core :), fun forced => notices.raised ?_⟩
    rw [forced]
    exact endAt_raises s
  case reset =>
    have run : exec .gaugeReset s = .next (answerGauge 0x07 .ok (nat8 s.intake.list.length) (gaugeReset s)) := by
      simp only [exec, execGaugeReset, profile, listCount]
    obtain ⟨closes, settles⟩ := settle_settles (forceOpenEnd (gaugeEmptied s))
    have core : (gaugeReset s).feed.core = s.feed.core := by
      rw [gaugeReset_eq, settle_core, forceOpenEnd_feed]
      exact congrArg Feed.core (departAll_feed _ _)
    rw [← gaugeReset_eq] at settles
    generalize gaugeReset s = t at run settles core
    have intake : t.intake = (gaugeEmptied s).intake := by
      rw [settles.list, forceOpenEnd_intake]
      cases closes with
      | false => rfl
      | true => rw [gaugeEmptied_intake, if_pos rfl]
    have none : openHide t = none := openHide_none (settles.noneOpen (forceOpenEnd_noneOpen (gaugeEmptied_sound sound)))
    rw [gaugeEmptied_intake] at intake
    refine ⟨_, run, (congrArg Intake.list intake :), none, rfl, ?_, (congrArg Intake.orphan intake :), ?_, ?_,
      (congrArg Intake.mask intake :), (congrArg Feed.nextNum core :), (congrArg Feed.newest core :),
      (congrArg Feed.sync core :), (congrArg Feed.h core :), fun r isOpen => ?_⟩
    · exact settles.slices.trans ((forceOpenEnd_slices _).trans (gaugeEmptied_slices s))
    · refine (congrArg Intake.notices intake).trans ?_
      simp only [profile, and_true, Nat.pos_iff_ne_zero, ite_not]
    · have rx : t.intake.port.rx = Option.none := congrArg (fun i => i.port.rx) intake
      change Option.map _ t.intake.port.rx = _
      rw [rx]
      rfl
    · obtain ⟨q, isOpen', number⟩ := gaugeEmptied_openHide isOpen
      obtain ⟨p, found, ended⟩ := findHide_forceOpenEnd (gaugeEmptied_sound sound) isOpen'
      refine ⟨p.shut closes, ?_, ended⟩
      have there := settles.findHide r.number
      rw [← number, found, number] at there
      exact there

end Sys2Proof.Machine

/-! PROOFS. ANNOUNCE at the gauge port (O53). -/

namespace Sys2Proof.Machine

variable {s t u m : State} {r q : HideRecord} {n f tag : Num} {e : Entry}

/-! ## The next hide number (R46) -/

/-- The search passes the numbers in use. -/
theorem advanceNumber_eq_iterate (inUse : List Num) (fuel : Nat) (n : Num) : ∃ k, k ≤ fuel ∧
    advanceNumber inUse fuel n = nextNumberAfter^[k] n ∧ ∀ j < k, nextNumberAfter^[j] n ∈ inUse := by
  induction fuel generalizing n with
  | zero => exact ⟨0, le_rfl, rfl, nofun⟩
  | succ fuel ih =>
    unfold advanceNumber
    by_cases used : n ∈ inUse
    · rw [if_pos (by simpa using used)]
      obtain ⟨k, few, same, passed⟩ := ih (nextNumberAfter n)
      refine ⟨k + 1, by omega, same, fun j below => ?_⟩
      cases j with
      | zero => exact used
      | succ j => exact passed j (by omega)
    · rw [if_neg (by simpa using used)]
      exact ⟨0, Nat.zero_le _, rfl, nofun⟩

theorem nodup_iterate_nextNumberAfter (positive : n ≠ 0) {k : Nat} (few : k ≤ 65535) :
    ((List.range k).map fun i => nextNumberAfter^[i] n).Nodup := by
  refine List.Nodup.map_on (fun i first j second same => ?_) List.nodup_range
  have equal := congrArg BitVec.toNat same
  rw [toNat_iterate_nextNumberAfter positive, toNat_iterate_nextNumberAfter positive] at equal
  rw [List.mem_range] at first second
  omega

/-- From a number in use the search passes at most seven more, of eight in use. -/
theorem advanceNumber_passes {inUse : List Num} (eight : inUse.length ≤ 8) (positive : n ≠ 0) (used : n ∈ inUse) :
    ∃ k, k ≤ 7 ∧ advanceNumber inUse 9 (nextNumberAfter n) = nextNumberAfter^[k + 1] n ∧
      ∀ j < k, nextNumberAfter^[j + 1] n ∈ inUse := by
  obtain ⟨k, few, same, passed⟩ := advanceNumber_eq_iterate inUse 9 (nextNumberAfter n)
  refine ⟨k, ?_, same, passed⟩
  have subset : ((List.range (k + 1)).map fun i => nextNumberAfter^[i] n) ⊆ inUse := fun m held => by
    obtain ⟨i, below, rfl⟩ := List.mem_map.mp held
    rw [List.mem_range] at below
    cases i with
    | zero => exact used
    | succ i => exact passed i (by omega)
  have fits := (nodup_iterate_nextNumberAfter positive (k := k + 1) (by omega)).subperm subset |>.length_le
  rw [List.length_map, List.length_range] at fits
  omega

/-! ## The record of a new hide (R50, R51) -/

/-- The flags that the edge check leaves of a new hide (R51). -/
def edgeFlags (e : Entry) (edge : Option Pos) (s : State) : HideFlags :=
  { edgeMismatch := match edge with
      | some c => decide ((s.settings.geometry.edgeTolerance : Int) <
          |posDiff (posPlus c s.settings.geometry.infeed) e.pos|)
      | none => false
    noEdge := edge.isNone
    gaugeLost := false
    forcedEnd := false
    manualInfluence := false
    slip := false }

/-- The fields of a filled record. -/
structure FilledAs (e : Entry) (tag : Num) (edge : Option Pos) (s : State) (r : HideRecord) : Prop where
  tag : r.tag = tag
  state : r.state = .scanning
  cause : r.cause = none
  row : r.row = s.settings.current
  article : r.article = s.settings.articles.getD s.settings.current Config.factoryArticle
  taken : r.edge = edge
  first : r.first = { num := e.num, pos := e.pos }
  last : r.last = none
  range : r.rangeOpen = true
  entered : r.newestEntered = none ∧ r.inTrack = 0 ∧ r.sliceCount = 0 ∧ r.gapCount = 0 ∧ r.gapRun = 0
  measured : r.area = 0 ∧ r.deviation = 0 ∧ r.tMin = none ∧ r.tMax = none ∧ r.counts = List.replicate 16 ZoneCounts.zero
  flags : r.flags = edgeFlags e edge s

theorem filledRecord_filledAs (e : Entry) (tag : Num) (edge : Option Pos) (s : State) :
    FilledAs e tag edge s (filledRecord e tag edge s) := by
  cases edge with
  | none => exact ⟨rfl, rfl, rfl, rfl, rfl, rfl, rfl, rfl, rfl, ⟨rfl, rfl, rfl, rfl, rfl⟩, ⟨rfl, rfl, rfl, rfl, rfl⟩, rfl⟩
  | some c =>
    refine ⟨rfl, rfl, rfl, rfl, rfl, rfl, rfl, rfl, rfl, ⟨rfl, rfl, rfl, rfl, rfl⟩, ⟨rfl, rfl, rfl, rfl, rfl⟩, ?_⟩
    have tolerance : edgeMismatch s.settings.geometry e.pos c = decide ((s.settings.geometry.edgeTolerance : Int) <
        |posDiff (posPlus c s.settings.geometry.infeed) e.pos|) := by
      unfold edgeMismatch
      rw [Int.abs_eq_natAbs]
      exact decide_eq_decide.mpr Int.ofNat_lt.symm
    change ({ edgeMismatch := edgeMismatch s.settings.geometry e.pos c, noEdge := false, gaugeLost := false, forcedEnd := false,
              manualInfluence := false, slip := false } : HideFlags) = _
    rw [tolerance]
    rfl

/-! ## Making room (R48, R49) -/

/-- What making room leaves: all but the hides, the notices and the profile. -/
structure Roomed (s m : State) : Prop where
  feed : m.feed = s.feed
  intake : m.intake = s.intake
  ctl : m.ctl = s.ctl
  link : m.link = s.link
  zones : m.zones = s.zones
  slices : m.track.slices = s.track.slices
  settings : ∃ k, m.settings = { s.settings with knife := k }
  next : m.hides.nextNumber = s.hides.nextNumber

theorem Roomed.refl (s : State) : Roomed s s := ⟨rfl, rfl, rfl, rfl, rfl, rfl, ⟨_, rfl⟩, rfl⟩

theorem Roomed.trans (h : Roomed s t) (h' : Roomed t u) : Roomed s u := by
  obtain ⟨k, settings⟩ := h.settings
  obtain ⟨k', settings'⟩ := h'.settings
  exact ⟨h'.feed.trans h.feed, h'.intake.trans h.intake, h'.ctl.trans h.ctl, h'.link.trans h.link, h'.zones.trans h.zones,
    h'.slices.trans h.slices, ⟨k', by rw [settings', settings]⟩, h'.next.trans h.next⟩

theorem reclaim_roomed (s : State) : Roomed s (reclaim s) := by
  unfold reclaim
  split
  · exact .refl s
  · split
    · exact .refl s
    · exact ⟨rfl, rfl, rfl, rfl, rfl, rfl, ⟨_, rfl⟩, rfl⟩

theorem applyPending_settings (s : State) : ∃ k, (applyPending s).settings = { s.settings with knife := k } := by
  obtain ⟨same, _⟩ | ⟨k, _, _, applied⟩ := applyPending_cases s
  · exact ⟨s.settings.knife, by rw [same]⟩
  · exact ⟨k, by rw [applied]; rfl⟩

theorem tryDone_settings (n : Num) (s : State) : ∃ k, (tryDone n s).settings = { s.settings with knife := k } := by
  unfold tryDone
  split
  · split
    · exact applyPending_settings _
    · exact ⟨_, rfl⟩
  · exact ⟨_, rfl⟩

theorem tryDone_next (n : Num) (s : State) : (tryDone n s).hides.nextNumber = s.hides.nextNumber := by
  unfold tryDone
  split
  · split
    · rw [becomeDone_hides]
    · rfl
  · rfl

theorem endAt_roomed (n e : Num) (forced : Bool) (s : State) : Roomed s (endAt n e forced s) where
  feed := endAt_feed ..
  intake := endAt_intake ..
  ctl := endAt_ctl ..
  link := endAt_link ..
  zones := endAt_zones ..
  slices := endAt_slices s
  settings := by
    rw [endAt_eq]
    have settings := tryDone_settings n (raiseLineIf forced .forcedEnd (updRecords (HideRecord.endedIf n e forced) s))
    rwa [raiseLineIf_settings] at settings
  next := by
    rw [endAt_eq, tryDone_next, raiseLineIf_hides]
    rfl

/-- What the hides lose to a reclaim: the head of the completion order list (R48). -/
theorem reclaim_head {rest : List Num} (full : 8 ≤ s.hides.records.length) (list : s.hides.completion = n :: rest) :
    (reclaim s).hides = { (s.hides.leave n).free n with reclaimed := bump s.hides.reclaimed } ∧
      (reclaim s).line.notices &&& LineNotice.reportLost.bit = LineNotice.reportLost.bit := by
  have eq : reclaim s = raiseLine .reportLost
      { s with hides := { (s.hides.leave n).free n with reclaimed := bump s.hides.reclaimed } } := by
    unfold reclaim
    rw [if_neg (by rw [Config.hideRecords]; omega), list]
  rw [eq]
  exact ⟨rfl, raised_bit _ _⟩

theorem reclaim_free (free : s.hides.records.length < 8) : reclaim s = s := by
  rw [reclaim, Config.hideRecords, if_pos free]

theorem findHide_filter (records : t.hides.records = s.hides.records.filter (·.number ≠ n)) (m : Num) :
    findHide t m = if m = n then none else findHide s m := by
  rw [findHide, records, List.find?_filter]
  by_cases same : m = n
  · subst same
    rw [if_pos rfl, List.find?_eq_none]
    simp
  · rw [if_neg same, findHide]
    refine congrArg (fun p => s.hides.records.find? p) (funext fun q => ?_)
    by_cases named : q.number = m <;> simp [named, same]

/-- A number that is not the head of the completion order list names the same record after a reclaim. -/
theorem findHide_reclaim (other : 8 ≤ s.hides.records.length → ∀ m ∈ s.hides.completion.head?, n ≠ m) :
    findHide (reclaim s) n = findHide s n := by
  by_cases free : s.hides.records.length < 8
  · rw [reclaim_free free]
  · cases list : s.hides.completion with
    | nil => rw [reclaim, Config.hideRecords, if_neg free, list]
    | cons m rest =>
      rw [findHide_filter (n := m) (s := s) (by rw [(reclaim_head (by omega) list).1]; rfl),
        if_neg (other (by omega) m (by rw [list]; rfl))]

/-! ## The fill (R46) -/

theorem findHide_fill {edge : Option Pos} (other : n ≠ m.hides.nextNumber) :
    findHide (fillRecord e tag edge m) n = findHide m n := by
  rw [findHide, (fillRecord_table e tag edge m).1, List.find?_append, List.find?_cons_of_neg, List.find?_nil,
    Option.or_none]
  · rfl
  · simpa using Ne.symm other

theorem findHide_filled {edge : Option Pos} (fresh : ∀ q ∈ m.hides.records, q.number ≠ m.hides.nextNumber) :
    findHide (fillRecord e tag edge m) m.hides.nextNumber = some (filledRecord e tag edge m) := by
  rw [findHide, (fillRecord_table e tag edge m).1, List.find?_append,
    List.find?_eq_none.mpr (fun q held => by simpa using fresh q held), List.find?_cons_of_pos (by simp)]
  rfl

theorem openHide_filled {edge : Option Pos} (noneOpen : NoneOpen m) :
    openHide (fillRecord e tag edge m) = some (filledRecord e tag edge m) := by
  rw [openHide, (fillRecord_table e tag edge m).1, List.find?_append,
    List.find?_eq_none.mpr (fun q held => by simp [noneOpen q held]), List.find?_cons_of_pos]
  · rfl
  · rw [filledRecord_state]
    rfl

theorem fillRecord_raises {edge : Option Pos}
    (edges : (filledRecord e tag edge m).flags.noEdge || (filledRecord e tag edge m).flags.edgeMismatch) :
    (fillRecord e tag edge m).line.notices &&& LineNotice.edge.bit = LineNotice.edge.bit := by
  rw [fillRecord_eq, edges]
  exact raised_bit _ _

/-- The next hide number after a fill (R46). -/
theorem fillRecord_next {edge : Option Pos} (sound : HideTableSound m) (free : m.hides.records.length < 8) :
    let t := fillRecord e tag edge m
    ∃ k, k ≤ 7 ∧ t.hides.nextNumber = nextNumberAfter^[k + 1] m.hides.nextNumber ∧
      (∀ j, j < k → ∃ q ∈ t.hides.records, q.number = nextNumberAfter^[j + 1] m.hides.nextNumber) ∧
      ∀ q ∈ t.hides.records, q.number ≠ t.hides.nextNumber := by
  have filled : (fillRecord e tag edge m).hides = m.hides.fill (filledRecord e tag edge m) := fillRecord_hides e tag edge m
  have eight : (m.hides.records ++ [filledRecord e tag edge m]).length ≤ 8 := by
    rw [List.length_append, List.length_singleton]
    omega
  obtain ⟨_, _, _, positive, _, _, _⟩ := sound
  obtain ⟨k, few, next, passed⟩ := advanceNumber_passes
    (inUse := (m.hides.records ++ [filledRecord e tag edge m]).map HideRecord.number) (n := m.hides.nextNumber)
    (by rwa [List.length_map]) positive (by simp)
  have fresh := advanceNumber_fresh (inUse := (m.hides.records ++ [filledRecord e tag edge m]).map HideRecord.number)
    (by rwa [List.length_map]) (nextNumberAfter_ne_zero m.hides.nextNumber)
  dsimp only
  rw [filled]
  simp only [HideTable.fill, filledRecord_number]
  refine ⟨k, few, next, fun j below => ?_, fun q held same => fresh ?_⟩
  · obtain ⟨q, held, number⟩ := List.mem_map.mp (passed j below)
    exact ⟨q, held, number⟩
  · rw [← same]
    exact List.mem_map_of_mem held

/-! ## ANNOUNCE (R47 to R51) -/

/-- Room is made by replacing the open hide, or by ending it and reclaiming a finished record (R48, R49). -/
theorem madeRoom_cases (e : Entry) (s : State) :
    (∃ o, openHide s = some o ∧ replaces e.num o = true ∧ madeRoom e s = { s with hides := s.hides.free o.number } ∧
        edgeFor e s = o.edge) ∨
      (∀ o ∈ openHide s, replaces e.num o = false) ∧ ∃ v, madeRoom e s = consumeCapture (reclaim v) ∧
        edgeFor e s = s.feed.capture ∧ Roomed s v ∧
        (openHide s = none ∧ v = s ∨ ∃ o, openHide s = some o ∧ v = endAt o.number (e.num - 1) true s) := by
  unfold madeRoom edgeFor
  cases found : openHide s with
  | none => exact .inr ⟨by simp, s, rfl, congrArg Feed.capture (reclaim_roomed s).feed, .refl s, .inl ⟨rfl, rfl⟩⟩
  | some o =>
    cases replaced : replaces e.num o with
    | true => exact .inl ⟨o, rfl, replaced, by simp [replaced], by simp [replaced]⟩
    | false =>
      have ended := endAt_roomed o.number (e.num - 1) true s
      refine .inr ⟨by simpa using replaced, endAt o.number (e.num - 1) true s, by simp [replaced], ?_, ended,
        .inr ⟨o, rfl, rfl⟩⟩
      have feed := (ended.trans (reclaim_roomed _)).feed
      dsimp only
      rw [replaced, if_neg (by simp)]
      exact congrArg Feed.capture feed

/-- But for the feed unit's capture slot, room is made in the hides alone. -/
theorem madeRoom_roomed (e : Entry) (s : State) : Roomed s { madeRoom e s with feed := s.feed } := by
  obtain ⟨o, _, _, room, _⟩ | ⟨_, v, room, _, roomed, _⟩ := madeRoom_cases e s
  · rw [room]
    exact ⟨rfl, rfl, rfl, rfl, rfl, rfl, ⟨_, rfl⟩, rfl⟩
  · rw [room]
    obtain ⟨_, intake, ctl, link, zones, slices, settings, next⟩ := roomed.trans (reclaim_roomed v)
    exact ⟨rfl, intake, ctl, link, zones, slices, settings, next⟩

/-- The open hide that a new one replaces (R49). -/
def replacedHide (f : Num) (s : State) : Option HideRecord := (openHide s).filter fun o => !older o.first.num f

theorem replacedHide_some {o : HideRecord} (isOpen : openHide s = some o) (replaced : replaces f o = true) :
    replacedHide f s = some o := by
  rw [replacedHide, isOpen, Option.filter_some]
  exact if_pos replaced

theorem replacedHide_none (kept : ∀ o ∈ openHide s, replaces f o = false) : replacedHide f s = none := by
  unfold replacedHide
  cases isOpen : openHide s with
  | none => rfl
  | some o => rw [Option.filter_some, if_neg (by simpa [replaces, atOrOlder] using kept o isOpen)]

theorem refuseAnnounce_profile (profile : s.ctl.strap = .profile) (st : Status) : refuseAnnounce st s =
    answerGauge 0x02 st (be16 0) { s with intake := { s.intake with
      notices := s.intake.notices ||| GaugeNotice.hideRefused.bit
      refusedAnnounce := min 65535 (s.intake.refusedAnnounce + 1) } } := by
  simp only [refuseAnnounce, raiseGauge_eq, profile, if_true, bump_eq]

theorem claimedByEnded_iff : claimedByEnded f s = true ↔ ∃ r ∈ s.hides.records,
    (r.state = .scanned ∨ r.state = .splitting) ∧ ∃ l ∈ r.last, older l f = false := by
  rw [claimedByEnded, List.any_eq_true]
  refine exists_congr fun r => and_congr_right fun _ => ?_
  rw [Bool.and_eq_true, Bool.or_eq_true, decide_eq_true_eq, decide_eq_true_eq]
  refine and_congr_right fun _ => ?_
  cases r.last <;> simp [atOrOlder]

theorem recordAvailable_eq_false_iff : recordAvailable f s = false ↔ 8 ≤ s.hides.records.length ∧
    s.hides.completion = [] ∧ ∀ o ∈ openHide s, older o.first.num f = true := by
  simp only [recordAvailable, Bool.or_eq_false_iff, decide_eq_false_iff_not, not_lt, Bool.not_eq_eq_eq_not,
    Bool.not_false, List.isEmpty_iff, and_assoc]
  refine and_congr_right fun _ => and_congr_right fun _ => ?_
  cases openHide s <;> simp [replaces, atOrOlder]

theorem find?_strobe {l : List Entry} (held : e ∈ l) : ∃ d, l.find? (fun x => x.num = e.num) = some d :=
  Option.isSome_iff_exists.mp (List.find?_isSome.mpr ⟨e, held, decide_eq_true rfl⟩)

theorem completion_of_full (full : 8 ≤ s.hides.records.length) (available : recordAvailable f s = true)
    (kept : ∀ o ∈ openHide s, replaces f o = false) : ∃ n, s.hides.completion.head? = some n := by
  cases list : s.hides.completion with
  | cons n rest => exact ⟨n, rfl⟩
  | nil =>
    have refused : recordAvailable f s = false := recordAvailable_eq_false_iff.mpr ⟨full, list, fun o isOpen => by
      simpa [replaces, atOrOlder] using kept o isOpen⟩
    simp [refused] at available

theorem endAt_head {k : Num} {forced : Bool} {m : Num} (first : s.hides.completion.head? = some m) :
    (endAt n k forced s).hides.completion.head? = some m := by
  obtain ⟨behind, list⟩ := endAt_completion n k forced s
  rw [← list, List.head?_append, first]
  rfl

/-- What a hide that gives way to a new one becomes: one replaced leaves the table, one ended stays (R49). -/
theorem madeRoom_openHide {o : HideRecord} (sound : HideTableSound s) (available : recordAvailable e.num s = true)
    (isOpen : openHide s = some o) :
    if replacedHide e.num s = none then ∃ q, findHide (madeRoom e s) o.number = some q ∧ q.last = some (e.num - 1) ∧
      q.flags.forcedEnd = true ∧ (q.state = (if o.state = .scanning then .scanned else .splitting) ∨ q.state = .done)
    else findHide (madeRoom e s) o.number = none := by
  obtain ⟨held, opened⟩ := openHide_mem isOpen
  obtain ⟨o', isOpen', replaced, room, _⟩ | ⟨kept, v, room, _, _, ⟨none, _⟩ | ⟨o', isOpen', rfl⟩⟩ := madeRoom_cases e s
  · obtain rfl : o' = o := Option.some.inj (isOpen'.symm.trans isOpen)
    rw [replacedHide_some isOpen replaced, if_neg (by simp), room]
    rw [findHide_filter (n := o'.number) (s := s) rfl, if_pos rfl]
  · simp [none] at isOpen
  · obtain rfl : o' = o := Option.some.inj (isOpen'.symm.trans isOpen)
    rw [replacedHide_none kept, if_pos rfl]
    have ended := findHide_endAt (e := e.num - 1) (forced := true) (findHide_of_mem sound.distinct held)
    have other : 8 ≤ (endAt o'.number (e.num - 1) true s).hides.records.length →
        ∀ m ∈ (endAt o'.number (e.num - 1) true s).hides.completion.head?, o'.number ≠ m := by
      rw [endAt_records_length]
      intro full m head same
      obtain ⟨n, first⟩ := completion_of_full full available kept
      rw [endAt_head first, Option.mem_some] at head
      have listed : o'.number ∈ s.hides.completion := same.trans head.symm ▸ List.mem_of_head? first
      have finished := sound.finished_of_mem listed held rfl
      rw [HideState.unfinished_of_isOpen opened] at finished
      simp at finished
    have stays : findHide (madeRoom e s) o'.number = some (o'.endedAt (e.num - 1) true) := by
      rw [room]
      exact (findHide_reclaim other).trans ended
    obtain ⟨_, _, _, flags⟩ := o'.endedAt_rest (e := e.num - 1) (forced := true)
    refine ⟨_, stays, HideRecord.endedAt_last, by rw [flags]; exact Bool.or_true _, ?_⟩
    rw [HideRecord.endedAt_state opened]
    split
    · exact .inl rfl
    · split
      · exact .inr rfl
      · exact .inl rfl

theorem endAt_reclaimed {k : Num} {forced : Bool} : (endAt n k forced s).hides.reclaimed = s.hides.reclaimed := by
  rw [endAt_eq, tryDone]
  split
  · split
    · rw [becomeDone_hides, raiseLineIf_hides]
      rfl
    · rw [raiseLineIf_hides]
      rfl
  · rw [raiseLineIf_hides]
    rfl

theorem reclaim_oldest (full : s.hides.records.length = 8) (first : s.hides.completion.head? = some n) :
    findHide (consumeCapture (reclaim s)) n = none ∧
      (consumeCapture (reclaim s)).hides.reclaimed = min 65535 (s.hides.reclaimed + 1) ∧
      (consumeCapture (reclaim s)).line.notices &&& LineNotice.reportLost.bit = LineNotice.reportLost.bit := by
  obtain ⟨rest, list⟩ := List.head?_eq_some_iff.mp first
  obtain ⟨hides, raised⟩ := reclaim_head (by omega) list
  have left : (consumeCapture (reclaim s)).hides = { (s.hides.leave n).free n with reclaimed := bump s.hides.reclaimed } :=
    hides
  refine ⟨(findHide_filter (n := n) (s := s) ?_ n).trans (if_pos rfl), ?_, raised⟩
  · rw [left]
    rfl
  · rw [left]
    rfl

/-- With no FREE record and none replaced, the oldest finished record is reclaimed (R48). -/
theorem madeRoom_reclaims (available : recordAvailable e.num s = true) (none : replacedHide e.num s = none)
    (full : s.hides.records.length = 8) : ∃ n, s.hides.completion.head? = some n ∧
      findHide (madeRoom e s) n = Option.none ∧ (madeRoom e s).hides.reclaimed = min 65535 (s.hides.reclaimed + 1) ∧
      (madeRoom e s).line.notices &&& LineNotice.reportLost.bit = LineNotice.reportLost.bit := by
  obtain ⟨o, isOpen, replaced, _⟩ | ⟨kept, v, room, _, _, ⟨_, rfl⟩ | ⟨o, isOpen, rfl⟩⟩ := madeRoom_cases e s
  · simp [replacedHide_some isOpen replaced] at none
  · obtain ⟨n, first⟩ := completion_of_full full.ge available kept
    exact ⟨n, first, room ▸ reclaim_oldest full first⟩
  · obtain ⟨n, first⟩ := completion_of_full full.ge available kept
    have oldest := reclaim_oldest (s := endAt o.number (e.num - 1) true s) (by rw [endAt_records_length, full])
      (endAt_head first)
    rw [endAt_reclaimed, ← room] at oldest
    exact ⟨n, first, oldest⟩

theorem madeRoom_feed (e : Entry) (s : State) : (madeRoom e s).feed =
      (if (replacedHide e.num s).isSome then s.feed else { s.feed with capture := none, overwrite := false }) ∧
    edgeFor e s = (match replacedHide e.num s with | some o => o.edge | none => s.feed.capture) := by
  obtain ⟨o, isOpen, replaced, room, edge⟩ | ⟨kept, v, room, edge, roomed, _⟩ := madeRoom_cases e s
  · rw [room, edge, replacedHide_some isOpen replaced]
    exact ⟨rfl, rfl⟩
  · rw [room, edge, replacedHide_none kept]
    refine ⟨?_, rfl⟩
    rw [consumeCapture, (roomed.trans (reclaim_roomed v)).feed]
    rfl

theorem fillRecord_frame (e : Entry) (tag : Num) (edge : Option Pos) (s : State) :
    (fillRecord e tag edge s).feed = s.feed ∧ (fillRecord e tag edge s).intake = s.intake ∧
      (fillRecord e tag edge s).ctl = s.ctl ∧ (fillRecord e tag edge s).link = s.link ∧
      (fillRecord e tag edge s).track = s.track := by
  rw [fillRecord_eq]
  simp

theorem fillRecord_keeps (e : Entry) (tag : Num) (edge : Option Pos) (s : State) :
    Keeps s.line.notices (fillRecord e tag edge s).line.notices := by
  rw [fillRecord_eq]
  unfold raiseLineIf
  split
  · exact .or _ _
  · exact .refl _

/-- Settles O53: an ANNOUNCE that passes the checks makes room and fills a record; any other is refused. -/
theorem announceOpensAHideOrIsRefused : Obligations.AnnounceOpensAHideOrIsRefused := by
  refine ⟨fun a b => decide_eq_true_iff, fun f tag s => ⟨fun fixed => ?_, fun profile st refused => ?refused,
    fun sound profile issuing issued unclaimed room e found => ?taken⟩⟩
  · simp [exec, execAnnounce, fixed, refuseAnnounce, raiseGauge]
  case refused =>
    have run : exec (.announce f tag) s = .next (announce f tag s) := by simp only [exec, execAnnounce, profile]
    rw [run, ← refuseAnnounce_profile profile]
    congr 1
    rcases refused with ⟨rfl, quiet⟩ | ⟨issuing, ⟨rfl, future⟩ | ⟨⟨newest, named, known⟩, ⟨rfl, gone⟩ |
      ⟨⟨e, held, rfl⟩, ⟨rfl, claimed⟩ | ⟨rfl, unclaimed, full⟩⟩⟩⟩
    · simp [announce, quiet]
    · cases newest : s.feed.newest with
      | none => simp [announce, issuing, newest]
      | some n => simp [announce, issuing, newest, future n newest]
    · have missing : s.intake.list.find? (fun e => e.num = f) = none := by simpa [List.find?_eq_none] using gone
      simp [announce, issuing, Option.mem_def.mp named, known, missing]
    · obtain ⟨d, found⟩ := find?_strobe held
      simp [announce, issuing, Option.mem_def.mp named, known, found, claimedByEnded_iff.mpr claimed]
    · obtain ⟨d, found⟩ := find?_strobe held
      have unclaimed : claimedByEnded e.num s = false := Bool.eq_false_iff.mpr fun c => unclaimed (claimedByEnded_iff.mp c)
      simp [announce, issuing, Option.mem_def.mp named, known, found, unclaimed, recordAvailable_eq_false_iff.mpr full]
  case taken =>
    obtain ⟨newest, named, known⟩ := issued
    obtain rfl : e.num = f := by simpa using List.find?_some found
    have unclaimed : claimedByEnded e.num s = false := Bool.eq_false_iff.mpr fun c => unclaimed (claimedByEnded_iff.mp c)
    have available : recordAvailable e.num s = true := by
      rw [← Bool.not_eq_false, recordAvailable_eq_false_iff]
      exact room
    have run : exec (.announce e.num tag) s = .next (answerGauge 0x02 .ok (be16 s.hides.nextNumber)
        (fillRecord e tag (edgeFor e s) (madeRoom e s))) := by
      simp [exec, execAnnounce, profile, announce, issuing, Option.mem_def.mp named, known, found, unclaimed, available,
        openNew_eq]
    obtain ⟨soundM, free, noneOpen⟩ := madeRoom_sound sound available
    have feed := madeRoom_feed e s
    have room := madeRoom_roomed e s
    have replaced := fun o => madeRoom_openHide (e := e) (o := o) sound available
    have reclaims := madeRoom_reclaims (e := e) available
    have fresh := soundM.fresh
    generalize edgeFor e s = edge, madeRoom e s = m at run soundM free noneOpen feed room replaced reclaims fresh
    obtain ⟨_, intake, ctl, link, zones, slices, ⟨k, settings⟩, next⟩ := room
    dsimp only at intake ctl link zones slices settings next
    obtain ⟨feed, edgeIs⟩ := feed
    have filled := filledRecord_filledAs e tag edge m
    have named : findHide (fillRecord e tag edge m) s.hides.nextNumber = some (filledRecord e tag edge m) := by
      rw [← next]
      exact findHide_filled fresh
    have passes := fillRecord_next (e := e) (tag := tag) (edge := edge) soundM free
    have others : ∀ n, n ∈ s.hides.records.map HideRecord.number →
        findHide (fillRecord e tag edge m) n = findHide m n := fun n held => by
      obtain ⟨q, there, rfl⟩ := List.mem_map.mp held
      exact findHide_fill fun same => sound.fresh q there (same.trans next)
    obtain ⟨tagIs, state, cause, row, article, taken, first, last, range, entered, measured, flags⟩ := filled
    have current : m.settings.current = s.settings.current := by rw [settings]
    have flags : (filledRecord e tag edge m).flags = edgeFlags e edge s :=
      flags.trans (by simp only [edgeFlags, settings])
    have taken := taken.trans edgeIs
    have flags := flags.trans (congrArg (edgeFlags e · s) edgeIs)
    obtain ⟨feedT, intakeT, ctlT, linkT, trackT⟩ := fillRecord_frame e tag edge m
    refine ⟨_, filledRecord e tag edge m, run, rfl, ?_, ?_, ?_, ?_, ?_, named, openHide_filled noneOpen,
      (filledRecord_number ..).trans next, tagIs, state,
      cause, row.trans current, fun a article' => ?_, taken, first, last, range, entered.1, entered.2.1, entered.2.2.1,
      entered.2.2.2.1, entered.2.2.2.2, measured.1, measured.2.1, measured.2.2.1, measured.2.2.2.1, measured.2.2.2.2, flags,
      fillRecord_raises, ?_, fun o replaces => ?_, fun o isOpen none => ?_, ?_, fun none full => ?_⟩
    · exact (congrArg Intake.list (intakeT.trans intake) :)
    · exact (congrArg Track.slices trackT).trans slices
    · exact ctlT.trans ctl
    · exact linkT.trans link
    · exact feedT.trans feed
    · rw [article, settings, List.getD_eq_getElem?_getD, article', Option.getD_some]
    · have bases : (fillRecord e tag edge m).zones = m.zones.map (fun c =>
          { c with base := c.base.filter fun b => b.hide ≠ (filledRecord e tag edge m).number }) := by
        rw [fillRecord_eq, raiseLineIf_zones]
      rw [zones, filledRecord_number, next] at bases
      exact bases
    · have isOpen : openHide s = some o := (Option.filter_eq_some_iff.mp replaces).1
      have gone := replaced o isOpen
      have there : replacedHide e.num s = some o := replaces
      rw [there, if_neg (by simp)] at gone
      exact (others o.number (List.mem_map_of_mem (openHide_mem isOpen).1)).trans gone
    · obtain ⟨q, found, ended⟩ := by
        have stays := replaced o isOpen
        rwa [if_pos (show replacedHide e.num s = Option.none from none)] at stays
      exact ⟨q, (others o.number (List.mem_map_of_mem (openHide_mem isOpen).1)).trans found, ended⟩
    · have after : (fun m : BitVec 16 => if m = 65535 then 1 else m + 1) = nextNumberAfter := rfl
      rw [after, ← next]
      exact passes
    · obtain ⟨n, first, gone, counted, raised⟩ := reclaims none full
      have listed := sound.mem_completion.mp (List.mem_of_head? first)
      obtain ⟨q, held, rfl, _⟩ := listed
      refine ⟨_, first, (others _ (List.mem_map_of_mem held)).trans gone, ?_, (fillRecord_keeps e tag edge m).raised raised⟩
      exact (congrArg HideTable.reclaimed (fillRecord_hides e tag edge m)).trans counted

end Sys2Proof.Machine

/-! PROOFS. The knife crossing (O38). -/

namespace Sys2Proof.Machine

variable {s t u : State} {r q : HideRecord} {sl : Slice} {rest : List Slice}

/-! ## Counts (R58) -/

theorem addCounts_getElem? (f : ZoneResult → ZoneCounts → ZoneCounts) (xs : List ZoneResult) (cs : List ZoneCounts) {z : Nat}
    {x : ZoneResult} {c : ZoneCounts} (given : xs[z]? = some x) (held : cs[z]? = some c) : (addCounts f xs cs)[z]? = some (f x c) := by
  induction cs generalizing xs z with
  | nil => simp at held
  | cons d ds ih =>
    cases xs with
    | nil => simp at given
    | cons y ys =>
      cases z with
      | zero =>
        simp only [List.getElem?_cons_zero, Option.some.injEq] at given held
        subst given held
        rfl
      | succ z => exact ih ys given held

theorem addOutcome_eq (p : Progress) (c : ZoneCounts) : c.addOutcome p.outcome = { c with
    onTime := if p = .complete then min 65535 (c.onTime + 1) else c.onTime
    late := if p = .waiting ∨ p = .sent ∨ p = .timedOut ∨ p = .ended then min 65535 (c.late + 1) else c.late
    skipped := if p = .skipped then min 65535 (c.skipped + 1) else c.skipped
    held := if p = .held then min 65535 (c.held + 1) else c.held
    notTrack := if p = .notTrack then min 65535 (c.notTrack + 1) else c.notTrack } := by
  cases p <;> rfl

/-! ## The slice retires (R76, R77) -/

/-- The state in which the hide of a retired slice is tested for its end. -/
def passed (sl : Slice) (rest : List Slice) (s : State) : State :=
  detach (fun r => sl.isFor r)
    { s with hides := s.hides.upd (HideRecord.pass sl) sl.hide, track := { s.track with slices := rest } }

theorem riseKnife_stays (before : ∀ sl ∈ s.track.slices.head?, ¬ AtKnifePoint sl.pos s) : riseKnife s = s := by
  unfold riseKnife
  split
  · rfl
  case h_2 sl rest slices =>
    rw [if_neg]
    rw [knifeReached_iff]
    exact before sl (by simp [slices])

theorem riseKnife_retires (slices : s.track.slices = sl :: rest) (reached : AtKnifePoint sl.pos s) :
    riseKnife s = tryDone sl.hide (passed sl rest s) := by
  unfold riseKnife
  rw [slices]
  dsimp only
  rw [if_pos (knifeReached_iff .. |>.mpr reached), retire_eq]
  rfl

theorem findHide_passed (found : findHide s sl.hide = some r) :
    findHide (passed sl rest s) sl.hide = some (r.pass sl) := by
  rw [findHide_map (s := s) (t := passed sl rest s) (f := fun q => if q.number = sl.hide then q.pass sl else q) rfl, found,
    Option.map_some, if_pos (findHide_mem found).2]
  intro q
  split <;> rfl

theorem passed_converting (converts : anyConverting s = true) : anyConverting (passed sl rest s) = true := by
  obtain ⟨q, held, converting⟩ := List.any_eq_true.mp converts
  refine List.any_eq_true.mpr ⟨_, List.mem_map_of_mem held, ?_⟩
  split <;> exact converting

theorem tryDone_others {n : Num} (held : q ∈ s.hides.records) (other : q.number ≠ n) : q ∈ (tryDone n s).hides.records := by
  obtain same | done := tryDone_records n s
  · rwa [same]
  · rw [done]
    have stays : q.doneIf n = q := by rw [HideRecord.doneIf, if_neg other]
    exact stays ▸ List.mem_map_of_mem held

theorem becomeDone_raises (n : Num) (s : State) :
    (becomeDone n s).line.notices &&& LineNotice.hideDone.bit = LineNotice.hideDone.bit :=
  (applyPending_notices _).1.raised (raised_bit _ _)

/-- Settles O38: the head slice retires into its record, which becomes DONE with its last slice. -/
theorem knifeCrossingRetiresTheHeadSlice : Obligations.KnifeCrossingRetiresTheHeadSlice := by
  refine ⟨fun s => riseKnife_stays, fun s sl rest r slices reached found => ?_⟩
  rw [riseKnife_retires slices reached]
  have held : findHide (passed sl rest s) sl.hide = some (r.pass sl) := findHide_passed found
  have zones : (tryDone sl.hide (passed sl rest s)).zones = s.zones.map (Channel.detach fun i => sl.isFor i) :=
    tryDone_zones ..
  refine ⟨tryDone_slices .., tryDone_feed .., tryDone_intake .., tryDone_ctl .., fun converts =>
    tryDone_waitsOrApplied rfl rfl (passed_converting converts), fun c there => ?_, ?_, (r.pass sl).ifDone,
    findHide_tryDone held, ?_⟩
  · rw [zones] at there
    obtain ⟨slot, flight⟩ := refsAll_detached (fun i => sl.isFor i) s.zones c there
    have apart : ∀ i : SliceRef, sl.isFor i = false → ¬ (i.strobe = sl.strobe ∧ i.hide = sl.hide) := fun i kept named => by
      simp [Slice.isFor, named.1, named.2] at kept
    exact ⟨fun x waits i names => apart i (slot x waits i names), fun m moves i names => apart i (flight m moves i names)⟩
  · rw [zones, gaps_detached]
  have counts : ∀ (z : Nat) (o : ZoneResult) (c : ZoneCounts), sl.results[z]? = some o → r.counts[z]? = some c →
      (r.pass sl).counts[z]? = some _ := fun z o c given counted =>
    (addCounts_getElem? (fun x c => c.addOutcome x.progress.outcome) sl.results r.counts given counted).trans
      (congrArg some (addOutcome_eq o.progress c))
  have others : ∀ q ∈ s.hides.records, q.number ≠ sl.hide →
      q ∈ (tryDone sl.hide (passed sl rest s)).hides.records := fun q there other =>
    tryDone_others (List.mem_map.mpr ⟨q, there, if_neg other⟩) other
  have finished := HideRecord.finished_iff (r := r.pass sl)
  cases done : (r.pass sl).finished with
  | true =>
    have ends := finished.mp done
    have eq := tryDone_done held done
    rw [HideRecord.ifDone, if_pos done]
    refine ⟨rfl, rfl, rfl, rfl, others, ?_, counts⟩
    rw [eq]
    exact (if_pos ends).mpr ⟨rfl, rfl, by rw [becomeDone_hides]; rfl, becomeDone_raises _ _⟩
  | false =>
    have goesOn := (not_congr finished).mp (by simp [done])
    have eq := tryDone_stays held done
    rw [HideRecord.ifDone, if_neg (by simp [done])]
    refine ⟨rfl, rfl, rfl, rfl, others, ?_, counts⟩
    rw [eq]
    exact (if_neg goesOn).mpr ⟨rfl, rfl, rfl, rfl⟩

end Sys2Proof.Machine

/-! PROOFS. The lead crossing of the oldest slice in ENTERED (O36). -/

namespace Sys2Proof.Machine

variable {s t u : State} {r : HideRecord} {sl x : Slice} {i : SplitInput} {z : Nat}

/-! ## The result of one zone (R89, R91, R98) -/

theorem SplitInput.thicknesses_eq_nil_iff : i.thicknesses = [] ↔ i.presentZones = [] := by
  rw [thicknesses, presentZones, List.filterMap_eq_nil_iff, List.filter_eq_nil_iff]
  simp

/-- A zone out of TRACK has no result, one without a thickness to go by is HELD, and any other has its target. -/
theorem SplitInput.zone_cases (below : z < i.active) :
    (i.channel z).mode ≠ .track ∧ i.zone z = .without .notTrack ∨
      (i.channel z).mode = .track ∧ (i.thicknesses = [] ∨ i.reading z = .doubtful) ∧ i.zone z = .without .held ∨
      (i.channel z).mode = .track ∧ ¬ (i.thicknesses = [] ∨ i.reading z = .doubtful) ∧
        ∃ g extended res, i.zone z = i.deliver z g extended res := by
  by_cases track : (i.channel z).mode = .track
  · refine .inr ?_
    by_cases empty : i.presentZones = []
    · exact .inl ⟨track, .inl (thicknesses_eq_nil_iff.mpr empty), zone_empty track empty⟩
    · have measured : i.thicknesses ≠ [] := fun none => empty (thicknesses_eq_nil_iff.mp none)
      cases reading : i.reading z with
      | doubtful => exact .inl ⟨track, .inr rfl, zone_doubtful track reading⟩
      | thickness t =>
        exact .inr ⟨track, by simp [measured], _, _, _, zone_present track below reading⟩
      | absent =>
        obtain ⟨d, donor⟩ : ∃ d, nearest z i.presentZones = some d := by
          cases zones : i.presentZones with
          | nil => exact absurd zones empty
          | cons d rest =>
            unfold nearest
            split
            · exact ⟨_, rfl⟩
            · split <;> exact ⟨_, rfl⟩
        obtain ⟨t, belowD, present⟩ := mem_presentZones.mp (nearest_mem donor)
        exact .inr ⟨track, by simp [measured], _, _, _, zone_borrows track reading donor belowD present⟩
  · exact .inl ⟨track, zone_out track⟩

theorem SplitInput.run_getElem? {o : ZoneSplit} (given : i.run[z]? = some o) : z < i.active ∧ o = i.zone z := by
  simp only [SplitInput.run, List.getElem?_map, Option.map_eq_some_iff] at given
  obtain ⟨y, there, rfl⟩ := given
  obtain ⟨below, rfl⟩ := List.getElem?_eq_some_iff.mp there
  rw [List.length_range] at below
  simp [below]

theorem thicknesses_eq (i : SplitInput) (sl : Slice) (readings : i.readings = sl.readings) :
    i.thicknesses = presentReadings i.active sl := by
  unfold SplitInput.thicknesses presentReadings
  refine List.filterMap_congr fun z held => ?_
  rw [List.mem_range] at held
  rw [SplitInput.present, if_pos held, i.reading_eq, readings, List.getD_eq_getElem?_getD]
  cases (sl.readings.getD [])[z]? with
  | none => rfl
  | some x => cases x <;> rfl

/-! ## The record of a converted slice (R56, R101, R102) -/

theorem foldl_lowest_some (m : Nat) (ts : List Nat) : ts.foldl lowest (some m) = some (ts.foldl min m) := by
  induction ts generalizing m with
  | nil => rfl
  | cons t ts ih => exact ih (min m t)

theorem foldl_lowest (old : Option Nat) (ts : List Nat) : ts.foldl lowest old = (old.toList ++ ts).min? := by
  cases old with
  | some m => exact (foldl_lowest_some m ts).trans List.min?_cons'.symm
  | none =>
    cases ts with
    | nil => rfl
    | cons t ts => exact (foldl_lowest_some t ts).trans List.min?_cons'.symm

theorem foldl_highest_some (m : Nat) (ts : List Nat) : ts.foldl highest (some m) = some (ts.foldl max m) := by
  induction ts generalizing m with
  | nil => rfl
  | cons t ts ih => exact ih (max m t)

theorem foldl_highest (old : Option Nat) (ts : List Nat) : ts.foldl highest old = (old.toList ++ ts).max? := by
  cases old with
  | some m => exact (foldl_highest_some m ts).trans List.max?_cons'.symm
  | none =>
    cases ts with
    | nil => rfl
    | cons t ts => exact (foldl_highest_some t ts).trans List.max?_cons'.symm

theorem afterConversion_eq (h : HideState) : h.afterConversion =
    if h = .scanning then .scanSplit else if h = .scanned then .splitting else h := by cases h <;> rfl

/-! ## The targets of a conversion (R74, R75, R109) -/

theorem deliverTarget_effect (g : Int) (below : z < s.zones.length) : Effect z s (deliverTarget sl z g s)
    { channel s z with
      slot := some { gap := g, cause := .track, ref := some { strobe := sl.strobe, hide := sl.hide } }
      base := some { gap := g, hide := sl.hide } }
    s.line (s.track.slices.map (reported .skipped z (channel s z).slot)) := by
  have placed : Effect z s (place { gap := g, cause := .track, ref := some { strobe := sl.strobe, hide := sl.hide } } z s)
    _ _ _ := replaceSlot_effect _ below
  rw [deliverTarget]
  generalize place _ z s = t at placed
  have based := updChannel_effect (s := t) (fun c => { c with base := some { gap := g, hide := sl.hide } })
    (by rwa [placed.count])
  rw [placed.here, placed.line, placed.slices] at based
  exact placed.trans based

/-- The slices after targets have been placed in the zones that `targets` gives one. -/
def displacedBy (targets : Nat → Option Int) (s : State) (x : Slice) : Slice :=
  { x with results := x.results.mapIdx fun z o =>
      if (targets z).isSome = true ∧ (o.progress = .waiting ∨ o.progress = .sent) ∧
          (∃ x' ∈ (channel s z).slot, ∃ i ∈ x'.ref, x.strobe = i.strobe ∧ x.hide = i.hide)
      then { o with progress := .skipped } else o }

theorem displaced_eq (targets : List (Option Int)) (s : State) :
    displaced targets s = displacedBy (fun z => targets.getD z none) s := rfl

theorem displacedBy_none {targets : Nat → Option Int} (none : ∀ z, targets z = none) : displacedBy targets s x = x := by
  have same : x.results.mapIdx (fun z o =>
      if (targets z).isSome = true ∧ (o.progress = .waiting ∨ o.progress = .sent) ∧
          (∃ x' ∈ (channel s z).slot, ∃ i ∈ x'.ref, x.strobe = i.strobe ∧ x.hide = i.hide)
      then { o with progress := .skipped } else o) = x.results := by
    refine List.ext_getElem? fun j => ?_
    simp [none]
  rw [displacedBy, same]

theorem reported_strobe (p : Progress) (z : Nat) (t : Option Target) (x : Slice) :
    (reported p z t x).strobe = x.strobe ∧ (reported p z t x).hide = x.hide := by
  unfold reported
  split <;> exact ⟨rfl, rfl⟩

/-- The report of one zone, then those of the zones after it. -/
theorem displacedBy_reported {targets : Nat → Option Int} (given : (targets z).isSome = true)
    (others : ∀ y, y ≠ z → channel u y = channel s y) :
    displacedBy (fun y => if y = z then none else targets y) u (reported .skipped z (channel s z).slot x) =
      displacedBy targets s x := by
  have later : ∀ results : List ZoneResult, (∀ j, results[j]? = if j = z then x.results[j]?.map (fun o =>
        if (o.progress = .waiting ∨ o.progress = .sent) ∧
          (∃ x' ∈ (channel s z).slot, ∃ i ∈ x'.ref, x.strobe = i.strobe ∧ x.hide = i.hide)
        then { o with progress := .skipped } else o) else x.results[j]?) →
      displacedBy (fun y => if y = z then none else targets y) u { x with results := results } = displacedBy targets s x := by
    intro results at_
    unfold displacedBy
    congr 1
    refine List.ext_getElem? fun j => ?_
    rw [List.getElem?_mapIdx, List.getElem?_mapIdx, at_]
    by_cases here : j = z
    · subst here
      simp [given, Function.comp_def]
    · simp [here, others j here]
  unfold reported
  split
  case isTrue named =>
    refine later _ fun j => ?_
    rw [updAt_getElem?]
    by_cases here : j = z
    · rw [if_pos here, if_pos here]
      refine Option.map_congr fun o _ => ?_
      simp only [and_iff_left named]
      split <;> rfl
    · rw [if_neg here, if_neg here]
  case isFalse unnamed =>
    refine later x.results fun j => ?_
    by_cases here : j = z
    · rw [if_pos here]
      refine ((Option.map_congr fun o _ => ?_).trans Option.map_id').symm
      rw [if_neg fun both => unnamed both.2]
    · rw [if_neg here]

theorem deliverTarget_track (g : Int) (s : State) : (deliverTarget sl z g s).track =
    { s.track with slices := s.track.slices.map (reported .skipped z (channel s z).slot) } := by
  rw [deliverTarget, updChannel_track, place, setSlot_track, report_track]

theorem deliverTargets_track (sl : Slice) (z : Nat) (rs : List ZoneResult) (s : State) :
    (deliverTargets sl z rs s).track = { s.track with slices := (deliverTargets sl z rs s).track.slices } := by
  have kept := deliverTargets_keeps (fun s => ({ s.track with slices := [] } : Track))
    (fun sl z g s => by rw [deliverTarget_track]) sl z rs s
  generalize (deliverTargets sl z rs s).track = tr at kept
  obtain ⟨slices, knife, read, gap, flushed⟩ := tr
  simp only [Track.mk.injEq, true_and] at kept ⊢
  exact kept

/-- The targets of a conversion go to their zones' slots and bases, and what they replace is reported. -/
theorem deliverTargets_spec {targets : Nat → Option Int} {rs : List ZoneResult} (count : s.zones.length = 16)
    (fits : z + rs.length ≤ 16) (before : ∀ y, y < z → targets y = none)
    (each : ∀ k, targets (z + k) = rs[k]?.bind ZoneResult.target) :
    let t := deliverTargets sl z rs s
    t.track.slices = s.track.slices.map (displacedBy targets s) ∧ t.zones.length = 16 ∧
      ∀ y, channel t y = match targets y with
        | some g => { channel s y with
            slot := some { gap := g, cause := .track, ref := some { strobe := sl.strobe, hide := sl.hide } }
            base := some { gap := g, hide := sl.hide } }
        | none => channel s y := by
  induction rs generalizing z s targets with
  | nil =>
    have none : ∀ y, targets y = Option.none := fun y => by
      by_cases below : y < z
      · exact before y below
      · have given := each (y - z)
        rwa [Nat.add_sub_cancel' (by omega)] at given
    refine ⟨?_, count, fun y => by rw [none]; rfl⟩
    exact (List.map_id'' (fun x => displacedBy_none none) _).symm
  | cons r rest ih =>
    have first : targets z = r.target := each 0
    unfold deliverTargets
    rw [List.length_cons] at fits
    cases target : r.target with
    | none =>
      dsimp only
      refine ih count (by omega) (fun y below => ?_) fun k => ?_
      · by_cases here : y = z
        · rw [here, first, target]
        · exact before y (by omega)
      · have given := each (k + 1)
        rwa [show z + (k + 1) = z + 1 + k by omega] at given
    | some g =>
      have placed := deliverTarget_effect (sl := sl) (s := s) (z := z) g (by omega)
      dsimp only
      generalize deliverTarget sl z g s = u at placed
      have before' : ∀ y, y < z + 1 → (if y = z then Option.none else targets y) = Option.none := fun y below => by
        split
        · rfl
        case isFalse other => exact before y (by omega)
      have each' : ∀ k, (if z + 1 + k = z then Option.none else targets (z + 1 + k)) = rest[k]?.bind ZoneResult.target :=
        fun k => by
          have given := each (k + 1)
          rw [show z + (k + 1) = z + 1 + k by omega] at given
          rw [if_neg (by omega), given]
          rfl
      obtain ⟨slices, zones, channels⟩ := ih (placed.count.trans count) (by omega) before' each'
      have given : (targets z).isSome = true := by rw [first, target]; rfl
      refine ⟨?_, zones, fun y => ?_⟩
      · rw [slices, placed.slices, List.map_map]
        exact List.map_congr_left fun x _ => displacedBy_reported given placed.others
      · rw [channels]
        by_cases here : y = z
        · subst here
          rw [if_pos rfl, first, target]
          exact placed.here
        · rw [if_neg here, placed.others y here]

/-! ## The lead crossing (R72, R73) -/

theorem riseLead_waits (oldest : oldestEntered s = some sl) (before : ¬ AtLeadPoint sl.pos s) : riseLead s = s := by
  rw [riseLead, oldest]
  exact if_neg fun reached => before ((leadReached_iff _ _).mp reached)

theorem riseLead_converts (oldest : oldestEntered s = some sl) (reached : AtLeadPoint sl.pos s) :
    riseLead s = convertSlice sl s := by
  rw [riseLead, oldest]
  exact if_pos ((leadReached_iff _ _).mpr reached)

/-- What a conversion makes of its record (R56). -/
theorem convertSlice_hides (found : findHide s sl.hide = some r) : (convertSlice sl s).hides =
    s.hides.upd (HideRecord.convert (splitInput sl r s).run (splitInput sl r s).thicknesses
      (areaOf (splitInput sl r s).thicknesses s.settings.geometry)) sl.hide := by
  rw [convertSlice_eq found, deliverTargets_hides]

theorem findHide_upd {f : HideRecord → HideRecord} {n : Num} (hides : t.hides = s.hides.upd f n)
    (number : ∀ q, (f q).number = q.number) (found : findHide s n = some r) : findHide t n = some (f r) := by
  rw [findHide_map (s := s) (f := fun q => if q.number = n then f q else q) (by rw [hides]; rfl), found, Option.map_some,
    if_pos (findHide_mem found).2]
  intro q
  split
  · exact number q
  · rfl

theorem addFlags_eq (f : ZoneFlags) (c : ZoneCounts) : c.addFlags f = { c with
    residual := if f.residual then min 65535 (c.residual + 1) else c.residual
    floor := if f.floor then min 65535 (c.floor + 1) else c.floor
    ceiling := if f.ceiling then min 65535 (c.ceiling + 1) else c.ceiling
    slewed := if f.slewed then min 65535 (c.slewed + 1) else c.slewed
    extended := if f.extended then min 65535 (c.extended + 1) else c.extended } := rfl

/-- The state in which the targets of a conversion are delivered. -/
def convertedState (sl : Slice) (r : HideRecord) (s : State) : State :=
  { s with
    hides := s.hides.upd (HideRecord.convert (splitInput sl r s).run (splitInput sl r s).thicknesses
      (areaOf (splitInput sl r s).thicknesses s.settings.geometry)) sl.hide
    track := convertedTrack sl (splitInput sl r s).run s.track }

/-- The target of each zone, where the conversion gives it one. -/
def targetOf (outs : List ZoneSplit) (z : Nat) : Option Int := (outs.map fun o => o.result.target).getD z none

theorem convertSlice_delivers (found : findHide s sl.hide = some r) (count : s.zones.length = 16)
    (few : s.ctl.activeZones ≤ 16) :
    (convertSlice sl s).track = { s.track with
      slices := (convertedTrack sl (splitInput sl r s).run s.track).slices.map
        (displacedBy (targetOf (splitInput sl r s).run) s) } ∧
    ∀ y, channel (convertSlice sl s) y = match targetOf (splitInput sl r s).run y with
      | some g => { channel s y with
          slot := some { gap := g, cause := .track, ref := some { strobe := sl.strobe, hide := sl.hide } }
          base := some { gap := g, hide := sl.hide } }
      | none => channel s y := by
  have length : (splitInput sl r s).run.length = s.ctl.activeZones := by
    simp [SplitInput.run, splitInput]
  have targets := deliverTargets_spec (sl := sl) (z := 0) (rs := (splitInput sl r s).run.map ZoneSplit.result)
    (targets := targetOf (splitInput sl r s).run) (s := convertedState sl r s) count
    (by rw [List.length_map, length]; omega) nofun (fun k => by
      rw [Nat.zero_add, targetOf, List.getD_eq_getElem?_getD, List.getElem?_map, List.getElem?_map]
      cases (splitInput sl r s).run[k]? <;> rfl)
  have track := deliverTargets_track sl 0 ((splitInput sl r s).run.map ZoneSplit.result) (convertedState sl r s)
  have eq : convertSlice sl s = deliverTargets sl 0 ((splitInput sl r s).run.map ZoneSplit.result)
    (convertedState sl r s) := convertSlice_eq found
  rw [← eq] at targets track
  obtain ⟨slices, _, channels⟩ := targets
  rw [slices] at track
  exact ⟨track, channels⟩

/-- What the results of a conversion say of their zones (R73, R74). -/
theorem SplitInput.zone_says (below : z < i.active) :
    ((i.zone z).result.progress = if (i.channel z).mode ≠ .track then .notTrack
      else if (i.zone z).result.target = none then .held else .waiting) ∧
    ((i.channel z).mode = .track → ((i.zone z).result.target = none ↔ i.thicknesses = [] ∨ i.reading z = .doubtful)) ∧
    ((i.channel z).mode ≠ .track → (i.zone z).result.target = none) ∧
    ((i.zone z).result.target = none → (i.zone z).deviation = 0 ∧ (i.zone z).result.flags =
      { residual := false, floor := false, ceiling := false, slewed := false, extended := false }) := by
  obtain ⟨out, eq⟩ | ⟨track, without, eq⟩ | ⟨track, measured, g, extended, res, eq⟩ := i.zone_cases below
  · rw [eq, if_pos out]
    exact ⟨rfl, fun track => absurd track out, fun _ => rfl, fun _ => ⟨rfl, rfl⟩⟩
  · rw [eq, if_neg (not_not_intro track)]
    exact ⟨rfl, fun _ => ⟨fun _ => without, fun _ => rfl⟩, fun _ => rfl, fun _ => ⟨rfl, rfl⟩⟩
  · rw [eq, if_neg (not_not_intro track)]
    exact ⟨rfl, fun _ => ⟨nofun, fun without => absurd without measured⟩, fun out => absurd track out, nofun⟩

/-- Settles O36: at its lead point the oldest slice in ENTERED is converted, zone by zone. -/
theorem leadCrossingConvertsTheOldestEnteredSlice : Obligations.LeadCrossingConvertsTheOldestEnteredSlice := by
  intro s sl oldest
  refine ⟨riseLead_waits oldest, fun r reached found count few => ?_⟩
  rw [riseLead_converts oldest reached]
  have named := findHide_upd (convertSlice_hides found) (fun _ => rfl) found
  have present : (splitInput sl r s).thicknesses = presentReadings s.ctl.activeZones sl := thicknesses_eq _ sl rfl
  obtain ⟨track, channels⟩ := convertSlice_delivers found count few
  dsimp only
  refine ⟨fun z o given => ?_, convertSlice_feed _ _, convertSlice_intake _ _, convertSlice_ctl _ _, convertSlice_settings _ _,
    convertSlice_line _ _, ?_, ⟨_, named, afterConversion_eq _, rfl, rfl, ?_, ?_, ?_, ?_, fun z o c given counted => ?_⟩,
    fun z small => ?_⟩
  · obtain ⟨below, rfl⟩ := SplitInput.run_getElem? (i := splitInput sl r s) given
    obtain ⟨progress, held, out, without⟩ := SplitInput.zone_says (i := splitInput sl r s) below
    have doubtful : (splitInput sl r s).reading z = .doubtful ↔ (sl.readings.getD [])[z]? = some .doubtful := by
      rw [SplitInput.reading_eq, List.getD_eq_getElem?_getD, show (splitInput sl r s).readings = sl.readings from rfl]
      cases (sl.readings.getD [])[z]? with
      | none => simp
      | some x => simp
    rw [← present, ← doubtful]
    exact ⟨progress, held, out, without⟩
  · rw [track, convertedTrack, List.map_map]
    simp only [Function.comp_def, Bool.and_eq_true, decide_eq_true_eq]
    rfl
  · rfl
  · rw [← present]
    rfl
  · rw [← present]
    exact foldl_lowest _ _
  · rw [← present]
    exact foldl_highest _ _
  · refine (addCounts_getElem? _ _ _ (x := o.result) ?_ counted).trans (congrArg some (addFlags_eq _ c))
    exact (List.getElem?_map ..).trans (congrArg (Option.map ZoneSplit.result) given)
  · have same : targetOf (splitInput sl r s).run z = ((splitInput sl r s).run[z]?).bind fun o => o.result.target := by
      rw [targetOf, List.getD_eq_getElem?_getD, List.getElem?_map]
      cases (splitInput sl r s).run[z]? <;> rfl
    have here := channels z
    rw [same] at here
    change _ ∧ _ ∧ match ((splitInput sl r s).run[z]?).bind (fun o => o.result.target) with
      | some g => _
      | none => _
    cases target : ((splitInput sl r s).run[z]?).bind fun o => o.result.target with
    | none =>
      rw [target] at here
      rw [here]
      exact ⟨rfl, rfl, rfl, rfl⟩
    | some g =>
      rw [target] at here
      rw [here]
      exact ⟨rfl, rfl, rfl, rfl⟩

end Sys2Proof.Machine

/-! PROOFS. The lead crossing of the list's head, and departures (O37). -/

namespace Sys2Proof.Machine

variable {s t u : State} {r q : HideRecord} {sl x : Slice} {e d : Entry} {rest : List Entry} {n : Num}

/-! ## The hide found for a strobe (R33, R67) -/

theorem matches_iff : (r.rangeOpen && r.holds n) = true ↔ Matches r n := by
  rw [Bool.and_eq_true, HideRecord.holds_iff]
  rfl

theorem memberOf_none {records : List HideRecord} (none : memberOf n records = none) : ∀ q ∈ records, ¬ Matches q n := by
  induction records with
  | nil => simp
  | cons r rest ih =>
    unfold memberOf at none
    split at none
    · split at none <;> simp at none
    case h_2 others =>
      split at none
      · simp at none
      case isFalse other => exact List.forall_mem_cons.mpr ⟨fun matching => other (matches_iff.mpr matching), ih others⟩

/-- How far the first strobe of a matching record lies behind the departing strobe. -/
theorem back_of_matches (matching : Matches q n) (apart : n - q.first.num ≠ 32768#16) : (n - q.first.num).toNat < 32768 := by
  have older := matching.2.1
  unfold Machine.older at older
  rw [decide_eq_false_iff_not, BitVec.toInt_eq_toNat_cond] at older
  have other : (n - q.first.num).toNat ≠ 32768 := fun same => apart (BitVec.eq_of_toNat_eq same)
  generalize q.first.num = a at older other
  split at older <;> bv_omega

/-- Of two strobes less than half the number range behind a third, the one further behind is the older (R1). -/
theorem older_iff_back {a b : Num} (nearA : (n - a).toNat < 32768) (nearB : (n - b).toNat < 32768) :
    older a b = true ↔ (n - b).toNat < (n - a).toNat := by
  unfold older
  rw [decide_eq_true_eq, BitVec.toInt_eq_toNat_cond]
  split <;> bv_omega

/-- The record found is the newest of those that match, the later of two that begin alike (R33, log 13). -/
theorem memberOf_some {records : List HideRecord} (found : memberOf n records = some r) : r ∈ records ∧ Matches r n ∧
    ((∀ q ∈ records, Matches q n → n - q.first.num ≠ 32768#16) → ∃ before behind, records = before ++ r :: behind ∧
      (∀ q ∈ before, Matches q n → older r.first.num q.first.num = false) ∧
      ∀ q ∈ behind, Matches q n → older q.first.num r.first.num = true) := by
  induction records generalizing r with
  | nil => simp [memberOf] at found
  | cons p rest ih =>
    unfold memberOf at found
    split at found
    case h_1 q later =>
      obtain ⟨held, matching, order⟩ := ih later
      split at found
      case isTrue newer =>
        obtain rfl := Option.some.inj found
        rw [Bool.and_eq_true, matches_iff] at newer
        obtain ⟨matches', newer⟩ := newer
        refine ⟨.head _, matches', fun apart => ⟨[], rest, rfl, by simp, fun x there matchesX => ?_⟩⟩
        rw [List.forall_mem_cons] at apart
        obtain ⟨apartP, apart⟩ := apart
        have near : ∀ y ∈ rest, Matches y n → (n - y.first.num).toNat < 32768 := fun y held matchesY =>
          back_of_matches matchesY (apart y held matchesY)
        have nearP := back_of_matches matches' (apartP matches')
        have nearQ := near q held matching
        have nearX := near x there matchesX
        obtain ⟨before, behind, split, first, second⟩ := order apart
        rw [older_iff_back nearQ nearP] at newer
        rw [older_iff_back nearX nearP]
        rw [split, List.mem_append, List.mem_cons] at there
        rcases there with sooner | rfl | behindIt
        · have notNewer := first x sooner matchesX
          rw [Bool.eq_false_iff, Ne, older_iff_back nearQ nearX] at notNewer
          omega
        · exact newer
        · have older := second x behindIt matchesX
          rw [older_iff_back nearX nearQ] at older
          omega
      case isFalse stays =>
        obtain rfl := Option.some.inj found
        refine ⟨.tail _ held, matching, fun apart => ?_⟩
        obtain ⟨before, behind, split, first, second⟩ := order fun x there => apart x (.tail _ there)
        refine ⟨p :: before, behind, by rw [split]; rfl, List.forall_mem_cons.mpr ⟨fun matches' => ?_, first⟩, second⟩
        rw [Bool.eq_false_iff]
        exact fun newer => stays (by rw [Bool.and_eq_true]; exact ⟨matches_iff.mpr matches', newer⟩)
    case h_2 none =>
      have others := memberOf_none none
      split at found
      case isTrue matching =>
        obtain rfl := Option.some.inj found
        exact ⟨.head _, matches_iff.mp matching, fun _ =>
          ⟨[], rest, rfl, by simp, fun x there matchesX => absurd matchesX (others x there)⟩⟩
      case isFalse => simp at found

/-! ## A slice enters (R55, R71) -/

theorem findHide_enterTrack (found : findHide s r.number = some r) :
    findHide (enterTrack e r s) r.number = some (r.enter e.num e.reply.isNone) :=
  findHide_upd (f := HideRecord.enter e.num e.reply.isNone) (by rw [enterTrack_eq, raiseLineIf_hides]) (fun _ => rfl) found

theorem enterTrack_values (e : Entry) (r : HideRecord) (s : State) : enterTrack e r s = { s with
    hides := { s.hides with records := (enterTrack e r s).hides.records }
    track := enteredTrack e r s.track
    line := { s.line with
      notices := if r.losesGauge e.reply.isNone then s.line.notices ||| LineNotice.gaugeLost.bit
        else s.line.notices } } := by
  rw [enterTrack_eq]
  cases r.losesGauge e.reply.isNone <;> rfl

theorem losesGauge_eq (gap : Bool) (r : HideRecord) : r.losesGauge gap =
    (gap && r.state.isOpen && decide (8 ≤ r.gapRun + 1) && !r.flags.gaugeLost) := by
  unfold HideRecord.losesGauge
  rw [decide_eq_decide.mpr (show 7 ≤ r.gapRun ↔ 8 ≤ r.gapRun + 1 by omega)]

/-! ## A departure brings its slice in, and one that holds no reply is a GAP slice (R34, R35) -/

theorem departHead_entered (list : s.intake.list = e :: rest) {r : HideRecord}
    (member : memberOf e.num s.hides.records = some r) (unfinished : r.state.unfinished = true) :
    (departHead s).track = enteredTrack e r s.track := by
  rw [departHead_eq list, closeRanges_track, handOn]
  dsimp only
  rw [member]
  dsimp only
  rw [if_pos unfinished, enterTrack_values]

theorem departHead_dropped (list : s.intake.list = e :: rest)
    (none : ∀ r, memberOf e.num s.hides.records = some r → r.state.unfinished = false) :
    (departHead s).track = s.track := by
  rw [departHead_eq list, closeRanges_track, handOn]
  dsimp only
  cases member : memberOf e.num s.hides.records with
  | none => exact dropOrphan_track _ _
  | some r =>
    dsimp only
    rw [if_neg (by simp [none r member])]

theorem departHead_numbers (list : s.intake.list = e :: rest) :
    (departHead s).hides.records.map HideRecord.number = s.hides.records.map HideRecord.number := by
  have same : List.Forall₂ Eq (s.hides.records.map HideRecord.number) ((departHead s).hides.records.map HideRecord.number) :=
    List.forall₂_map_left_iff.mpr (List.forall₂_map_right_iff.mpr
      ((departHead_records list).imp fun _ _ departed => departed.number.symm))
  rw [List.forall₂_eq_eq_eq] at same
  exact same.symm

/-- Entries that hold replies bring in no GAP slice. -/
theorem departHead_gapCount (list : s.intake.list = e :: rest) (replied : e.reply.isSome = true) :
    (departHead s).track.gapCount = s.track.gapCount := by
  by_cases entering : ∃ r, memberOf e.num s.hides.records = some r ∧ r.state.unfinished = true
  · obtain ⟨r, member, unfinished⟩ := entering
    rw [departHead_entered list member unfinished, enteredTrack]
    simp [Option.isNone_eq_false_iff.mpr replied]
  · rw [departHead_dropped list fun r member => Bool.eq_false_iff.mpr fun unfinished => entering ⟨r, member, unfinished⟩]

theorem departAll_gapCount {k : Nat} (taken : ∀ e ∈ s.intake.list.take k, e.reply.isSome = true) :
    (departAll k s).track.gapCount = s.track.gapCount := by
  induction k generalizing s with
  | zero => rfl
  | succ k ih =>
    unfold departAll
    cases list : s.intake.list with
    | nil =>
      rw [departHead_none list]
      exact ih (by simp [list])
    | cons e rest =>
      rw [list, List.take_succ_cons, List.forall_mem_cons] at taken
      have tail : (departHead s).intake.list = rest := by rw [departHead_list, list]; rfl
      rw [ih (by rw [tail]; exact taken.2), departHead_gapCount list taken.1]

theorem departDue_gapCount (s : State) : (departDue s).track.gapCount = s.track.gapCount := by
  obtain ⟨k, eq, _, taken, _⟩ := departDue_eq s
  rw [eq, departAll_gapCount taken]

theorem departDue_slices (s : State) : s.track.slices <+: (departDue s).track.slices := by
  obtain ⟨k, eq, few, _⟩ := departDue_eq s
  rw [eq, departAll_slices few]
  exact List.prefix_append _ _

/-! ## What a conversion leaves of the slices (R72) -/

/-- A slice apart from its results. -/
def Slice.bare (x : Slice) : Slice := { x with results := [] }

theorem reported_bare (p : Progress) (z : Nat) (t : Option Target) (x : Slice) : (reported p z t x).bare = x.bare := by
  unfold reported
  split <;> rfl

theorem deliverTargets_bare (sl : Slice) (z : Nat) (rs : List ZoneResult) (s : State) :
    (deliverTargets sl z rs s).track.slices.map Slice.bare = s.track.slices.map Slice.bare :=
  deliverTargets_keeps (fun s => s.track.slices.map Slice.bare) (fun sl z g s => by
    rw [deliverTarget_track, List.map_map]
    exact List.map_congr_left fun x _ => reported_bare _ _ _ x) sl z rs s

/-- A conversion leaves of the slices all but the results and the stage of those converted. -/
theorem convertSlice_bare (found : findHide s sl.hide = some r) : (convertSlice sl s).track.slices.map Slice.bare =
    s.track.slices.map fun x => if x.strobe = sl.strobe ∧ x.hide = sl.hide then { x.bare with stage := .converted }
      else x.bare := by
  rw [convertSlice_eq found, deliverTargets_bare, convertedTrack, List.map_map]
  refine List.map_congr_left fun x _ => ?_
  simp only [Function.comp_apply, Bool.and_eq_true, decide_eq_true_eq]
  split <;> rfl

theorem convertSlice_gapCount (found : findHide s sl.hide = some r) :
    (convertSlice sl s).track.gapCount = s.track.gapCount := by
  rw [convertSlice_eq found, deliverTargets_track]
  rfl

/-! ## The lead crossing of the head (R35, R72) -/

theorem riseLead_departs (none : oldestEntered s = none) (list : s.intake.list = e :: rest)
    (reached : AtLeadPoint e.pos s) : riseLead s = departDue (convertEntered (departHead s)) := by
  rw [riseLead, none]
  dsimp only
  rw [list]
  exact if_pos ((leadReached_iff _ _).mpr reached)

theorem riseLead_idle (none : oldestEntered s = none) (before : ∀ e ∈ s.intake.list.head?, ¬ AtLeadPoint e.pos s) :
    riseLead s = s := by
  rw [riseLead, none]
  dsimp only
  split
  · rfl
  case h_2 e rest list =>
    exact if_neg fun reached => before e (by rw [list]; rfl) ((leadReached_iff _ _).mp reached)

/-- The GAP slice that a forced departure brings in is converted at once (R72). -/
theorem convertEntered_gap (none : oldestEntered s = none) (list : s.intake.list = e :: rest) {r : HideRecord}
    (member : memberOf e.num s.hides.records = some r) (unfinished : r.state.unfinished = true) :
    (∃ sl, (convertEntered (departHead s)).track.slices[s.track.slices.length]? = some sl ∧ sl.strobe = e.num ∧
      sl.pos = e.pos ∧ sl.hide = r.number ∧ sl.readings = e.reply ∧ sl.stage = .converted) ∧
    (convertEntered (departHead s)).track.gapCount = (departHead s).track.gapCount := by
  have track := departHead_entered list member unfinished
  have slices : (departHead s).track.slices = s.track.slices ++ [enteredSlice e r] := by rw [track]; rfl
  have oldest : oldestEntered (departHead s) = some (enteredSlice e r) := by
    rw [oldestEntered, slices, List.find?_append, show s.track.slices.find? _ = Option.none from none]
    rfl
  obtain ⟨q, found⟩ : ∃ q, findHide (departHead s) r.number = some q := by
    have numbered : r.number ∈ (departHead s).hides.records.map HideRecord.number := by
      rw [departHead_numbers list]
      exact List.mem_map_of_mem (memberOf_some member).1
    obtain ⟨q, held, same⟩ := List.mem_map.mp numbered
    exact Option.isSome_iff_exists.mp (List.find?_isSome.mpr ⟨q, held, decide_eq_true same⟩)
  have convert : convertEntered (departHead s) = convertSlice (enteredSlice e r) (departHead s) := by
    rw [convertEntered, oldest]
  rw [convert]
  refine ⟨?_, convertSlice_gapCount (sl := enteredSlice e r) found⟩
  have bare := convertSlice_bare (sl := enteredSlice e r) found
  have at_ := congrArg (fun l => l[s.track.slices.length]?) bare
  simp only [slices, List.getElem?_map, List.getElem?_concat_length, Option.map_some, and_self, if_true] at at_
  obtain ⟨x, there, same⟩ := Option.map_eq_some_iff.mp at_
  obtain ⟨strobe, pos, hide, readings, stage, _⟩ := Slice.mk.inj same
  exact ⟨x, there, strobe, pos, hide, readings, stage⟩

/-- Settles O37: the head departs at its lead point, and those behind it that hold replies follow. -/
theorem leadCrossingTakesTheListHead : Obligations.LeadCrossingTakesTheListHead := by
  refine ⟨fun n records => ?member, fun s e rest list => ?departs, fun s e r found => ?enters, fun s => riseLead_idle,
    fun s e rest none list sound reached => ?crossing⟩
  case member =>
    split
    case h_1 r found => exact memberOf_some found
    case h_2 none => exact memberOf_none none
  case departs =>
    have intake := departHead_intake list
    have records := departHead_records list
    dsimp only
    refine ⟨congrArg Intake.list intake, departHead_feed s, departHead_zones s, departHead_link s, departHead_ctl s,
      departHead_settings s, departHead_slices list, congrArg Intake.orphan intake, congrArg Intake.notices intake,
      departHead_numbers list, departHead_ranges list, fun i q q' before after => ?_⟩
    obtain ⟨number, state, first, last, range⟩ : Departed rest q q' := by
      obtain ⟨below, rfl⟩ := List.getElem?_eq_some_iff.mp before
      obtain ⟨below', rfl⟩ := List.getElem?_eq_some_iff.mp after
      exact records.get below below'
    exact ⟨state, first, last, range⟩
  case enters =>
    dsimp only
    refine ⟨?_, ?_⟩
    · rw [findHide_enterTrack found, HideRecord.enter, losesGauge_eq]
      rfl
    · have values := enterTrack_values e r s
      rw [losesGauge_eq] at values
      exact values
  case crossing =>
    obtain ⟨_, _, head, _⟩ := sound
    have bare : e.reply = Option.none := head e (by rw [list]; rfl)
    rw [riseLead_departs none list reached]
    have tail : (convertEntered (departHead s)).intake.list = rest := by
      rw [convertEntered_intake, departHead_list, list]
      rfl
    obtain ⟨k, eq, _, taken, behind⟩ := departDue_eq (convertEntered (departHead s))
    rw [tail] at taken behind
    have left : (departDue (convertEntered (departHead s))).intake.list = rest.drop k := by
      rw [eq, departAll_list, tail]
    refine ⟨⟨k, left, taken⟩, by rw [left]; exact behind, ?_⟩
    rw [departDue_gapCount]
    have dropped : (∀ r, memberOf e.num s.hides.records = some r → r.state.unfinished = false) →
        (convertEntered (departHead s)).track.gapCount = s.track.gapCount := fun finished => by
      have track := departHead_dropped list finished
      have still : oldestEntered (departHead s) = Option.none := by rwa [oldestEntered, track]
      rw [convertEntered, still]
      exact congrArg Track.gapCount track
    cases member : memberOf e.num s.hides.records with
    | none => exact dropped (by simp [member])
    | some r =>
      dsimp only
      split
      case isTrue unfinished =>
        obtain ⟨⟨sl, there, strobe, pos, hide, readings, stage⟩, gaps⟩ := convertEntered_gap none list member unfinished
        refine ⟨sl, ?_, strobe, pos, hide, readings.trans bare, stage, ?_⟩
        · obtain ⟨behind, slices⟩ := departDue_slices (convertEntered (departHead s))
          rw [← slices, List.getElem?_append_left (List.getElem?_eq_some_iff.mp there).1, there]
        · rw [gaps, departHead_entered list member unfinished, enteredTrack, bare]
          rfl
      case isFalse finished =>
        refine dropped fun q found => ?_
        obtain rfl := Option.some.inj (member.symm.trans found)
        simpa using finished

end Sys2Proof.Machine

/-! PROOFS. What the timers that end within one microsecond leave alone, each of their operations in turn: the time,
the counts of the other channels, the transaction on the link, and the reference of FEED REF. -/

namespace Sys2Proof.Machine

variable {P : Nat → Prop} {s t u : State} {z : Nat}

/-! ## What the timers keep -/

/-- FEED REF at the start of a period (R18, R19). -/
def FeedRef.begun (period effective now : Nat) (closed : Bool) : FeedRef :=
  let c := if closed then 0 else effective
  { period := period, count := c, start := now, high := decide (0 < c), gated := closed }

/-- FEED REF as at the start of a period now. -/
def begunRef (s : State) : FeedRef := .begun s.feed.period s.feed.effective s.now (gateClosed s)

theorem startPeriod_eq (s : State) : startPeriod s = { s with feed := { s.feed with ref := begunRef s } } := rfl

/-- FEED REF stands as at the start of a period at this moment (R19). -/
def FreshRef (s : State) : Prop := s.feed.ref = begunRef s

/-- The mode, the move and the counts of a channel stand. -/
structure CountsKept (c c' : Channel) : Prop where
  mode : c'.mode = c.mode
  flight : c'.flight = c.flight
  lagging : c'.lagging = c.lagging
  misses : c'.misses = c.misses
  timeouts : c'.timeouts = c.timeouts

theorem CountsKept.refl (c : Channel) : CountsKept c c := ⟨rfl, rfl, rfl, rfl, rfl⟩

theorem CountsKept.trans {c c' c'' : Channel} (h : CountsKept c c') (h' : CountsKept c' c'') : CountsKept c c'' :=
  ⟨h'.mode.trans h.mode, h'.flight.trans h.flight, h'.lagging.trans h.lagging, h'.misses.trans h.misses,
    h'.timeouts.trans h.timeouts⟩

/-- What a timer's event keeps: the moment, the settings of FEED REF, the counts of the channels in `P`, and a
stopped dwell timer. The machine state can only move towards RUN, and FEED REF stands, is gated or begins a period. -/
structure Passes (P : Nat → Prop) (s t : State) : Prop where
  now : t.now = s.now
  pins : t.pins = s.pins
  flags : t.ctl.flags = s.ctl.flags
  stopped : s.ctl.dwell.running = false → t.ctl.dwell.running = false
  core : t.feed.core = s.feed.core
  gate : t.ctl.phase = s.ctl.phase ∧ t.feed.ref = s.feed.ref ∨ s.ctl.phase ≠ .run ∧ t.ctl.phase = .run ∨
    s.ctl.phase = .park ∧ t.ctl.phase = .resuming
  period : FreshRef t ∨ t.feed.ref.start = s.feed.ref.start ∧ t.feed.ref.period = s.feed.ref.period
  fresh : FreshRef s → FreshRef t
  count : t.zones.length = s.zones.length
  counts : ∀ y, P y → CountsKept (channel s y) (channel t y)

/-- What a timer's event keeps of the link: the transaction on it, with its start; and a grant starts now. -/
structure LinkRuns (s t : State) : Prop where
  now : t.now = s.now
  abandoned : t.link.abandoned = s.link.abandoned
  held : ∀ x ∈ s.link.txn, ∃ y ∈ t.link.txn, y.zone = x.zone ∧ y.kind = x.kind ∧ y.start = x.start
  granted : s.link.txn = none → ∀ y ∈ t.link.txn, y.start = s.now

theorem LinkRuns.same (now : t.now = s.now) (link : t.link = s.link) : LinkRuns s t :=
  ⟨now, by rw [link], fun x held => ⟨x, link ▸ held, rfl, rfl, rfl⟩, fun idle y held => by simp [link, idle] at held⟩

theorem LinkRuns.refl (s : State) : LinkRuns s s := .same rfl rfl

theorem LinkRuns.trans (h : LinkRuns s t) (h' : LinkRuns t u) : LinkRuns s u where
  now := h'.now.trans h.now
  abandoned := h'.abandoned.trans h.abandoned
  held x held := by
    obtain ⟨y, there, zone, kind, start⟩ := h.held x held
    obtain ⟨w, last, zone', kind', start'⟩ := h'.held y there
    exact ⟨w, last, zone'.trans zone, kind'.trans kind, start'.trans start⟩
  granted idle w last := by
    cases there : t.link.txn with
    | none => exact (h'.granted there w last).trans h.now
    | some y =>
      obtain ⟨w', last', _, _, start⟩ := h'.held y there
      obtain rfl : w = w' := Option.some.inj (last.symm.trans last')
      exact start.trans (h.granted idle y there)

/-- The start of a period looks at the moment, the gate and the settings alone. -/
theorem begunRef_congr (now : t.now = s.now) (pins : t.pins = s.pins) (phase : t.ctl.phase = s.ctl.phase)
    (core : t.feed.core = s.feed.core) : begunRef t = begunRef s := by
  have period : t.feed.period = s.feed.period := (congrArg Feed.period core :)
  have effective : t.feed.effective = s.feed.effective := (congrArg Feed.effective core :)
  have closed : gateClosed t = gateClosed s := by simp only [gateClosed, pins, phase]
  simp only [begunRef, now, period, effective, closed]

theorem Passes.phase_of (h : Passes P s t) (same : t.ctl.phase = s.ctl.phase) : t.feed.ref = s.feed.ref := by
  obtain ⟨_, ref⟩ | ⟨was, is⟩ | ⟨was, is⟩ := h.gate
  · exact ref
  · exact absurd (same ▸ is) was
  · rw [same, was] at is
    exact absurd is (by decide)

theorem Passes.trans (h : Passes P s t) (h' : Passes P t u) : Passes P s u where
  now := h'.now.trans h.now
  pins := h'.pins.trans h.pins
  flags := h'.flags.trans h.flags
  stopped := h'.stopped ∘ h.stopped
  core := h'.core.trans h.core
  gate := by
    obtain ⟨phase, ref⟩ | ⟨was, is⟩ | ⟨was, is⟩ := h.gate
    · rw [← phase, ← ref]
      exact h'.gate
    · obtain ⟨phase, _⟩ | ⟨was', _⟩ | ⟨was', _⟩ := h'.gate
      · exact .inr (.inl ⟨was, phase.trans is⟩)
      · exact absurd is was'
      · exact absurd (is.symm.trans was') (by decide)
    · obtain ⟨phase, _⟩ | ⟨_, is'⟩ | ⟨was', _⟩ := h'.gate
      · exact .inr (.inr ⟨was, phase.trans is⟩)
      · exact .inr (.inl ⟨by simp [was], is'⟩)
      · exact absurd (is.symm.trans was') (by decide)
  period := by
    obtain fresh | ⟨start, period⟩ := h'.period
    · exact .inl fresh
    · rw [start, period]
      exact h.period.imp_left h'.fresh
  fresh := h'.fresh ∘ h.fresh
  count := h'.count.trans h.count
  counts y inside := (h.counts y inside).trans (h'.counts y inside)

/-- A change of channels, link or notices alone. -/
theorem Passes.ofZones (now : t.now = s.now) (pins : t.pins = s.pins) (ctl : t.ctl = s.ctl) (feed : t.feed = s.feed)
    (count : t.zones.length = s.zones.length) (counts : ∀ y, P y → CountsKept (channel s y) (channel t y)) :
    Passes P s t :=
  ⟨now, pins, by rw [ctl], by rw [ctl]; exact id, by rw [feed], .inl ⟨by rw [ctl], by rw [feed]⟩,
    .inr ⟨by rw [feed], by rw [feed]⟩, fun fresh => by
      unfold FreshRef
      rw [begunRef_congr now pins (by rw [ctl]) (by rw [feed]), feed]
      exact fresh, count, counts⟩

theorem Passes.refl (P : Nat → Prop) (s : State) : Passes P s s :=
  .ofZones rfl rfl rfl rfl rfl fun _ _ => .refl _

theorem Passes.mono {Q : Nat → Prop} (h : Passes P s t) (within : ∀ y, Q y → P y) : Passes Q s t :=
  { h with counts := fun y inside => h.counts y (within y inside) }

/-- A change that leaves the channels alone too. -/
theorem Passes.quiet (now : t.now = s.now) (pins : t.pins = s.pins) (ctl : t.ctl = s.ctl) (feed : t.feed = s.feed)
    (zones : t.zones = s.zones) : Passes P s t :=
  .ofZones now pins ctl feed (by rw [zones]) fun y _ => by rw [channel_congr zones]; exact .refl _

/-! ## The operations -/

theorem raiseLine_passes (n : LineNotice) (s : State) : Passes P s (raiseLine n s) := .quiet rfl rfl rfl rfl rfl

theorem arbitrate_passes (s : State) : Passes P s (arbitrate s) := .quiet rfl rfl rfl rfl rfl

theorem raiseLine_linkRuns (n : LineNotice) (s : State) : LinkRuns s (raiseLine n s) := .same rfl rfl

theorem arbitrate_linkRuns (s : State) : LinkRuns s (arbitrate s) := by
  obtain same | ⟨_, free, y, k, _, _, started⟩ := granted_cases s
  · exact .same rfl same
  · simp only [Link.free, Bool.and_eq_true, Option.isNone_iff_eq_none] at free
    refine ⟨rfl, by rw [arbitrate_link, started], fun x held => by simp [free.1] at held, fun _ w last => ?_⟩
    rw [arbitrate_link, started] at last
    obtain rfl := Option.some.inj last
    rfl

/-- The transitions within a microsecond: into RUN, and from PARK into RESUMING. -/
theorem enterPhase_passes {p : Phase} (next : s.ctl.phase ≠ .run ∧ p = .run ∨ s.ctl.phase = .park ∧ p = .resuming) :
    Passes P s (enterPhase p s) := by
  have closes : gateClosed { s with ctl := { s.ctl with phase := p, feedStop := !p.drives } } = true →
      gateClosed s = true := by
    intro closed
    unfold gateClosed at closed ⊢
    obtain ⟨_, rfl⟩ | ⟨park, rfl⟩ := next
    · simp [show s.pins.halt = true by simpa [Phase.drives] using closed]
    · simp [park, Phase.drives]
  refine ⟨by simp, by simp, by simp [enterPhase_flags], fun still => ?_, by simp, ?_, ?_, fun fresh => ?_, by simp,
    fun y _ => by rw [channel_enterPhase]; exact .refl _⟩
  · obtain ⟨r, eq⟩ := enterPhase_spec p s
    rw [eq]
    exact still
  · rw [enterPhase_phase]
    obtain ⟨awake, rfl⟩ | ⟨park, rfl⟩ := next
    · exact .inr (.inl ⟨awake, rfl⟩)
    · exact .inr (.inr ⟨park, rfl⟩)
  · unfold enterPhase applyGate
    split
    · exact .inr ⟨rfl, rfl⟩
    · split
      · exact .inl rfl
      · exact .inr ⟨rfl, rfl⟩
  · unfold enterPhase
    generalize changed : { s with ctl := { s.ctl with phase := p, feedStop := !p.drives } } = v at closes
    have ref : v.feed.ref = .begun v.feed.period v.feed.effective v.now (gateClosed s) := by
      subst changed
      exact fresh
    unfold applyGate
    split
    case isTrue closed =>
      show ({ v.feed.ref with high := false, gated := true } : FeedRef) = .begun _ _ _ (gateClosed v)
      rw [ref, closes closed, closed]
      rfl
    case isFalse lifted =>
      split
      · rfl
      case isFalse ungated =>
        rw [ref] at ungated
        show v.feed.ref = .begun _ _ _ (gateClosed v)
        rw [ref, show gateClosed s = false from Bool.eq_false_iff.mpr ungated,
          show gateClosed v = false from Bool.eq_false_iff.mpr lifted]

theorem enterPhase_linkRuns (p : Phase) (s : State) : LinkRuns s (enterPhase p s) := .same (by simp) (by simp)

theorem stopDwell_passes (s : State) : Passes P s (stopDwell s) :=
  ⟨rfl, rfl, rfl, fun _ => rfl, rfl, .inl ⟨rfl, rfl⟩, .inr ⟨rfl, rfl⟩, fun fresh => by
    unfold FreshRef
    exact fresh, rfl, fun _ _ => .refl _⟩

theorem enterRun_passes (awake : s.ctl.phase ≠ .run) : Passes P s (enterRun s) :=
  (enterPhase_passes (.inl ⟨awake, rfl⟩)).trans (stopDwell_passes _)

theorem enterRun_linkRuns (s : State) : LinkRuns s (enterRun s) := .same (by simp) (by simp)

theorem passResuming_passes (s : State) : Passes P s (passResuming s) := by
  unfold passResuming
  split
  case isTrue pass =>
    simp only [Bool.and_eq_true, decide_eq_true_eq] at pass
    exact enterRun_passes (by simp [pass.1])
  case isFalse => exact .refl P s

theorem passResuming_linkRuns (s : State) : LinkRuns s (passResuming s) := .same (by simp) (by simp)

theorem finishLink_passes (s : State) : Passes P s (finishLink s) := (passResuming_passes s).trans (arbitrate_passes _)

theorem finishLink_linkRuns (s : State) : LinkRuns s (finishLink s) :=
  (passResuming_linkRuns s).trans (arbitrate_linkRuns _)

theorem setSlot_linkRuns (r : Option Target) (z : Nat) (s : State) : LinkRuns s (setSlot r z s) := by
  refine ⟨rfl, rfl, fun x held => ?_, fun idle y held => ?_⟩
  · refine ⟨_, Option.mem_map_of_mem _ held, ?_⟩
    split <;> exact ⟨rfl, rfl, rfl⟩
  · simp [setSlot, Link.slotChanged, idle] at held

theorem report_linkRuns (r : Option Target) (z : Nat) (p : Progress) (s : State) : LinkRuns s (report r z p s) :=
  .same (by simp) (by simp)

theorem place_linkRuns (r : Target) (z : Nat) (s : State) : LinkRuns s (place r z s) :=
  (report_linkRuns _ z .skipped s).trans (setSlot_linkRuns _ z _)

theorem updChannel_linkRuns (f : Channel → Channel) (z : Nat) (s : State) : LinkRuns s (updChannel f z s) := .same rfl rfl

theorem enterFault_linkRuns (z : Nat) (s : State) : LinkRuns s (enterFault z s) := by
  have discarded : LinkRuns s (discardSlot z s) := (report_linkRuns _ z .skipped s).trans (setSlot_linkRuns _ z _)
  have ended : LinkRuns (discardSlot z s) (endFlight .ended z (discardSlot z s)) := .same (by simp) (by simp)
  exact ((discarded.trans ended).trans (updChannel_linkRuns _ z _)).trans (raiseLine_linkRuns _ _)

theorem enterFault_passes (z : Nat) (s : State) : Passes (· ≠ z) s (enterFault z s) := by
  refine .ofZones (by simp) (by simp) (by simp) (by simp) (by simp) fun y other => ?_
  rw [channel_enterFault, if_neg fun h => other h.1]
  exact .refl _

theorem placeEntry_passes (z : Nat) (s : State) : Passes (fun _ => True) s (placeEntry z s) := by
  refine .ofZones (by simp) (by simp) (by simp) (by simp) ?_ fun y _ => ?_
  · unfold placeEntry
    split <;> simp
  · rw [channel_placeEntry]
    split
    · exact ⟨rfl, rfl, rfl, rfl, rfl⟩
    · exact .refl _

theorem placeEntry_linkRuns (z : Nat) (s : State) : LinkRuns s (placeEntry z s) := by
  unfold placeEntry
  split
  · exact (place_linkRuns _ z s).trans (updChannel_linkRuns _ z _)
  · exact .refl s

theorem wakeEvent_passes (s : State) : Passes (fun _ => True) s (wakeEvent s) := by
  have run : s.ctl.phase ≠ .run → ∀ n, Passes (fun _ => True) s (raiseLine n (enterRun s)) := fun awake n =>
    (enterRun_passes awake).trans (raiseLine_passes n _)
  unfold wakeEvent
  split
  case h_1 phase => exact run (by simp [phase]) _
  case h_2 phase => exact run (by simp [phase]) _
  case h_3 phase => exact run (by simp [phase]) _
  case h_4 park =>
    refine Passes.trans ?_ (raiseLine_passes _ _)
    refine Passes.trans ?_ (arbitrate_passes _)
    refine (stopDwell_passes s).trans (Passes.trans ?_ (passResuming_passes _))
    have resuming : Passes (fun _ => True) (stopDwell s) (enterPhase .resuming (stopDwell s)) :=
      enterPhase_passes (.inr ⟨park, rfl⟩)
    exact resuming.trans (forZones_related (R := Passes fun _ => True) (.refl _) .trans placeEntry_passes _)
  all_goals exact .refl _ s

theorem wakeEvent_linkRuns (s : State) : LinkRuns s (wakeEvent s) := by
  have run : ∀ n, LinkRuns s (raiseLine n (enterRun s)) := fun n =>
    (enterRun_linkRuns s).trans (raiseLine_linkRuns n _)
  unfold wakeEvent
  split
  case h_1 => exact run _
  case h_2 => exact run _
  case h_3 => exact run _
  case h_4 =>
    refine LinkRuns.trans ?_ (raiseLine_linkRuns _ _)
    refine LinkRuns.trans ?_ (arbitrate_linkRuns _)
    have stopped : LinkRuns s (stopDwell s) := .same rfl rfl
    refine stopped.trans (LinkRuns.trans ?_ (passResuming_linkRuns _))
    exact (enterPhase_linkRuns _ _).trans (forZones_related .refl .trans placeEntry_linkRuns _)
  all_goals exact .refl s

/-! ## The timers -/

theorem advanceTo_reached {n : Nat} (reached : n ≤ s.now) : advanceTo n s = s := by
  simp [advanceTo, reached]

/-- What a change of the wake flags keeps. -/
theorem changeWake_passes (f : Controller → Controller) (s : State) :
    Passes (fun _ => True) { s with ctl := f s.ctl } (changeWake f s) := by
  unfold changeWake
  dsimp only
  split
  · exact wakeEvent_passes _
  · exact .refl _ _

theorem changeWake_linkRuns (f : Controller → Controller) (s : State) : LinkRuns s (changeWake f s) := by
  have changed : LinkRuns s { s with ctl := f s.ctl } := .same rfl rfl
  unfold changeWake
  dsimp only
  split
  · exact changed.trans (wakeEvent_linkRuns _)
  · exact changed

theorem timeoutMove_linkRuns {m : Move} (due : m.deadline ≤ s.now) : LinkRuns s (timeoutMove m z s) := by
  have out : LinkRuns s (timedOut m z s) := .same (by simp [timedOut, advanceTo_reached due]) (timedOut_link m z s)
  rw [timeoutMove_eq]
  refine LinkRuns.trans ?_ (finishLink_linkRuns _)
  split
  · exact out.trans (enterFault_linkRuns z _)
  · refine out.trans ?_
    unfold retryEntry
    split
    · exact place_linkRuns _ z _
    · exact .refl _

theorem retryEntry_passes (m : Move) (z : Nat) (s : State) : Passes (fun _ => True) s (retryEntry m z s) := by
  unfold retryEntry
  split
  · refine .ofZones (by simp) (by simp) (by simp) (by simp) (by simp) fun y _ => ?_
    rw [channel_place]
    split
    · exact ⟨rfl, rfl, rfl, rfl, rfl⟩
    · exact .refl _
  · exact .refl _ s

theorem timedOut_passes {m : Move} (due : m.deadline ≤ s.now) : Passes (· ≠ z) s (timedOut m z s) := by
  refine .ofZones ?_ ?_ ?_ ?_ ?_ fun y other => ?_
  · simp [timedOut, advanceTo_reached due]
  · simp [timedOut, advanceTo]
  · simp [timedOut, advanceTo]
  · simp [timedOut, advanceTo]
  · simp [timedOut, advanceTo]
  · rw [channel_timedOut, if_neg fun h => other h.1]
    exact .refl _

theorem timeoutMove_passes {m : Move} (due : m.deadline ≤ s.now) : Passes (· ≠ z) s (timeoutMove m z s) := by
  rw [timeoutMove_eq]
  refine Passes.trans ?_ (finishLink_passes _)
  split
  · exact (timedOut_passes due).trans (enterFault_passes z _)
  · exact (timedOut_passes due).trans ((retryEntry_passes m z _).mono fun _ _ => trivial)

theorem tickMove_passes (z : Nat) (s : State) : Passes (· ≠ z) s (tickMove z s) := by
  unfold tickMove
  split
  · split
    case isTrue due => exact timeoutMove_passes due
    case isFalse => exact .refl _ s
  · exact .refl _ s

theorem tickMove_linkRuns (z : Nat) (s : State) : LinkRuns s (tickMove z s) := by
  unfold tickMove
  split
  · split
    case isTrue due => exact timeoutMove_linkRuns due
    case isFalse => exact .refl s
  · exact .refl s

theorem countMiss_passes (z : Nat) (s : State) : Passes (· ≠ z) s (countMiss z s) := by
  have counted : Passes (· ≠ z) s (updChannel (fun c => { c with misses := c.misses + 1 }) z s) :=
    .ofZones rfl rfl rfl rfl (by simp) fun y other => by
      rw [channel_updChannel, if_neg fun h => other h.1]
      exact .refl _
  unfold countMiss
  split
  · dsimp only
    split
    · exact counted.trans (enterFault_passes z _)
    · exact counted
  · exact .refl _ s

theorem endClearPoll_passes (x : Txn) (s : State) : Passes P s (endClearPoll x s) := by
  unfold endClearPoll
  split
  · refine .ofZones rfl rfl rfl rfl (by simp) fun y _ => ?_
    rw [channel_updChannel]
    split
    · exact ⟨rfl, rfl, rfl, rfl, rfl⟩
    · exact .refl _
  · exact .refl P s

theorem missReply_passes {x : Txn} (due : x.start + Config.replyWindow ≤ s.now) :
    Passes (· ≠ x.zone) s (missReply x s) := by
  unfold missReply
  rw [advanceTo_reached due]
  have freed : Passes (· ≠ x.zone) s (freeLink s) := .quiet rfl rfl rfl rfl rfl
  exact ((freed.trans (endClearPoll_passes x _)).trans (countMiss_passes x.zone _)).trans (finishLink_passes _)

theorem closeWindow_passes {start : Nat} (due : start + Config.replyWindow ≤ s.now) : Passes P s (closeWindow start s) := by
  unfold closeWindow
  rw [advanceTo_reached due]
  have closed : Passes P s { s with link := { s.link with abandoned := none } } := .quiet rfl rfl rfl rfl rfl
  exact closed.trans (arbitrate_passes _)

end Sys2Proof.Machine

/-! PROOFS. One microsecond: the timers that end in it take their events, one after another, and nothing else changes
(O2). -/

namespace Sys2Proof.Machine

variable {P : Nat → Prop} {s t u : State} {z : Nat}

/-! ## The dwell timer -/

theorem dwellTimer_expiresAt (d : DwellTimer) : d.expiresAt = d.start + d.remaining * 100000 := rfl

/-- The dwell timer has ended by now (R149). -/
def DwellDue (s : State) : Prop := s.ctl.dwell.running = true ∧ s.ctl.dwell.expiresAt ≤ s.now

theorem tickDwell_waits (waits : ¬ DwellDue s) : tickDwell s = s := by
  unfold tickDwell
  rw [if_neg]
  simpa [DwellDue] using waits

/-- The controller at the end of the dwell timer, before the wake event (R149). -/
def expiredDwell (c : Controller) : Controller :=
  { c with dwell := { c.dwell with running := false, remaining := 0 }, flags := c.flags ||| WakeFlag.timer.bit }

theorem tickDwell_expires (due : DwellDue s) :
    Passes (fun _ => True) { s with ctl := expiredDwell s.ctl } (tickDwell s) ∧ LinkRuns s (tickDwell s) := by
  unfold tickDwell
  rw [if_pos (by simpa [DwellDue] using due)]
  unfold expireDwell
  rw [advanceTo_reached due.2]
  have stopped : LinkRuns s { s with ctl :=
    { s.ctl with dwell := { s.ctl.dwell with running := false, remaining := 0 } } } := .same rfl rfl
  exact ⟨changeWake_passes _ _, stopped.trans (changeWake_linkRuns _ _)⟩

/-- The controller after the dwell timer's turn has the machine state as it was, but for a wake event. -/
theorem tickDwell_passes (s : State) : ∃ c : Controller, c.phase = s.ctl.phase ∧
    Passes (fun _ => True) { s with ctl := c } (tickDwell s) ∧
    (DwellDue s → c.dwell.running = false ∧ c.flags = s.ctl.flags ||| WakeFlag.timer.bit) ∧
    (¬ DwellDue s → c.flags = s.ctl.flags) := by
  by_cases due : DwellDue s
  · exact ⟨expiredDwell s.ctl, rfl, (tickDwell_expires due).1, fun _ => ⟨rfl, rfl⟩, fun waits => absurd due waits⟩
  · exact ⟨s.ctl, rfl, by rw [tickDwell_waits due]; exact .refl _ s, fun d => absurd d due, fun _ => rfl⟩

theorem tickDwell_linkRuns (s : State) : LinkRuns s (tickDwell s) := by
  by_cases due : DwellDue s
  · exact (tickDwell_expires due).2
  · rw [tickDwell_waits due]
    exact .refl s

/-! ## The moves -/

/-- The turn of zone z among the zones. -/
theorem forZones_turn {R : State → State → Prop} (refl : ∀ s, R s s) (trans : ∀ {s t u}, R s t → R t u → R s u)
    {f : Nat → State → State} (below : z < 16) (others : ∀ y s, y ≠ z → R s (f y s)) (s : State) :
    ∃ v, R s v ∧ R (f z v) (forZones f s) := by
  have run : ∀ (zs : List Nat) (s : State), z ∉ zs → R s (zs.foldl (fun t y => f y t) s) := by
    intro zs
    induction zs with
    | nil => exact fun s _ => refl s
    | cons y rest ih =>
      intro s absent
      obtain ⟨other, rest'⟩ := not_or.mp (List.mem_cons.not.mp absent)
      exact trans (others y s (Ne.symm other)) (ih _ rest')
  have inside : z ∈ zoneList := List.mem_range.mpr below
  obtain ⟨before, after, split⟩ := List.append_of_mem inside
  have distinct : (before ++ z :: after).Nodup := split ▸ List.nodup_range
  have notBefore : z ∉ before := fun there =>
    (List.nodup_append.mp distinct).2.2 z there z (List.mem_cons_self ..) rfl
  have notAfter : z ∉ after := (List.nodup_cons.mp (List.nodup_append.mp distinct).2.1).1
  refine ⟨before.foldl (fun t y => f y t) s, run before s notBefore, ?_⟩
  unfold forZones
  rw [split, List.foldl_append, List.foldl_cons]
  exact run after _ notAfter

theorem tickMoves_passes (s : State) : Passes (fun _ => False) s (forZones tickMove s) :=
  forZones_related (.refl _) .trans (fun z t => (tickMove_passes z t).mono fun _ => False.elim) s

theorem tickMoves_linkRuns (s : State) : LinkRuns s (forZones tickMove s) :=
  forZones_related .refl .trans tickMove_linkRuns s

/-- What passes of the other zones' events at zone z, with the line notices. -/
structure PassesBy (z : Nat) (s t : State) : Prop where
  passes : Passes (· = z) s t
  notices : Keeps s.line.notices t.line.notices

theorem tickMoves_turn (below : z < 16) (s : State) :
    ∃ v, PassesBy z s v ∧ PassesBy z (tickMove z v) (forZones tickMove s) :=
  forZones_turn (R := PassesBy z) (fun s => ⟨.refl _ s, .refl _⟩)
    (fun h h' => ⟨h.passes.trans h'.passes, h.notices.trans h'.notices⟩) below
    (fun y t other => ⟨(tickMove_passes y t).mono fun w same => same ▸ Ne.symm other,
      ((tickMove_trail (c := .miss) rfl y).flagsKept.line (by simp)).1⟩) s

/-- A channel whose move has timed out, at the count of timeouts that it has then (R118). -/
structure MoveEnded (timeouts : Nat) (c : Channel) : Prop where
  flight : c.flight = none
  lagging : c.lagging = true
  timeouts : c.timeouts = timeouts

theorem MoveEnded.kept {n : Nat} {c c' : Channel} (ended : MoveEnded n c) (kept : CountsKept c c') : MoveEnded n c' :=
  ⟨kept.flight.trans ended.flight, kept.lagging.trans ended.lagging, kept.timeouts.trans ended.timeouts⟩

theorem below_of_flight {m : Move} (moving : (channel s z).flight = some m) : z < s.zones.length := by
  by_contra beyond
  rw [channel_beyond (Nat.le_of_not_lt beyond)] at moving
  exact absurd moving (by simp [Channel.initial])

theorem timeoutMove_ends {m : Move} (moving : (channel s z).flight = some m) :
    MoveEnded ((channel s z).timeouts + 1) (channel (timeoutMove m z s) z) ∧
      Keeps LineNotice.zoneLagging.bit (timeoutMove m z s).line.notices := by
  have below := below_of_flight moving
  have out : MoveEnded ((channel s z).timeouts + 1) (channel (timedOut m z s) z) := by
    rw [channel_timedOut, if_pos ⟨rfl, below⟩]
    exact ⟨rfl, rfl, rfl⟩
  have raised : Keeps LineNotice.zoneLagging.bit (timedOut m z s).line.notices := by
    unfold timedOut
    rw [raiseLine_notices, BitVec.or_comm]
    exact .or _ _
  have finished : ∀ {v : State}, Trail .miss (timedOut m z s) v → MoveEnded ((channel s z).timeouts + 1) (channel v z) →
      MoveEnded ((channel s z).timeouts + 1) (channel (finishLink v) z) ∧
        Keeps LineNotice.zoneLagging.bit (finishLink v).line.notices := by
    intro v path ended
    refine ⟨by simpa [finishLink] using ended, raised.trans ?_⟩
    simpa [finishLink] using (path.flagsKept.line (by simp)).1
  rw [timeoutMove_eq]
  split
  · refine finished (enterFault_trail z) ?_
    rw [channel_enterFault]
    split
    · exact ⟨rfl, out.lagging, out.timeouts⟩
    · exact out
  · exact finished (retryEntry_trail m z) (out.kept ((retryEntry_passes m z _).counts z trivial))

theorem tickMove_due {m : Move} (moving : (channel s z).flight = some m) (due : m.deadline ≤ s.now) :
    tickMove z s = timeoutMove m z s := by
  simp [tickMove, moving, due]

theorem tickMove_waits (waits : ∀ m ∈ (channel s z).flight, s.now < m.deadline) : tickMove z s = s := by
  unfold tickMove
  split
  case h_1 m moving => rw [if_neg (Nat.not_le.mpr (waits m moving))]
  case h_2 => rfl

/-- A move whose deadline has come ends. -/
theorem tickMoves_ends {m : Move} (below : z < 16) (moving : (channel s z).flight = some m) (due : m.deadline ≤ s.now) :
    MoveEnded ((channel s z).timeouts + 1) (channel (forZones tickMove s) z) ∧
      Keeps LineNotice.zoneLagging.bit (forZones tickMove s).line.notices := by
  obtain ⟨v, before, after⟩ := tickMoves_turn below s
  have same := before.passes.counts z rfl
  have there : (channel v z).flight = some m := same.flight.trans moving
  rw [tickMove_due there (before.passes.now ▸ due)] at after
  obtain ⟨ended, raised⟩ := timeoutMove_ends there
  rw [same.timeouts] at ended
  exact ⟨ended.kept (after.passes.counts z rfl), raised.trans after.notices⟩

/-- A channel without a move keeps its counts. -/
theorem tickMoves_still (still : (channel s z).flight = none) : CountsKept (channel s z) (channel (forZones tickMove s) z) := by
  by_cases below : z < 16
  · obtain ⟨v, before, after⟩ := tickMoves_turn below s
    have same := before.passes.counts z rfl
    have there : ∀ m ∈ (channel v z).flight, v.now < m.deadline := by simp [same.flight, still]
    rw [tickMove_waits there] at after
    exact same.trans (after.passes.counts z rfl)
  · have others : Passes (· = z) s (forZones tickMove s) := by
      unfold forZones
      have each : ∀ y ∈ zoneList, y ≠ z := fun y inside same => below (same ▸ List.mem_range.mp inside)
      generalize zoneList = zs at each
      induction zs generalizing s with
      | nil => exact .refl _ s
      | cons y rest ih =>
        have first : Passes (· = z) s (tickMove y s) :=
          (tickMove_passes y s).mono fun w same => same ▸ Ne.symm (each y (List.mem_cons_self ..))
        exact first.trans (ih ((first.counts z rfl).flight.trans still) fun w inside => each w (List.mem_cons_of_mem _ inside))
    exact others.counts z rfl

theorem forZones_fixed {f : Nat → State → State} (fixed : ∀ z < 16, f z s = s) : forZones f s = s := by
  unfold forZones
  have each : ∀ y ∈ zoneList, f y s = s := fun y inside => fixed y (List.mem_range.mp inside)
  generalize zoneList = zs at each
  induction zs with
  | nil => rfl
  | cons y rest ih =>
    rw [List.foldl_cons, each y (List.mem_cons_self ..)]
    exact ih fun w inside => each w (List.mem_cons_of_mem _ inside)

/-! ## The reply window -/

/-- The reply window of the transaction on the link has closed by now (R112, R117). -/
def ReplyDue (s : State) (x : Txn) : Prop := s.link.txn = some x ∧ x.start + 400 ≤ s.now

theorem tickReply_due {x : Txn} (due : ReplyDue s x) : tickReply s = missReply x s := by
  obtain ⟨held, closed⟩ := due
  simp [tickReply, held, Config.replyWindow, closed]

theorem tickReply_waits (waits : ∀ x ∈ s.link.txn, s.now < x.start + 400) : tickReply s = s := by
  unfold tickReply
  split
  case h_1 x held => exact if_neg (Nat.not_le.mpr (waits x held))
  case h_2 => rfl

theorem tickReply_cases (s : State) : tickReply s = s ∨ ∃ x, ReplyDue s x ∧ tickReply s = missReply x s := by
  by_cases due : ∃ x, ReplyDue s x
  · obtain ⟨x, due⟩ := due
    exact .inr ⟨x, due, tickReply_due due⟩
  · exact .inl (tickReply_waits fun x held => Nat.lt_of_not_le fun closed => due ⟨x, held, closed⟩)

theorem tickReply_passes (s : State) : Passes (fun _ => False) s (tickReply s) := by
  obtain same | ⟨x, due, eq⟩ := tickReply_cases s
  · rw [same]
    exact .refl _ s
  · rw [eq]
    exact (missReply_passes due.2).mono fun _ => False.elim

/-- What a miss makes of its channel: the move, LAGGING and the timeouts stand, but for a move that a FAULT ends;
the miss is counted at a channel in service (R117). -/
theorem countMiss_counts (z : Nat) (s : State) :
    ((channel s z).flight = none → (channel (countMiss z s) z).flight = none) ∧
      (channel (countMiss z s) z).lagging = (channel s z).lagging ∧
      (channel (countMiss z s) z).timeouts = (channel s z).timeouts ∧
      (z < s.zones.length → (channel s z).mode.inService = true →
        (channel (countMiss z s) z).misses = (channel s z).misses + 1) := by
  unfold countMiss
  dsimp only
  by_cases below : z < s.zones.length
  · split
    · split
      · rw [channel_enterFault, updChannel_count, if_pos ⟨rfl, below⟩, channel_updChannel, if_pos ⟨rfl, below⟩]
        exact ⟨fun _ => rfl, rfl, rfl, fun _ _ => rfl⟩
      · rw [channel_updChannel, if_pos ⟨rfl, below⟩]
        exact ⟨id, rfl, rfl, fun _ _ => rfl⟩
    case isFalse out => exact ⟨id, rfl, rfl, fun _ inService => absurd inService out⟩
  · rw [if_neg (by rw [channel_beyond (Nat.le_of_not_lt below)]; decide)]
    exact ⟨id, rfl, rfl, fun inside => absurd inside below⟩

theorem missReply_counts {x : Txn} (due : x.start + Config.replyWindow ≤ s.now) :
    ((channel s x.zone).flight = none → (channel (missReply x s) x.zone).flight = none) ∧
      (channel (missReply x s) x.zone).lagging = (channel s x.zone).lagging ∧
      (channel (missReply x s) x.zone).timeouts = (channel s x.zone).timeouts ∧
      (x.zone < s.zones.length → (channel s x.zone).mode.inService = true →
        (channel (missReply x s) x.zone).misses = (channel s x.zone).misses + 1) := by
  have polled : Passes (fun _ => True) (freeLink s) (endClearPoll x (freeLink s)) := endClearPoll_passes x _
  obtain ⟨flight, lagging, timeouts, misses⟩ := countMiss_counts x.zone (endClearPoll x (freeLink s))
  have same : CountsKept (channel s x.zone) (channel (endClearPoll x (freeLink s)) x.zone) := polled.counts x.zone trivial
  have out : channel (missReply x s) x.zone = channel (countMiss x.zone (endClearPoll x (freeLink s))) x.zone := by
    unfold missReply
    rw [advanceTo_reached due]
    simp [finishLink]
  rw [same.flight] at flight
  rw [same.lagging] at lagging
  rw [same.timeouts] at timeouts
  rw [same.mode, same.misses, polled.count] at misses
  rw [out]
  exact ⟨flight, lagging, timeouts, misses⟩

theorem MoveEnded.tickReply {n : Nat} (ended : MoveEnded n (channel s z)) : MoveEnded n (channel (tickReply s) z) := by
  obtain same | ⟨x, due, eq⟩ := tickReply_cases s
  · rw [same]
    exact ended
  · rw [eq]
    by_cases own : z = x.zone
    · obtain ⟨flight, lagging, timeouts, _⟩ := missReply_counts due.2
      subst own
      exact ⟨flight ended.flight, lagging.trans ended.lagging, timeouts.trans ended.timeouts⟩
    · exact ended.kept ((missReply_passes due.2).counts z own)

/-- A miss frees the link and grants it anew, from now on (R111). -/
theorem missReply_linkRuns {x : Txn} (due : x.start + Config.replyWindow ≤ s.now) :
    LinkRuns (freeLink s) (missReply x s) := by
  unfold missReply
  rw [advanceTo_reached due]
  have polled : LinkRuns (freeLink s) (endClearPoll x (freeLink s)) := by
    unfold endClearPoll
    split
    · exact updChannel_linkRuns _ _ _
    · exact .refl _
  refine polled.trans (LinkRuns.trans ?_ (finishLink_linkRuns _))
  unfold countMiss
  split
  · dsimp only
    split
    · exact (updChannel_linkRuns _ _ _).trans (enterFault_linkRuns _ _)
    · exact updChannel_linkRuns _ _ _
  · exact .refl _

/-! ## The abandoned window -/

/-- The link without its abandoned window (R131). -/
def windowClosed (s : State) : State := { s with link := { s.link with abandoned := none } }

theorem tickAbandoned_cases (s : State) :
    tickAbandoned s = s ∧ (∀ start ∈ s.link.abandoned, s.now < start + 400) ∨
      (∃ start ∈ s.link.abandoned, start + 400 ≤ s.now) ∧ tickAbandoned s = arbitrate (windowClosed s) := by
  unfold tickAbandoned
  split
  case h_1 start held =>
    split
    case isTrue due =>
      refine .inr ⟨⟨start, held, due⟩, ?_⟩
      unfold closeWindow
      rw [advanceTo_reached due]
      rfl
    case isFalse waits =>
      refine .inl ⟨rfl, fun start' there => ?_⟩
      obtain rfl := Option.some.inj (held.symm.trans there)
      exact Nat.lt_of_not_le waits
  case h_2 empty => exact .inl ⟨rfl, fun start there => by simp [empty] at there⟩

theorem tickAbandoned_passes (s : State) : Passes P s (tickAbandoned s) := by
  obtain ⟨same, _⟩ | ⟨_, closed⟩ := tickAbandoned_cases s
  · rw [same]
    exact .refl P s
  · rw [closed]
    exact Passes.trans (t := windowClosed s) (.quiet rfl rfl rfl rfl rfl) (arbitrate_passes _)

theorem tickAbandoned_closes {start : Nat} (held : s.link.abandoned = some start) :
    (tickAbandoned s).link.abandoned = if start + 400 ≤ s.now then none else some start := by
  obtain ⟨same, waits⟩ | ⟨⟨start', there, due⟩, closed⟩ := tickAbandoned_cases s
  · rw [same, if_neg (Nat.not_le.mpr (waits start held)), held]
  · obtain rfl := Option.some.inj (held.symm.trans there)
    rw [closed, if_pos due]
    exact (arbitrate_linkRuns _).abandoned

/-- The transaction on the link stays through the close of an abandoned window; a grant starts now. -/
theorem tickAbandoned_txn (s : State) :
    (∀ x ∈ s.link.txn, ∃ y ∈ (tickAbandoned s).link.txn, y.zone = x.zone ∧ y.kind = x.kind ∧ y.start = x.start) ∧
      (s.link.txn = none → ∀ y ∈ (tickAbandoned s).link.txn, y.start = s.now) := by
  obtain ⟨same, _⟩ | ⟨_, closed⟩ := tickAbandoned_cases s
  · rw [same]
    exact ⟨(LinkRuns.refl s).held, (LinkRuns.refl s).granted⟩
  · rw [closed]
    have runs := arbitrate_linkRuns (windowClosed s)
    exact ⟨runs.held, runs.granted⟩

/-! ## FEED REF -/

theorem endHigh_low (low : s.feed.ref.high = false) : endHigh s = s := by simp [endHigh, low]

/-- What the turn of FEED REF leaves alone. -/
theorem tickFeedRef_keeps (s : State) : ∃ r, tickFeedRef s = { s with feed := { s.feed with ref := r } } := by
  unfold tickFeedRef
  split
  · exact ⟨_, rfl⟩
  · split
    case isTrue due =>
      unfold endHigh
      split
      · dsimp only
        rw [advanceTo_reached due]
        exact ⟨_, rfl⟩
      · exact ⟨s.feed.ref, rfl⟩
    · exact ⟨s.feed.ref, rfl⟩

/-- A period that begins now runs on. -/
theorem tickFeedRef_fresh (fresh : FreshRef s) : tickFeedRef s = s := by
  have start : s.feed.ref.start = s.now := by rw [fresh]; rfl
  unfold tickFeedRef
  rw [if_neg (by rw [FeedRef.periodEnd, start]; omega)]
  split
  case isTrue due =>
    refine endHigh_low ?_
    have empty : s.feed.ref.count = 0 := by omega
    have high : s.feed.ref.high = decide (0 < s.feed.ref.count) := by rw [fresh]; rfl
    rw [high, empty]
    rfl
  · rfl

/-- The period that has ended is followed by the next one (R19). -/
theorem tickFeedRef_begins (ended : FreshRef s ∨ s.feed.ref.periodEnd ≤ s.now) :
    (tickFeedRef s).feed.ref = begunRef s := by
  by_cases fresh : FreshRef s
  · rw [tickFeedRef_fresh fresh]
    exact fresh
  · unfold tickFeedRef
    rw [if_pos (ended.resolve_left fresh)]
    rfl

/-- The high part ends within the period (R19). -/
theorem tickFeedRef_falls (within : s.now < s.feed.ref.periodEnd) (high : s.feed.ref.high = true)
    (part : s.feed.ref.count < s.feed.ref.period + 1) (due : s.feed.ref.start + s.feed.ref.count ≤ s.now) :
    (tickFeedRef s).feed.ref = { s.feed.ref with high := false } := by
  unfold tickFeedRef
  rw [if_neg (Nat.not_le.mpr within), if_pos due]
  unfold endHigh
  rw [if_pos (by simp [high, part])]
  rfl

end Sys2Proof.Machine

/-! PROOFS. Every step answers a next state, and what a microsecond brings with an empty queue (O2). -/

namespace Sys2Proof.Machine

variable {s t : State} {z : Nat}

/-! ## Every step answers -/

/-- Every command answers a next state, leaves the queue's rest and, but for a power-on reset, the time at least. -/
theorem exec_answersNext (c : Instr) (s : State) : ∃ t, exec c s = .next t ∧ t.pending = s.pending ∧
    ((∀ pins, c ≠ .powerOnReset pins) → s.now ≤ t.now) := by
  by_cases power : ∃ pins, c = .powerOnReset pins
  · obtain ⟨pins, rfl⟩ := power
    refine ⟨_, rfl, ?_, fun other => absurd rfl (other pins)⟩
    exact (exec_powerOn_trail (s := s) (pins := pins) rfl).queue.1
  · by_cases isReset : c = .reset
    · subst isReset
      obtain ⟨pending, now⟩ := (exec_reset_trail (s := s) rfl).queue
      exact ⟨_, rfl, pending, fun _ => now⟩
    · obtain ⟨t, next, path⟩ := (exec_leads c s ⟨fun pins same => power ⟨pins, same⟩, isReset⟩).exists
      exact ⟨t, next, path.queue.1, fun _ => path.queue.2⟩

/-! ## One microsecond -/

/-- The moment after. -/
def nextMoment (s : State) : State := { s with now := s.now + 1 }

/-- The state in which the reply window has its turn. -/
@[irreducible] def tickMoved (s : State) : State := forZones tickMove (tickDwell (nextMoment s))

theorem tickMoved_eq (s : State) : tickMoved s = forZones tickMove (tickDwell (nextMoment s)) := by
  delta tickMoved
  exact .refl _

/-- The state in which FEED REF has its turn. -/
@[irreducible] def tickLinked (s : State) : State := tickAbandoned (tickReply (tickMoved s))

theorem tickLinked_eq (s : State) : tickLinked s = tickAbandoned (tickReply (tickMoved s)) := by
  delta tickLinked
  exact .refl _

theorem tick_eq (s : State) : tick s = tickFeedRef (tickLinked s) := by
  rw [tickLinked_eq, tickMoved_eq]
  delta tick nextMoment
  exact .refl _

/-- The turn of FEED REF changes nothing else. -/
theorem tick_keeps (s : State) : ∃ r, tick s = { tickLinked s with feed := { (tickLinked s).feed with ref := r } } := by
  rw [tick_eq]
  exact tickFeedRef_keeps _

theorem tick_channel (z : Nat) (s : State) : channel (tick s) z = channel (tickLinked s) z := by
  obtain ⟨r, eq⟩ := tick_keeps s
  rw [eq]
  rfl

theorem tick_link (s : State) : (tick s).link = (tickLinked s).link := by
  obtain ⟨r, eq⟩ := tick_keeps s
  rw [eq]

theorem tick_gate (s : State) : gateClosed (tick s) = gateClosed (tickLinked s) := by
  obtain ⟨r, eq⟩ := tick_keeps s
  rw [eq]
  rfl

/-- Before the turn of FEED REF, from the controller that the dwell timer's turn leaves. -/
theorem tickLinked_passes (s : State) : ∃ c : Controller, c.phase = s.ctl.phase ∧
    Passes (fun _ => False) { nextMoment s with ctl := c } (tickLinked s) ∧
    (DwellDue (nextMoment s) → c.dwell.running = false ∧ c.flags = s.ctl.flags ||| WakeFlag.timer.bit) ∧
    (¬ DwellDue (nextMoment s) → c.flags = s.ctl.flags) := by
  obtain ⟨c, phase, dwell, due, waits⟩ := tickDwell_passes (nextMoment s)
  refine ⟨c, phase, ?_, due, waits⟩
  rw [tickLinked_eq, tickMoved_eq]
  exact (((dwell.mono fun _ _ => trivial).trans (tickMoves_passes _)).trans (tickReply_passes _)).trans
    (tickAbandoned_passes _)

theorem tickMoved_linkRuns (s : State) : LinkRuns (nextMoment s) (tickMoved s) := by
  rw [tickMoved_eq]
  exact (tickDwell_linkRuns _).trans (tickMoves_linkRuns _)

theorem tickDwell_counts (z : Nat) (s : State) : CountsKept (channel s z) (channel (tickDwell (nextMoment s)) z) := by
  obtain ⟨c, _, passes, _⟩ := tickDwell_passes (nextMoment s)
  exact passes.counts z trivial

theorem tickDwell_now (s : State) : (tickDwell (nextMoment s)).now = s.now + 1 := (tickDwell_linkRuns _).now

theorem tickMoved_now (s : State) : (tickMoved s).now = s.now + 1 := (tickMoved_linkRuns s).now

/-- The dwell timer expires at its end alone (R149). -/
theorem tick_dwell (s : State) :
    (tick s).now = s.now + 1 ∧
    (DwellDue (nextMoment s) → (tick s).ctl.dwell.running = false ∧
      (tick s).ctl.flags = s.ctl.flags ||| WakeFlag.timer.bit) ∧
    (¬ DwellDue (nextMoment s) → (tick s).ctl.flags = s.ctl.flags) := by
  obtain ⟨c, _, passes, due, waits⟩ := tickLinked_passes s
  obtain ⟨r, eq⟩ := tick_keeps s
  rw [eq]
  refine ⟨passes.now, fun d => ?_, fun w => ?_⟩
  · obtain ⟨stopped, flags⟩ := due d
    exact ⟨passes.stopped stopped, passes.flags.trans flags⟩
  · exact passes.flags.trans (waits w)

/-- A move whose deadline has come times out (R118). -/
theorem tick_moves {m : Move} (below : z < 16) (moving : (channel s z).flight = some m) (due : m.deadline ≤ s.now + 1) :
    MoveEnded ((channel s z).timeouts + 1) (channel (tick s) z) ∧
      Keeps LineNotice.zoneLagging.bit (tick s).line.notices := by
  have same := tickDwell_counts z s
  obtain ⟨ended, raised⟩ := tickMoves_ends (s := tickDwell (nextMoment s)) below (same.flight.trans moving)
    (by rw [tickDwell_now]; exact due)
  rw [same.timeouts] at ended
  rw [← tickMoved_eq] at ended raised
  constructor
  · rw [tick_channel, tickLinked_eq]
    have passes : Passes (fun _ => True) (tickReply (tickMoved s)) (tickAbandoned (tickReply (tickMoved s))) :=
      tickAbandoned_passes _
    exact ended.tickReply.kept (passes.counts z trivial)
  · have path : Trail .miss (tickMoved s) (tick s) := by
      rw [tick_eq, tickLinked_eq]
      exact ((tickReply_trail rfl).trans tickAbandoned_trail).trans tickFeedRef_trail
    exact raised.trans (path.flagsKept.line (by simp)).1

/-- The reply window that closes is a miss of its channel, and the link is granted anew from now (R111, R117). -/
theorem tick_reply {x : Txn} (held : s.link.txn = some x) (due : x.start + 400 ≤ s.now + 1) :
    (∀ y ∈ (tick s).link.txn, y.start = s.now + 1) ∧
      (x.zone < s.zones.length → (channel s x.zone).mode.inService = true → (channel s x.zone).flight = none →
        (channel (tick s) x.zone).misses = (channel s x.zone).misses + 1) := by
  obtain ⟨y, there, zone, kind, start⟩ := (tickMoved_linkRuns s).held x held
  have closed : y.start + Config.replyWindow ≤ (tickMoved s).now := by
    rw [start, tickMoved_now]
    exact due
  have missed : tickReply (tickMoved s) = missReply y (tickMoved s) := tickReply_due ⟨there, closed⟩
  constructor
  · intro w last
    rw [tick_link, tickLinked_eq, missed] at last
    have runs := missReply_linkRuns closed
    obtain ⟨kept, granted⟩ := tickAbandoned_txn (missReply y (tickMoved s))
    cases next : (missReply y (tickMoved s)).link.txn with
    | none => rw [granted next w last, runs.now]; exact tickMoved_now s
    | some v =>
      obtain ⟨w', last', _, _, start'⟩ := kept v next
      obtain rfl := Option.some.inj (last.symm.trans last')
      rw [start', runs.granted rfl v next]
      exact tickMoved_now s
  · intro below inService still
    have dwell := tickDwell_counts x.zone s
    have same : CountsKept (channel s x.zone) (channel (tickMoved s) x.zone) := by
      rw [tickMoved_eq]
      exact dwell.trans (tickMoves_still (dwell.flight.trans still))
    have count : (tickMoved s).zones.length = s.zones.length := by
      obtain ⟨c, _, passes, _⟩ := tickDwell_passes (nextMoment s)
      rw [tickMoved_eq]
      exact (tickMoves_passes _).count.trans passes.count
    obtain ⟨_, _, _, misses⟩ := missReply_counts (x := y) closed
    rw [zone] at misses
    rw [tick_channel, tickLinked_eq, missed,
      ((tickAbandoned_passes (P := fun _ => True) _).counts x.zone trivial).misses, ← same.misses]
    exact misses (count ▸ below) (same.mode ▸ inService)

/-- A transaction whose window is still open stays on the link. -/
theorem tick_waits {x : Txn} (held : s.link.txn = some x) (waits : s.now + 1 < x.start + 400) :
    (tick s).link.txn.map (fun y => (y.zone, y.kind, y.start)) = some (x.zone, x.kind, x.start) := by
  obtain ⟨y, there, zone, kind, start⟩ := (tickMoved_linkRuns s).held x held
  have same : tickReply (tickMoved s) = tickMoved s := by
    refine tickReply_waits fun v there' => ?_
    obtain rfl := Option.some.inj (there.symm.trans there')
    rw [start, tickMoved_now]
    exact waits
  obtain ⟨w, last, zone', kind', start'⟩ := (tickAbandoned_txn (tickMoved s)).1 y there
  rw [tick_link, tickLinked_eq, same, show (tickAbandoned (tickMoved s)).link.txn = some w from last]
  simp only [Option.map_some, zone', kind', start', zone, kind, start]

/-- An abandoned window closes at its end alone (R131). -/
theorem tick_abandoned {start : Nat} (held : s.link.abandoned = some start) :
    (tick s).link.abandoned = if start + 400 ≤ s.now + 1 then none else some start := by
  have moved : (tickMoved s).link.abandoned = some start := (tickMoved_linkRuns s).abandoned.trans held
  have replied : (tickReply (tickMoved s)).link.abandoned = some start ∧ (tickReply (tickMoved s)).now = s.now + 1 := by
    obtain same | ⟨x, due, eq⟩ := tickReply_cases (tickMoved s)
    · rw [same]
      exact ⟨moved, tickMoved_now s⟩
    · rw [eq]
      have runs := missReply_linkRuns (s := tickMoved s) due.2
      exact ⟨runs.abandoned.trans moved, runs.now.trans (tickMoved_now s)⟩
  rw [tick_link, tickLinked_eq, tickAbandoned_closes replied.1, replied.2]

/-- A period of FEED REF is followed by the next (R19). -/
theorem tick_period (ended : s.feed.ref.start + s.feed.ref.period + 1 ≤ s.now + 1) :
    (tick s).feed.ref = .begun s.feed.period s.feed.effective (s.now + 1) (gateClosed (tick s)) := by
  obtain ⟨c, phase, passes, _⟩ := tickLinked_passes s
  have period : (tickLinked s).feed.period = s.feed.period := (congrArg Feed.period passes.core :)
  have effective : (tickLinked s).feed.effective = s.feed.effective := (congrArg Feed.effective passes.core :)
  have now : (tickLinked s).now = s.now + 1 := passes.now
  have due : FreshRef (tickLinked s) ∨ (tickLinked s).feed.ref.periodEnd ≤ (tickLinked s).now := by
    refine passes.period.imp_right fun ⟨start, same⟩ => ?_
    rw [FeedRef.periodEnd, start, same, now]
    exact ended
  rw [tick_gate, tick_eq, tickFeedRef_begins due, begunRef, period, effective, now]

/-- The high part of a period ends where no transition comes between (R19). -/
theorem tick_high (within : s.now + 1 < s.feed.ref.start + s.feed.ref.period + 1) (high : s.feed.ref.high = true)
    (part : s.feed.ref.count < s.feed.ref.period + 1) (due : s.feed.ref.start + s.feed.ref.count ≤ s.now + 1)
    (phase : (tick s).ctl.phase = s.ctl.phase) : (tick s).feed.ref = { s.feed.ref with high := false } := by
  obtain ⟨c, was, passes, _⟩ := tickLinked_passes s
  have ctl : (tick s).ctl = (tickLinked s).ctl := by
    obtain ⟨r, eq⟩ := tick_keeps s
    rw [eq]
  have ref : (tickLinked s).feed.ref = s.feed.ref := passes.phase_of (by rw [← ctl, phase]; exact was.symm)
  have now : (tickLinked s).now = s.now + 1 := passes.now
  rw [tick_eq, tickFeedRef_falls, ref]
  · rw [ref, now]
    exact within
  · rw [ref]
    exact high
  · rw [ref]
    exact part
  · rw [ref, now]
    exact due

/-- Where no timer ends, the time alone changes. -/
theorem tick_still (dwell : ¬ DwellDue (nextMoment s))
    (moves : ∀ z, z < 16 → ∀ m ∈ (channel s z).flight, s.now + 1 < m.deadline)
    (reply : ∀ x ∈ s.link.txn, s.now + 1 < x.start + 400)
    (window : ∀ start ∈ s.link.abandoned, s.now + 1 < start + 400)
    (period : s.now + 1 < s.feed.ref.start + s.feed.ref.period + 1)
    (high : ¬ (s.feed.ref.high = true ∧ s.feed.ref.count < s.feed.ref.period + 1 ∧
      s.feed.ref.start + s.feed.ref.count ≤ s.now + 1)) : tick s = nextMoment s := by
  have moved : tickMoved s = nextMoment s := by
    rw [tickMoved_eq, tickDwell_waits dwell]
    exact forZones_fixed fun z below => tickMove_waits (moves z below)
  have linked : tickLinked s = nextMoment s := by
    rw [tickLinked_eq, moved, tickReply_waits (s := nextMoment s) reply]
    obtain ⟨same, _⟩ | ⟨⟨start, held, due⟩, _⟩ := tickAbandoned_cases (nextMoment s)
    · exact same
    · exact absurd due (Nat.not_le.mpr (window start held))
  rw [tick_eq, linked]
  unfold tickFeedRef
  rw [if_neg (show ¬ (nextMoment s).feed.ref.periodEnd ≤ (nextMoment s).now from Nat.not_le.mpr period)]
  split
  case isTrue due =>
    unfold endHigh
    rw [if_neg]
    intro ends
    simp only [Bool.and_eq_true, decide_eq_true_eq] at ends
    exact high ⟨ends.1, ends.2, due⟩
  case isFalse => rfl

/-- Settles O2: every command leads on, and in a microsecond each timer takes its own turn, which the others' turns
leave as it was. -/
theorem everyStepAnswersNext : Obligations.EveryStepAnswersNext := by
  intro s
  cases front : s.pending with
  | cons c rest =>
    obtain ⟨t, next, pending, now⟩ := exec_answersNext c { s with pending := rest }
    refine ⟨t, (step_cons front).trans next, pending, fun running => now fun pins same => ?_, fun empty => ?_⟩
    · exact running pins rest (same ▸ rfl)
    · exact absurd empty (by simp)
  | nil =>
    obtain ⟨now, dwellDue, dwellWaits⟩ := tick_dwell s
    refine ⟨tick s, step_nil front, ?_, fun _ => by omega, fun _ => ⟨now, dwellDue, dwellWaits, ?_, ?_, ?_, ?_, ?_, ?_, ?_⟩⟩
    · exact (tick_trail (c := .miss) rfl).queue.1.trans front
    · intro z m below moving due
      obtain ⟨⟨flight, lagging, timeouts⟩, raised⟩ := tick_moves below moving due
      refine ⟨flight, lagging, timeouts, ?_⟩
      rw [BitVec.and_comm]
      exact raised
    · exact fun x held due => tick_reply held due
    · exact fun x held waits => tick_waits held waits
    · exact fun start held => tick_abandoned held
    · exact fun ended => tick_period ended
    · exact fun within ⟨high, part, due⟩ phase => tick_high within high part due phase
    · intro dwell moves reply window period high
      rw [tick_still dwell moves reply window period high, nextMoment, front]

end Sys2Proof.Machine

/-! PROOFS. The outstanding strobe list: what each operation makes of it (O8). -/

namespace Sys2Proof.Machine

variable {c : Instr} {s t : State}

/-! ## The strobe base -/

/-- Two states that number and place the strobes alike. -/
theorem Feed.base_eq {f g : Feed} (same : g.base = f.base) : g.f = f.f ∧ g.h = f.h ∧ g.sync = f.sync ∧
    g.nextNum = f.nextNum ∧ g.nextPos = f.nextPos ∧ g.newest = f.newest := by
  simpa [Feed.base] using same

theorem Feed.base_of_core {f g : Feed} (same : g.core = f.core) : g.base = f.base := (congrArg Feed.base same :)

theorem applyGate_core (s : State) : (applyGate s).feed.core = s.feed.core := by
  unfold applyGate
  split
  · rfl
  · split
    · rfl
    · rfl

theorem enterPhase_base (p : Phase) (s : State) : (enterPhase p s).feed.base = s.feed.base :=
  Feed.base_of_core (enterPhase_core p s)

theorem settle_base (s : State) : (settle s).feed.base = s.feed.base := Feed.base_of_core (settle_core s)

/-! ## The list -/

/-- The rules about the outstanding list, but for the reply at its head, which the departures keep at every moment. -/
structure ListSound (s : State) : Prop where
  short : s.intake.list.length ≤ 16
  consecutive : Consecutive s.intake.list
  tail : ∀ e ∈ s.intake.list.getLast?, e.num + 1 = s.feed.nextNum
  newest : ∀ n ∈ s.feed.newest, n.num + 1 = s.feed.nextNum
  issued : s.intake.list ≠ [] → s.feed.newest.isSome = true
  settling : s.feed.sync = .settling → s.intake.list = [] ∧ s.feed.newest = none

/-- The head of a list holds no reply (R32). -/
def Unreplied (l : List Entry) : Prop := ∀ e ∈ l.head?, e.reply = none

theorem outstandingSound_iff : OutstandingSound s ↔ ListSound s ∧ Unreplied s.intake.list := by
  constructor
  · rintro ⟨short, consecutive, head, tail, newest, issued, settling⟩
    exact ⟨⟨short, consecutive, tail, newest, issued, settling⟩, head⟩
  · rintro ⟨⟨short, consecutive, tail, newest, issued, settling⟩, head⟩
    exact ⟨short, consecutive, head, tail, newest, issued, settling⟩

theorem Consecutive.tail {e : Entry} {l : List Entry} (consecutive : Consecutive (e :: l)) : Consecutive l := by
  cases l with
  | nil => trivial
  | cons f rest => exact consecutive.2

theorem Consecutive.drop {l : List Entry} (consecutive : Consecutive l) (k : Nat) : Consecutive (l.drop k) := by
  induction k generalizing l with
  | zero => exact consecutive
  | succ k ih =>
    cases l with
    | nil => trivial
    | cons e rest => exact ih consecutive.tail

/-- A number that follows the last one joins at the tail. -/
theorem Consecutive.append {l : List Entry} {e : Entry} (consecutive : Consecutive l)
    (next : ∀ d ∈ l.getLast?, e.num = d.num + 1) : Consecutive (l ++ [e]) := by
  induction l with
  | nil => trivial
  | cons d rest ih =>
    cases rest with
    | nil => exact ⟨next d rfl, trivial⟩
    | cons f rest =>
      exact ⟨consecutive.1, ih consecutive.2 fun x last => next x (by rwa [List.getLast?_cons_cons])⟩

/-- A change of the entries that keeps their numbers. -/
theorem Consecutive.map {l : List Entry} {f : Entry → Entry} (num : ∀ e, (f e).num = e.num)
    (consecutive : Consecutive l) : Consecutive (l.map f) := by
  induction l with
  | nil => trivial
  | cons d rest ih =>
    cases rest with
    | nil => trivial
    | cons e rest => exact ⟨by rw [num, num]; exact consecutive.1, ih consecutive.2⟩

/-- The list after departures from its head. -/
theorem ListSound.dropped (sound : ListSound s) {k : Nat} (list : t.intake.list = s.intake.list.drop k)
    (sync : t.feed.sync = s.feed.sync) (nextNum : t.feed.nextNum = s.feed.nextNum)
    (newest : t.feed.newest = s.feed.newest) : ListSound t where
  short := by
    rw [list, List.length_drop]
    exact (Nat.sub_le _ _).trans sound.short
  consecutive := list ▸ sound.consecutive.drop k
  tail e last := by
    rw [list, List.getLast?_drop] at last
    split at last
    · exact absurd last (by simp)
    · exact (sound.tail e last).trans nextNum.symm
  newest n held := (sound.newest n (newest ▸ held)).trans nextNum.symm
  issued some := by
    rw [newest]
    refine sound.issued fun empty => some ?_
    rw [list, empty, List.drop_nil]
  settling settles := by
    obtain ⟨empty, absent⟩ := sound.settling (sync ▸ settles)
    exact ⟨by rw [list, empty, List.drop_nil], newest ▸ absent⟩

theorem ListSound.same (sound : ListSound s) (list : t.intake.list = s.intake.list)
    (base : t.feed.base = s.feed.base) : ListSound t := by
  obtain ⟨_, _, sync, nextNum, _, newest⟩ := Feed.base_eq base
  exact sound.dropped (k := 0) list sync nextNum newest

theorem OutstandingSound.same (sound : OutstandingSound s) (list : t.intake.list = s.intake.list)
    (base : t.feed.base = s.feed.base) : OutstandingSound t := by
  rw [outstandingSound_iff] at sound ⊢
  exact ⟨sound.1.same list base, list ▸ sound.2⟩

/-- The list emptied, or as it was. -/
theorem OutstandingSound.emptied (sound : OutstandingSound s) (list : t.intake.list = [])
    (base : t.feed.base = s.feed.base) : OutstandingSound t := by
  obtain ⟨_, _, sync, nextNum, _, newest⟩ := Feed.base_eq base
  rw [outstandingSound_iff] at sound ⊢
  refine ⟨sound.1.dropped (k := s.intake.list.length) (by rw [list, List.drop_length]) sync nextNum newest, ?_⟩
  rw [list]
  exact fun e held => absurd held (by simp)

/-- The commands apart from those that move strobes, slices or hides on leave the list or empty it. -/
theorem Change.outstandingSound (change : Change c s t) (quiet : moves c = false) (sound : OutstandingSound s) :
    OutstandingSound t := by
  have still : ¬ moves c = true := Bool.eq_false_iff.mp quiet
  cases change with
  | port i l list => exact sound.same list rfl
  | gaugeNotice n => exact sound.same (raiseGauge_list n s) (by simp)
  | feed f step kept => exact sound.same rfl (kept.resolve_right still)
  | period => exact sound.same rfl rfl
  | haltLevel b =>
    refine sound.same (by simp) (Feed.base_of_core ?_)
    rw [applyGate_core]
  | phase p => exact sound.same (by simp) (enterPhase_base p s)
  | list l _ _ kept => exact sound.emptied (kept.resolve_right still) rfl
  | join num pos permitted moving => exact absurd moving still
  | strobe newest num pos pulse => exact absurd (moves_of_pulse pulse) still
  | finish h tr => exact sound.same (by simp) (by simp)
  | knife offsets =>
    obtain ⟨_, eq⟩ | ⟨_, eq⟩ := takeKnife_cases offsets s <;> rw [eq] <;> exact sound.same rfl rfl
  | _ => exact sound.same rfl rfl

theorem Trail.outstandingSound (path : Trail c s t) (quiet : moves c = false) (sound : OutstandingSound s) :
    OutstandingSound t := path.keeps (fun _ _ change => change.outstandingSound quiet) sound

theorem settle_outstandingSound (sound : OutstandingSound s) : OutstandingSound (settle s) :=
  Trail.outstandingSound (c := .miss) settle_trail rfl sound

/-! ## Departures, replies and strobes -/

theorem departAll_listSound (k : Nat) (sound : ListSound s) : ListSound (departAll k s) :=
  sound.dropped (departAll_list k s) (by simp) (by simp) (by simp)

/-- The departures due leave a head without a reply (R32). -/
theorem departDue_outstandingSound (sound : ListSound s) : OutstandingSound (departDue s) := by
  obtain ⟨k, eq, _, _, behind⟩ := departDue_eq s
  rw [outstandingSound_iff, eq]
  exact ⟨departAll_listSound k sound, by rw [departAll_list]; exact behind⟩

theorem departHead_listSound (sound : ListSound s) : ListSound (departHead s) := departAll_listSound 1 sound

theorem storeReply_listSound (n : Num) (reply : List Reading) (sound : ListSound s) : ListSound (storeReply n reply s) := by
  have num : ∀ e : Entry, (if e.num = n then { e with reply := some reply } else e).num = e.num := fun e => by
    split <;> rfl
  refine ⟨?_, sound.consecutive.map num, fun e last => ?_, sound.newest, fun some => ?_, fun settles => ?_⟩
  · simpa [storeReply] using sound.short
  · simp only [storeReply, List.getLast?_map, Option.mem_def, Option.map_eq_some_iff] at last
    obtain ⟨d, last, rfl⟩ := last
    rw [num]
    exact sound.tail d last
  · refine sound.issued fun empty => some ?_
    simp [storeReply, empty]
  · obtain ⟨empty, absent⟩ := sound.settling settles
    exact ⟨by simp [storeReply, empty], absent⟩

/-- The state in which a full list has given up its head (R31). -/
def listRoom (s : State) : State := if Config.listCapacity ≤ s.intake.list.length then departDue (departHead s) else s

theorem listRoom_outstandingSound (sound : OutstandingSound s) :
    OutstandingSound (listRoom s) ∧ (listRoom s).intake.list.length < 16 := by
  have loose := (outstandingSound_iff.mp sound).1
  unfold listRoom
  split
  case isTrue full =>
    refine ⟨departDue_outstandingSound (departHead_listSound loose), ?_⟩
    obtain ⟨k, eq, _⟩ := departDue_eq (departHead s)
    rw [Config.listCapacity] at full
    have short := loose.short
    rw [eq, departAll_list, departHead_list, List.length_drop, List.length_tail]
    omega
  case isFalse room => exact ⟨sound, Nat.lt_of_not_le room⟩

theorem listRoom_feed (s : State) : (listRoom s).feed = s.feed := by
  unfold listRoom
  split <;> simp

theorem issueStrobe_list (s : State) : (issueStrobe s).intake.list =
    (listRoom s).intake.list ++ [{ num := s.feed.nextNum, pos := s.feed.nextPos, reply := none }] := rfl

/-- The issue of a strobe in LOCKED (R12, R31). -/
theorem issueStrobe_outstandingSound (sound : OutstandingSound s) (locked : s.feed.sync = .locked) :
    OutstandingSound (issueStrobe s) := by
  obtain ⟨room, short⟩ := listRoom_outstandingSound sound
  rw [outstandingSound_iff] at room ⊢
  obtain ⟨loose, head⟩ := room
  have nextNum : (listRoom s).feed.nextNum = s.feed.nextNum := by rw [listRoom_feed]
  refine ⟨⟨?_, ?_, ?_, ?_, fun _ => by rw [issueStrobe_feed]; rfl, fun settles => ?_⟩, ?_⟩
  · rw [issueStrobe_list, List.length_append]
    exact short
  · rw [issueStrobe_list]
    exact loose.consecutive.append fun d last => ((loose.tail d last).trans nextNum).symm
  · rw [issueStrobe_list, issueStrobe_feed]
    intro e last
    obtain rfl : _ = e := by simpa using last
    rfl
  · rw [issueStrobe_feed]
    rintro n held
    obtain rfl := Option.some.inj held
    rfl
  · rw [issueStrobe_feed] at settles
    exact absurd (locked.symm.trans settles) (by decide)
  · rw [issueStrobe_list]
    cases list : (listRoom s).intake.list with
    | nil => exact fun e held => by obtain rfl := Option.some.inj held; rfl
    | cons d rest => rw [list] at head; exact head

/-- The end of settling begins a numbering with nothing outstanding (R10). -/
theorem lockSync_outstandingSound (sound : OutstandingSound s) : OutstandingSound (lockSync s) := by
  unfold lockSync
  split
  case isTrue settles =>
    simp only [Bool.and_eq_true, decide_eq_true_eq] at settles
    obtain ⟨empty, absent⟩ := settling_empty sound settles.1
    refine OutstandingSound.same (s := { s with feed := { s.feed with sync := .locked, nextNum := 0, nextPos := s.feed.h } })
      ?_ (by rw [raiseGauge_list, raiseLine_intake]) (by simp)
    rw [outstandingSound_iff]
    refine ⟨⟨?_, ?_, ?_, ?_, fun some => absurd empty some, fun locked => absurd locked (by simp)⟩, ?_⟩
    · simp [empty]
    · simp [empty, Consecutive]
    · simp [empty]
    · simp [absent]
    · simp [empty, Unreplied]
  case isFalse => exact sound

theorem lockSync_feed_moved (f : Pos) (sound : OutstandingSound s) :
    OutstandingSound { s with feed := { s.feed with nextPos := f } } := sound

theorem riseStrobe_outstandingSound (sound : OutstandingSound s) : OutstandingSound (riseStrobe s) := by
  have locked := lockSync_outstandingSound sound
  unfold riseStrobe
  dsimp only
  split
  case isTrue may =>
    simp only [mayIssue, Bool.and_eq_true, decide_eq_true_eq] at may
    split
    · exact issueStrobe_outstandingSound locked may.1
    · exact locked
  case isFalse => exact lockSync_feed_moved _ locked

/-! ## The events of a rise -/

theorem riseLead_outstandingSound (sound : OutstandingSound s) : OutstandingSound (riseLead s) := by
  unfold riseLead
  split
  · split
    · exact sound.same (by simp) (by simp)
    · exact sound
  · split
    · exact sound
    · split
      · refine departDue_outstandingSound ((departHead_listSound (outstandingSound_iff.mp sound).1).same ?_ ?_)
        · unfold convertEntered
          split <;> simp
        · unfold convertEntered
          split <;> simp
      · exact sound

theorem riseEvent_outstandingSound (e : RiseEvent) (sound : OutstandingSound s) : OutstandingSound (riseEvent e s) := by
  have kept : ∀ {u : State}, u.intake.list = s.intake.list → u.feed.base = s.feed.base → OutstandingSound (settle u) :=
    fun list base => settle_outstandingSound (sound.same list base)
  cases e with
  | strobe => exact settle_outstandingSound (riseStrobe_outstandingSound sound)
  | slip =>
    refine settle_outstandingSound ?_
    unfold riseSlip
    split
    · split
      · unfold slipFound
        dsimp only
        split
        · exact sound.same (by simp [openWindow]) (by simp [openWindow, Feed.base])
        · exact sound.same (by simp [openWindow]) (by simp [openWindow, Feed.base])
      · exact sound.same rfl rfl
    · exact sound
  | lead => exact settle_outstandingSound (riseLead_outstandingSound sound)
  | knife => exact kept (by simp) (by simp)
  | length => exact kept (by simp) (by simp)

theorem riseEvents_outstandingSound (es : List RiseEvent) (sound : OutstandingSound s) :
    OutstandingSound (riseEvents es s) := by
  induction es generalizing s with
  | nil => exact sound
  | cons e es ih => exact ih (riseEvent_outstandingSound e sound)

/-! ## Falls and the emptying -/

/-- A flush out of SETTLING leaves no numbering. -/
theorem flush_enterSettling_outstandingSound (cause : AbandonCause) (s : State) :
    OutstandingSound (settle (restartWindow (flush cause (enterSettling s)))) := by
  refine settle_outstandingSound ?_
  rw [outstandingSound_iff]
  have list : (restartWindow (flush cause (enterSettling s))).intake.list = [] := by
    simp [restartWindow, openWindow, flush, emptyTrack_eq]
  have feed : (restartWindow (flush cause (enterSettling s))).feed.newest = none := by
    simp [restartWindow, openWindow, flush, enterSettling]
  refine ⟨⟨by simp [list], by simp [list, Consecutive], by simp [list], by simp [feed], fun some => absurd list some,
    fun _ => ⟨list, feed⟩⟩, by simp [list, Unreplied]⟩

end Sys2Proof.Machine

/-! PROOFS. The moves that a command makes of strobes, slices and hides, beyond an emptying; and the outstanding list
over all of them (O8). -/

namespace Sys2Proof.Machine

variable {c : Instr} {s t u : State}

/-! ## What moves strobes, slices and hides -/

/-- The moves of strobes, slices and hides that commands make; nothing else of them moves, but for an emptying. -/
inductive Moved (s : State) : State → Prop
  | none : Moved s s
  | pulse (a b : Bool) (order : List RiseEvent) : Moved s (bottomPulse order (s.feed.botRef.step ⟨a, b⟩)
      { s with feed := { s.feed with botRef := ⟨a, b⟩ } })
  | reply (n : Num) (reply : List Reading) : Moved s (departDue (storeReply n reply s))
  | announce (e : Entry) (tag : Num) (held : e ∈ s.intake.list) (issued : s.feed.newest.isSome = true)
      (available : recordAvailable e.num s = true) : Moved s (openNew e tag s)
  | ended (r : HideRecord) (e : Num) (forced : Bool) (isOpen : openHide s = some r) : Moved s (endAt r.number e forced s)
  | gaugeReset : Moved s (forceOpenEnd (departAll s.intake.list.length s))
  | abandoned (hide : Num) (r : HideRecord) (found : findHide s hide = some r) (unfinished : r.state.unfinished = true) :
      Moved s (takeAbandon hide s)
  | released (hide : Num) (r : HideRecord) (found : findHide s hide = some r) (finished : r.state.unfinished = false) :
      Moved s (takeRelease hide s)
  | geometry (g : Geometry) (standby : s.ctl.phase = .standby) (passes : geometryItem g = 0) : Moved s (takeGeometry g s)
  | scale (v : Nat) : Moved s (takeScale v s)

/-- A move, between trails of changes that move nothing. -/
def MovedQuietly (s t : State) : Prop := ∃ d, moves d = false ∧ ∃ v u, Trail d s v ∧ Moved v u ∧ Trail d u t

theorem MovedQuietly.of_trail {d : Instr} (path : Trail d s t) (quiet : moves d = false := by rfl) : MovedQuietly s t :=
  ⟨d, quiet, s, s, .refl, .none, path⟩

theorem Moved.quietly (moved : Moved s u) (path : Trail .miss u t) : MovedQuietly s t := ⟨.miss, rfl, s, u, .refl, moved, path⟩

/-! ## Each command -/

theorem execSlice_moved (n : Num) (raw : List (BitVec 16)) (s : State) : Leads (MovedQuietly s) (execSlice n raw s) := by
  have refused : ∀ st, MovedQuietly s (refuseSlice st s) := fun st => .of_trail (d := .miss) (refuseSlice_trail st)
  unfold execSlice
  split
  · exact .of_trail (d := .miss) (answerGaugeBadFrame_trail _)
  · split
    · exact refused _
    · show MovedQuietly s (slice n _ s)
      unfold slice
      split
      · exact refused _
      · split
        · exact refused _
        · split
          · exact .of_trail (d := .miss)
              ((intake_trail { s.intake with late := bump s.intake.late } rfl rfl rfl).trans (refuseSlice_trail _))
          · split
            · exact .of_trail (d := .miss) ((intake_trail { s.intake with duplicate := bump s.intake.duplicate } rfl rfl rfl).trans
                (refuseSlice_trail _))
            · exact (Moved.reply n _).quietly (answerGauge_trail _ _ _)

theorem execAnnounce_moved (f tag : Num) (s : State) : Leads (MovedQuietly s) (execAnnounce f tag s) := by
  have refused : ∀ st, MovedQuietly s (refuseAnnounce st s) := fun st => .of_trail (d := .miss) (refuseAnnounce_trail st)
  unfold execAnnounce
  split
  · exact refused _
  · show MovedQuietly s (announce f tag s)
    unfold announce
    split
    · exact refused _
    · split
      · exact refused _
      next newest issued =>
        split
        · exact refused _
        · split
          · exact refused _
          next e found =>
            obtain rfl : e.num = f := by simpa using List.find?_some found
            split
            · exact refused _
            · split
              · exact refused _
              next available =>
                exact (Moved.announce e tag (List.mem_of_find?_eq_some found) (by rw [issued]; rfl)
                  (by simpa using available)).quietly (answerGauge_trail _ _ _)

theorem execEndHide_moved (last : Num) (s : State) : Leads (MovedQuietly s) (execEndHide last s) := by
  have refused : ∀ st, MovedQuietly s (refuseEnd st s) := fun st => .of_trail (d := .miss) (refuseEnd_trail st)
  unfold execEndHide
  split
  · exact refused _
  · show MovedQuietly s (endRequest last s)
    unfold endRequest
    split
    · exact refused _
    next r isOpen =>
      split
      · exact refused _
      · exact (Moved.ended r _ _ isOpen).quietly (settle_trail.trans (answerGauge_trail _ _ _))

theorem execGaugeReset_moved (s : State) : Leads (MovedQuietly s) (execGaugeReset s) := by
  unfold execGaugeReset
  split
  · exact .of_trail (d := .miss) (answerGauge_trail _ _ _)
  · exact ⟨.miss, rfl, _, _, gaugePort_trail { s.intake.port with rx := none }, .gaugeReset,
      settle_trail.trans (answerGauge_trail _ _ _)⟩

theorem execAbandon_moved (hide : Num) (s : State) : Leads (MovedQuietly s) (execAbandon hide s) := by
  unfold execAbandon
  split
  · exact .of_trail (d := .miss) (answerLine_trail _ _ _)
  next r found =>
    split
    next unfinished => exact (Moved.abandoned hide r found unfinished).quietly (answerLine_trail _ _ _)
    · exact .of_trail (d := .miss) (answerLine_trail _ _ _)

theorem execRelease_moved (hide : Num) (s : State) : Leads (MovedQuietly s) (execRelease hide s) := by
  unfold execRelease
  split
  · exact .of_trail (d := .miss) (answerLine_trail _ _ _)
  next r found =>
    split
    · exact .of_trail (d := .miss) (answerLine_trail _ _ _)
    next finished => exact (Moved.released hide r found (Bool.eq_false_iff.mpr finished)).quietly (answerLine_trail _ _ _)

theorem execSetGeometry_moved (g : Geometry) (s : State) : Leads (MovedQuietly s) (execSetGeometry g s) := by
  unfold execSetGeometry
  split
  · exact .of_trail (d := .miss) (answerLine_trail _ _ _)
  · split
    next standby =>
      split
      next passes => exact (Moved.geometry g standby passes).quietly (answerLine_trail _ _ _)
      · exact .of_trail (d := .miss) (answerLine_trail _ _ _)
    · exact .of_trail (d := .miss) (answerLine_trail _ _ _)

theorem execSetScale_moved (v : Nat) (s : State) : Leads (MovedQuietly s) (execSetScale v s) := by
  unfold execSetScale
  split
  · exact .of_trail (d := .miss) (answerLine_trail _ _ _)
  · split
    · exact (Moved.scale v).quietly (answerLine_trail _ _ _)
    · exact .of_trail (d := .miss) (answerLine_trail _ _ _)

theorem moves_cases (moving : moves c = true) : (∃ a b order, c = .bottomPulse a b order) ∨
    (∃ n raw, c = .slice n raw) ∨ (∃ f tag, c = .announce f tag) ∨ (∃ n, c = .endHide n) ∨ c = .gaugeReset ∨
    (∃ n, c = .abandon n) ∨ (∃ n, c = .release n) ∨ (∃ g, c = .setGeometry g) ∨ ∃ v, c = .setScale v := by
  cases c with
  | bottomPulse a b order => exact .inl ⟨a, b, order, rfl⟩
  | slice n raw => exact .inr (.inl ⟨n, raw, rfl⟩)
  | announce f tag => exact .inr (.inr (.inl ⟨f, tag, rfl⟩))
  | endHide n => exact .inr (.inr (.inr (.inl ⟨n, rfl⟩)))
  | gaugeReset => exact .inr (.inr (.inr (.inr (.inl rfl))))
  | abandon n => exact .inr (.inr (.inr (.inr (.inr (.inl ⟨n, rfl⟩)))))
  | release n => exact .inr (.inr (.inr (.inr (.inr (.inr (.inl ⟨n, rfl⟩))))))
  | setGeometry g => exact .inr (.inr (.inr (.inr (.inr (.inr (.inr (.inl ⟨g, rfl⟩)))))))
  | setScale v => exact .inr (.inr (.inr (.inr (.inr (.inr (.inr (.inr ⟨v, rfl⟩)))))))
  | _ => exact absurd moving Bool.false_ne_true

/-- Every command but the resets makes one of the moves, if any. -/
theorem exec_moved (c : Instr) (s : State) (running : (∀ pins, c ≠ .powerOnReset pins) ∧ c ≠ .reset) :
    Leads (MovedQuietly s) (exec c s) := by
  cases quiet : moves c with
  | false => exact (exec_leads c s running).mono fun t path => .of_trail path quiet
  | true =>
    obtain ⟨a, b, order, rfl⟩ | ⟨n, raw, rfl⟩ | ⟨f, tag, rfl⟩ | ⟨n, rfl⟩ | rfl | ⟨n, rfl⟩ | ⟨n, rfl⟩ | ⟨g, rfl⟩ | ⟨v, rfl⟩ :=
      moves_cases quiet
    · exact (Moved.pulse a b order).quietly .refl
    · exact execSlice_moved n raw s
    · exact execAnnounce_moved f tag s
    · exact execEndHide_moved n s
    · exact execGaugeReset_moved s
    · exact execAbandon_moved n s
    · exact execRelease_moved n s
    · exact execSetGeometry_moved g s
    · exact execSetScale_moved v s

/-- A step is a move between quiet trails, or a reset followed by a quiet trail. -/
theorem step_moved (next : step s = .next t) : (∃ q, MovedQuietly { s with pending := q } t) ∨
    (∃ pins q d, moves d = false ∧ Trail d { State.powerOn pins with pending := q } t) ∨
    ∃ q d, moves d = false ∧ Trail d (resetBlocks { s with pending := q }) t := by
  cases front : s.pending with
  | nil =>
    rw [step_nil front] at next
    obtain rfl := Host.Outcome.next.inj next
    have path := tick_trail (c := .miss) (s := s) rfl
    generalize tick s = t at path
    exact .inl ⟨s.pending, .of_trail path⟩
  | cons c rest =>
    rw [step_cons front] at next
    by_cases power : ∃ pins, c = .powerOnReset pins
    · obtain ⟨pins, rfl⟩ := power
      exact .inr (.inl ⟨pins, rest, _, rfl, exec_powerOn_trail next⟩)
    · by_cases isReset : c = .reset
      · subst isReset
        exact .inr (.inr ⟨rest, _, rfl, exec_reset_trail next⟩)
      · exact .inl ⟨rest, (exec_moved c _ ⟨fun pins same => power ⟨pins, same⟩, isReset⟩).of_next next⟩

/-! ## The outstanding list -/

theorem times_keeps {P : State → Prop} {f : State → State} (each : ∀ s, P s → P (f s)) (n : Nat) (holds : P s) :
    P (times f n s) := by
  induction n generalizing s with
  | zero => exact holds
  | succ n ih => exact ih (each s holds)

theorem riseF_outstandingSound (order : List RiseEvent) (s : State) (sound : OutstandingSound s) :
    OutstandingSound (riseF order s) := by
  have risen : OutstandingSound { s with feed := { s.feed with f := s.feed.f + 1 } } := sound
  unfold riseF
  dsimp only
  split
  · exact riseEvents_outstandingSound (riseOrder order) (show OutstandingSound { s with feed :=
      { s.feed with f := s.feed.f + 1, h := s.feed.f + 1 } } from sound)
  · exact risen

theorem fallF_outstandingSound (s : State) (sound : OutstandingSound s) : OutstandingSound (fallF s) := by
  have fallen : OutstandingSound { s with feed := { s.feed with f := s.feed.f - 1 } } := sound
  unfold fallF
  dsimp only
  split
  · exact flush_enterSettling_outstandingSound .reverse _
  · exact fallen

theorem bottomPulse_outstandingSound (order : List RiseEvent) (step : Step) (sound : OutstandingSound s) :
    OutstandingSound (bottomPulse order step s) := by
  cases step with
  | still => exact sound
  | forward => exact times_keeps (riseF_outstandingSound order) _ sound
  | backward => exact times_keeps fallF_outstandingSound _ sound

theorem openNew_outstandingSound (e : Entry) (tag : Num) (sound : OutstandingSound s) :
    OutstandingSound (openNew e tag s) := by
  obtain ⟨feed, intake, _⟩ := fillRecord_frame e tag (edgeFor e s) (madeRoom e s)
  rw [openNew_eq]
  refine sound.same ?_ ?_
  · rw [intake]
    exact (congrArg Intake.list (madeRoom_roomed e s).intake :)
  · rw [feed]
    obtain ⟨o, _, _, room, _⟩ | ⟨_, v, room, _, roomed, _⟩ := madeRoom_cases e s <;> rw [room]
    rw [consumeCapture]
    exact (congrArg Feed.base (roomed.trans (reclaim_roomed v)).feed :)

theorem forceOpenEnd_list (s : State) : (forceOpenEnd s).intake.list = s.intake.list ∧ (forceOpenEnd s).feed = s.feed := by
  unfold forceOpenEnd
  split <;> simp

theorem Moved.outstandingSound (moved : Moved s t) (sound : OutstandingSound s) : OutstandingSound t := by
  cases moved with
  | none => exact sound
  | pulse a b order => exact bottomPulse_outstandingSound order _ sound
  | reply n reply => exact departDue_outstandingSound (storeReply_listSound n reply (outstandingSound_iff.mp sound).1)
  | announce e tag => exact openNew_outstandingSound e tag sound
  | ended r e forced => exact sound.same (by simp) (by simp)
  | gaugeReset =>
    obtain ⟨list, feed⟩ := forceOpenEnd_list (departAll s.intake.list.length s)
    refine sound.emptied ?_ ?_
    · rw [list, departAll_list, List.drop_length]
    · rw [feed, departAll_feed]
  | abandoned hide r found unfinished =>
    rw [takeAbandon_eq]
    exact settle_outstandingSound (sound.same (by simp) (by simp))
  | released hide => exact sound.same rfl rfl
  | geometry g => exact sound
  | scale v => exact flush_enterSettling_outstandingSound .scale _

theorem MovedQuietly.outstandingSound (moved : MovedQuietly s t) (sound : OutstandingSound s) : OutstandingSound t := by
  obtain ⟨d, quiet, v, u, before, move, after⟩ := moved
  exact after.outstandingSound quiet (move.outstandingSound (before.outstandingSound quiet sound))

/-- Settles O8: every step is a move between quiet trails, and each keeps the list's rules. -/
theorem outstandingListStaysSound : Obligations.OutstandingListStaysSound := by
  intro s t sound next
  have initial : ∀ {v : State}, v.intake.list = [] → v.feed.newest = none → OutstandingSound v := fun list newest =>
    outstandingSound_iff.mpr ⟨⟨by simp [list], by simp [list, Consecutive], by simp [list], by simp [newest],
      fun some => absurd list some, fun _ => ⟨list, newest⟩⟩, by simp [list, Unreplied]⟩
  obtain ⟨q, moved⟩ | ⟨pins, q, d, quiet, path⟩ | ⟨q, d, quiet, path⟩ := step_moved next
  · exact moved.outstandingSound sound
  · exact path.outstandingSound quiet (initial rfl rfl)
  · exact path.outstandingSound quiet (initial rfl rfl)

end Sys2Proof.Machine

/-! PROOFS. The track and the hides in agreement, also between the events of one rise of H (O9). -/

namespace Sys2Proof.Machine

variable {c : Instr} {due : List RiseEvent} {s t : State}

/-! ## The agreement while events of a rise are owed -/

/-- 1 while an event of this rise is still to be taken, 0 once it has been. -/
def owed (due : List RiseEvent) (e : RiseEvent) : Nat := if e ∈ due then 1 else 0

@[simp] theorem owed_nil (e : RiseEvent) : owed [] e = 0 := by simp [owed]

theorem owed_le (due : List RiseEvent) (e : RiseEvent) : owed due e ≤ 1 := by
  unfold owed
  split <;> omega

@[simp] theorem owed_cons_self (due : List RiseEvent) (e : RiseEvent) : owed (e :: due) e = 1 := by simp [owed]

theorem owed_cons_ne {e e' : RiseEvent} (other : e' ≠ e) (due : List RiseEvent) : owed (e :: due) e' = owed due e' := by
  simp [owed, other]

/-- The feed counts from H to the next strobe position. -/
def ahead (s : State) : Nat := (s.feed.nextPos - s.feed.h).toNat

/-- How many slices of a hide stand in the track. -/
def slicesIn (s : State) (n : Num) : Nat := (s.track.slices.filter fun sl => sl.hide = n).length

/-- What holds of an open hide (R49, R54), but for an event owed. -/
structure OpenDue (due : List RiseEvent) (s : State) (r : HideRecord) : Prop where
  issued : s.feed.newest.isSome = true
  numbered : InNumbering s r.first
  near : pastBy s r.first.pos ≤ max s.settings.geometry.maxLength s.settings.geometry.distance + owed due .length
  before : 0 < r.inTrack ∨ r.state = .scanSplit → ∀ e ∈ s.intake.list, strobesBack s e.num < strobesBack s r.first.num

/-- `TrackSound` by its parts, each but for the event owed that restores it. -/
structure TrackDue (due : List RiseEvent) (s : State) : Prop where
  next : s.feed.sync = .locked → 1 ≤ ahead s + owed due .strobe ∧ ahead s ≤ s.settings.geometry.pitch
  back : (s.feed.h - s.feed.f).toNat ≤ 200
  settling : s.feed.sync = .settling → s.track.slices = [] ∧ anyUnfinished s = false
  numbered : ∀ x ∈ strobesHeld s, InNumbering s x
  order : ((strobesHeld s).map fun x => strobesBack s x.num).Pairwise (fun a b => b < a)
  knife : ∀ sl ∈ s.track.slices, pastBy s sl.pos < s.settings.geometry.distance + owed due .knife
  lead : ∀ sl ∈ s.track.slices, sl.stage = .entered →
    pastBy s sl.pos + s.settings.geometry.lead < s.settings.geometry.distance + owed due .lead
  hide : ∀ sl ∈ s.track.slices, ∃ r ∈ s.hides.records, r.number = sl.hide ∧ r.state.unfinished = true
  list : ∀ e ∈ s.intake.list,
    pastBy s e.pos + s.settings.geometry.lead < s.settings.geometry.distance + owed due .lead
  inTrack : ∀ r ∈ s.hides.records, r.inTrack = slicesIn s r.number
  opened : ∀ r ∈ s.hides.records, r.state.isOpen = true → OpenDue due s r

theorem trackSound_iff : TrackSound s ↔ TrackDue [] s := by
  constructor
  · rintro ⟨⟨next, back⟩, settling, numbered, order, slices, list, records⟩
    refine ⟨by simpa [ahead] using next, back, settling, numbered, order, fun sl held => ?_, fun sl held => ?_,
      fun sl held => (slices sl held).2.2, by simpa using list, fun r held => (records r held).1, fun r held isOpen => ?_⟩
    · simpa using (slices sl held).1
    · simpa using (slices sl held).2.1
    · obtain ⟨issued, first, near, before⟩ := (records r held).2 isOpen
      exact ⟨issued, first, by simpa using near, before⟩
  · intro h
    refine ⟨⟨by simpa [ahead] using h.next, h.back⟩, h.settling, h.numbered, h.order,
      fun sl held => ⟨by simpa using h.knife sl held, by simpa using h.lead sl held, h.hide sl held⟩,
      by simpa using h.list, fun r held => ⟨h.inTrack r held, fun isOpen => ?_⟩⟩
    obtain ⟨issued, first, near, before⟩ := h.opened r held isOpen
    exact ⟨issued, first, by simpa using near, before⟩

theorem noneUnfinished_iff : anyUnfinished s = false ↔ ∀ r ∈ s.hides.records, r.state.unfinished = false := by
  simp [anyUnfinished]

/-! ## One scale of numbers and positions -/

/-- Strobes are numbered and placed alike, in one geometry. -/
structure SameScale (s t : State) : Prop where
  base : t.feed.base = s.feed.base
  geometry : t.settings.geometry = s.settings.geometry

theorem SameScale.sync (same : SameScale s t) : t.feed.sync = s.feed.sync := (Feed.base_eq same.base).2.2.1

theorem SameScale.newest (same : SameScale s t) : t.feed.newest = s.feed.newest := (Feed.base_eq same.base).2.2.2.2.2

theorem SameScale.ahead (same : SameScale s t) : ahead t = ahead s := by
  obtain ⟨_, h, _, _, nextPos, _⟩ := Feed.base_eq same.base
  simp only [Machine.ahead, h, nextPos]

theorem SameScale.past (same : SameScale s t) (p : Pos) : pastBy t p = pastBy s p := by
  obtain ⟨_, h, _⟩ := Feed.base_eq same.base
  simp only [pastBy, h]

theorem SameScale.strobesBack (same : SameScale s t) (n : Num) : strobesBack t n = strobesBack s n := by
  obtain ⟨_, _, _, nextNum, _⟩ := Feed.base_eq same.base
  simp only [Machine.strobesBack, nextNum]

theorem SameScale.inNumbering (same : SameScale s t) (x : StrobeId) : InNumbering t x ↔ InNumbering s x := by
  obtain ⟨_, _, _, _, nextPos, _⟩ := Feed.base_eq same.base
  simp only [InNumbering, same.strobesBack, same.geometry, nextPos]

/-- An open hide whose conditions stand. -/
theorem OpenDue.kept {r r' : HideRecord} (h : OpenDue due s r) (same : SameScale s t) (first : r'.first = r.first)
    (list : ∀ e ∈ t.intake.list, ∃ d ∈ s.intake.list, d.num = e.num)
    (entered : 0 < r'.inTrack ∨ r'.state = .scanSplit → 0 < r.inTrack ∨ r.state = .scanSplit) : OpenDue due t r' where
  issued := same.newest ▸ h.issued
  numbered := (same.inNumbering _).mpr (first ▸ h.numbered)
  near := by
    rw [same.past, same.geometry, first]
    exact h.near
  before some e held := by
    obtain ⟨d, there, num⟩ := list e held
    rw [same.strobesBack, same.strobesBack, first, ← num]
    exact h.before (entered some) d there

/-! ## Changes that bring nothing in -/

/-- What remains of the strobes, the slices and the hides: nothing joins, no slice goes back to ENTERED, no hide opens. -/
structure Thinned (s t : State) : Prop where
  scale : SameScale s t
  held : (strobesHeld t).Sublist (strobesHeld s)
  list : ∀ e ∈ t.intake.list, ∃ d ∈ s.intake.list, d.num = e.num ∧ d.pos = e.pos
  slices : ∀ sl ∈ t.track.slices, ∃ x ∈ s.track.slices, x.pos = sl.pos ∧ (sl.stage = .entered → x.stage = .entered)
  hide : ∀ sl ∈ t.track.slices, ∃ r ∈ t.hides.records, r.number = sl.hide ∧ r.state.unfinished = true
  inTrack : ∀ r ∈ t.hides.records, r.inTrack = slicesIn t r.number
  records : ∀ r ∈ t.hides.records, ∃ q ∈ s.hides.records, r.first = q.first ∧
    (r.state.unfinished = true → q.state.unfinished = true) ∧ (r.state.isOpen = true → q.state.isOpen = true ∧
      (0 < r.inTrack ∨ r.state = .scanSplit → 0 < q.inTrack ∨ q.state = .scanSplit))

theorem TrackDue.thinned (h : TrackDue due s) (thin : Thinned s t) : TrackDue due t where
  next locked := by
    rw [thin.scale.ahead, thin.scale.geometry]
    exact h.next (thin.scale.sync ▸ locked)
  back := by
    obtain ⟨f, past, _⟩ := Feed.base_eq thin.scale.base
    rw [f, past]
    exact h.back
  settling settles := by
    obtain ⟨none, finished⟩ := h.settling (thin.scale.sync ▸ settles)
    refine ⟨List.eq_nil_iff_forall_not_mem.mpr fun sl there => ?_, ?_⟩
    · obtain ⟨x, held, _⟩ := thin.slices sl there
      simp [none] at held
    · rw [noneUnfinished_iff] at finished ⊢
      intro r there
      obtain ⟨q, held, _, unfinished, _⟩ := thin.records r there
      exact Bool.eq_false_iff.mpr fun still => Bool.eq_false_iff.mp (finished q held) (unfinished still)
  numbered x held := (thin.scale.inNumbering x).mpr (h.numbered x (thin.held.subset held))
  order := by
    simp only [thin.scale.strobesBack]
    exact h.order.sublist (thin.held.map _)
  knife sl there := by
    obtain ⟨x, held, pos, _⟩ := thin.slices sl there
    rw [thin.scale.past, thin.scale.geometry, ← pos]
    exact h.knife x held
  lead sl there entered := by
    obtain ⟨x, held, pos, stage⟩ := thin.slices sl there
    rw [thin.scale.past, thin.scale.geometry, ← pos]
    exact h.lead x held (stage entered)
  hide := thin.hide
  list e there := by
    obtain ⟨d, held, _, pos⟩ := thin.list e there
    rw [thin.scale.past, thin.scale.geometry, ← pos]
    exact h.list d held
  inTrack := thin.inTrack
  opened r there isOpen := by
    obtain ⟨q, held, first, _, stays⟩ := thin.records r there
    obtain ⟨wasOpen, entered⟩ := stays isOpen
    exact (h.opened q held wasOpen).kept thin.scale first
      (fun e there => by obtain ⟨d, held, num, _⟩ := thin.list e there; exact ⟨d, held, num⟩) entered

/-- Every slice and hide in its place, and of the list no entry but those there were. -/
theorem TrackDue.keyed (h : TrackDue due s) (scale : SameScale s t)
    (list : (t.intake.list.map fun e => (e.num, e.pos)).Sublist (s.intake.list.map fun e => (e.num, e.pos)))
    (slices : t.track.slices.map Slice.key = s.track.slices.map Slice.key)
    (records : t.hides.records.map HideRecord.key = s.hides.records.map HideRecord.key) : TrackDue due t := by
  have sliceOf : ∀ sl ∈ t.track.slices, ∃ x ∈ s.track.slices, x.key = sl.key := fun sl held => by
    obtain ⟨x, there, same⟩ := List.mem_map.mp (slices ▸ List.mem_map_of_mem held : sl.key ∈ s.track.slices.map Slice.key)
    exact ⟨x, there, same⟩
  have recordOf : ∀ r ∈ t.hides.records, ∃ q ∈ s.hides.records, q.key = r.key := fun r held => by
    obtain ⟨q, there, same⟩ :=
      List.mem_map.mp (records ▸ List.mem_map_of_mem held : r.key ∈ s.hides.records.map HideRecord.key)
    exact ⟨q, there, same⟩
  have count : ∀ n, slicesIn t n = slicesIn s n := fun n => by
    have counted : ∀ l : List Slice, (l.filter fun sl => sl.hide = n).length =
        ((l.map Slice.key).filter fun k => k.2.2.1 = n).length := fun l => by
      rw [List.filter_map, List.length_map]
      rfl
    rw [slicesIn, slicesIn, counted, counted, slices]
  refine h.thinned ⟨scale, ?_, fun e held => ?_, fun sl held => ?_, fun sl held => ?_, fun r held => ?_, fun r held => ?_⟩
  · have ids : ∀ v : State, strobesHeld v =
        (v.track.slices.map Slice.key).map (fun k => ({ num := k.1, pos := k.2.1 } : StrobeId)) ++
          (v.intake.list.map fun e => (e.num, e.pos)).map (fun k => ({ num := k.1, pos := k.2 } : StrobeId)) := fun v => by
      rw [List.map_map, List.map_map]
      rfl
    rw [ids, ids, slices]
    exact (list.map _).append_left _
  · obtain ⟨d, there, same⟩ := List.mem_map.mp (list.subset (List.mem_map_of_mem held))
    obtain ⟨num, pos⟩ := Prod.mk.inj same
    exact ⟨d, there, num, pos⟩
  · obtain ⟨x, there, same⟩ := sliceOf sl held
    simp only [Slice.key, Prod.mk.injEq] at same
    obtain ⟨_, pos, _, stage⟩ := same
    exact ⟨x, there, pos, fun entered => stage.trans entered⟩
  · obtain ⟨x, there, same⟩ := sliceOf sl held
    simp only [Slice.key, Prod.mk.injEq] at same
    obtain ⟨_, _, hide, _⟩ := same
    obtain ⟨q, mine, number, unfinished⟩ := h.hide x there
    obtain ⟨r, mine', same'⟩ :=
      List.mem_map.mp (records.symm ▸ List.mem_map_of_mem mine : q.key ∈ t.hides.records.map HideRecord.key)
    simp only [HideRecord.key, Prod.mk.injEq] at same'
    obtain ⟨number', state', _⟩ := same'
    exact ⟨r, mine', number'.trans (number.trans hide), state' ▸ unfinished⟩
  · obtain ⟨q, there, same⟩ := recordOf r held
    simp only [HideRecord.key, Prod.mk.injEq] at same
    obtain ⟨number, _, _, inTrack⟩ := same
    rw [count, ← number, ← inTrack]
    exact h.inTrack q there
  · obtain ⟨q, there, same⟩ := recordOf r held
    simp only [HideRecord.key, Prod.mk.injEq] at same
    obtain ⟨_, state, first, inTrack⟩ := same
    exact ⟨q, there, first.symm, by rw [state]; exact id, fun isOpen => ⟨by rw [state]; exact isOpen, by rw [state, inTrack]; exact id⟩⟩

/-- Nothing of slices and hides moves. -/
theorem TrackDue.same (h : TrackDue due s) (scale : SameScale s t) (list : t.intake.list = s.intake.list)
    (slices : t.track.slices = s.track.slices) (records : t.hides.records = s.hides.records) : TrackDue due t :=
  h.keyed scale (by rw [list]) (by rw [slices]) (by rw [records])

/-- Where nothing is outstanding, in the track or unfinished, the strobe base and the counts are what remains. -/
theorem TrackDue.ofEmptied (next : t.feed.sync = .locked → 1 ≤ ahead t + owed due .strobe ∧
      ahead t ≤ t.settings.geometry.pitch) (back : (t.feed.h - t.feed.f).toNat ≤ 200)
    (empty : Emptied t) (inTrack : ∀ r ∈ t.hides.records, r.inTrack = 0) : TrackDue due t := by
  obtain ⟨list, slices, finished⟩ := empty
  have closed := noneUnfinished_iff.mp finished
  refine ⟨next, back, fun _ => ⟨slices, finished⟩, ?_, ?_, ?_, ?_, ?_, ?_, fun r held => ?_, fun r held isOpen => ?_⟩
  · simp [strobesHeld, list, slices]
  · simp [strobesHeld, list, slices]
  · simp [slices]
  · simp [slices]
  · simp [slices]
  · simp [list]
  · simp [inTrack r held, slicesIn, slices]
  · exact absurd (HideState.unfinished_of_isOpen isOpen) (Bool.eq_false_iff.mp (closed r held))

/-- A finished hide has no slice in the track. -/
theorem TrackDue.finished_inTrack (h : TrackDue due s) (distinct : DistinctNumbers s) {r : HideRecord}
    (held : r ∈ s.hides.records) (finished : r.state.unfinished = false) : r.inTrack = 0 := by
  rw [h.inTrack r held, slicesIn, List.length_eq_zero_iff, List.filter_eq_nil_iff]
  intro sl there own
  obtain ⟨q, held', number, unfinished⟩ := h.hide sl there
  rw [distinct.unique held' held (number.trans (by simpa using own)), finished] at unfinished
  exact absurd unfinished (by decide)

theorem HideRecord.emptied_inTrack (cause : AbandonCause) {r : HideRecord}
    (finished : r.state.unfinished = false → r.inTrack = 0) : (r.emptied cause).inTrack = 0 := by
  cases unfinished : r.state.unfinished with
  | true => simp [HideRecord.emptied, unfinished]
  | false => simp [HideRecord.emptied, unfinished, finished unfinished]

/-! ## The changes that move nothing -/

theorem TrackDue.places (h : TrackDue due s) (distinct : DistinctNumbers s) (scale : SameScale s t)
    (list : t.intake.list = s.intake.list) (kept : PlacesKept s t.hides t.track) : TrackDue due t := by
  obtain ⟨slices, records⟩ | ⟨none, cause, records⟩ := kept
  · exact h.keyed scale (by rw [list]) slices records
  · refine h.thinned ⟨scale, ?_, fun e held => ⟨e, list ▸ held, rfl, rfl⟩, by simp [none], by simp [none], fun r held => ?_,
      fun r held => ?_⟩
    · unfold strobesHeld
      rw [none, list]
      exact List.sublist_append_right _ _
    · rw [records] at held
      obtain ⟨q, there, rfl⟩ := List.mem_map.mp held
      rw [HideRecord.emptied_inTrack cause fun finished => h.finished_inTrack distinct there finished]
      simp [slicesIn, none]
    · rw [records] at held
      obtain ⟨q, there, rfl⟩ := List.mem_map.mp held
      have finished := q.emptied_state_finished cause
      refine ⟨q, there, ?_, fun still => ?_, fun isOpen => ?_⟩
      · unfold HideRecord.emptied
        split <;> rfl
      · simp [finished] at still
      · exact absurd (HideState.unfinished_of_isOpen isOpen) (Bool.eq_false_iff.mp finished)

theorem Change.trackDue (change : Change c s t) (quiet : moves c = false) (distinct : DistinctNumbers s)
    (h : TrackDue due s) : TrackDue due t := by
  have still : ¬ moves c = true := Bool.eq_false_iff.mp quiet
  cases change with
  | port i l list => exact h.same ⟨rfl, rfl⟩ list rfl rfl
  | gaugeNotice n => exact h.same ⟨by simp, by simp⟩ (raiseGauge_list n s) (by simp) (by simp)
  | feed f step kept => exact h.same ⟨kept.resolve_right still, rfl⟩ rfl rfl rfl
  | haltLevel b =>
    refine h.same ⟨Feed.base_of_core ?_, by simp⟩ (by simp) (by simp) (by simp)
    rw [applyGate_core]
  | phase p => exact h.same ⟨enterPhase_base p s, by simp⟩ (by simp) (by simp) (by simp)
  | list l _ _ kept => exact h.keyed ⟨rfl, rfl⟩ (by simp [kept.resolve_right still]) rfl rfl
  | join num pos permitted moving => exact absurd moving still
  | strobe newest num pos pulse => exact absurd (moves_of_pulse pulse) still
  | table hides tr step _ kept => exact h.places distinct ⟨rfl, rfl⟩ rfl (kept.resolve_right still)
  | finish hides tr step kept =>
    have places : TrackDue due { s with hides := hides, track := tr } :=
      h.places distinct ⟨rfl, rfl⟩ rfl (kept.resolve_right still)
    exact places.same ⟨by simp, by simp⟩ (by simp) (by rw [applyPending_slices]) (by simp)
  | drop n hides own =>
    obtain rfl | ⟨f, tag, rfl⟩ := own
    · exact absurd rfl still
    · exact absurd rfl still
  | fill r n own =>
    obtain ⟨f, tag, rfl⟩ := own
    exact absurd rfl still
  | setting x step =>
    refine h.same ⟨rfl, step.geometry fun g own => ?_⟩ rfl rfl rfl
    subst own
    exact still rfl
  | knife offsets =>
    obtain ⟨_, eq⟩ | ⟨_, eq⟩ := takeKnife_cases offsets s <;> rw [eq] <;> exact h.same ⟨rfl, rfl⟩ rfl rfl rfl
  | _ => exact h.same ⟨rfl, rfl⟩ rfl rfl rfl

end Sys2Proof.Machine

/-! PROOFS. The positions of one numbering, and departures from the list, in the agreement of track and hides (O9). -/

namespace Sys2Proof.Machine

variable {c : Instr} {due : List RiseEvent} {s t : State}

/-! ## Quiet trails -/

theorem numbers_of_forall₂ {R : HideRecord → HideRecord → Prop} (number : ∀ q q', R q q' → q'.number = q.number)
    {l l' : List HideRecord} (steps : List.Forall₂ R l l') : l'.map HideRecord.number = l.map HideRecord.number := by
  induction steps with
  | nil => rfl
  | cons here _ ih => rw [List.map_cons, List.map_cons, number _ _ here, ih]

theorem DistinctNumbers.of {h : HideTable} (distinct : DistinctNumbers s)
    (numbers : h.records.map HideRecord.number = s.hides.records.map HideRecord.number) :
    DistinctNumbers { s with hides := h } := by
  unfold DistinctNumbers
  rw [numbers]
  exact distinct

theorem Change.distinctNumbers (change : Change c s t) (quiet : moves c = false) (distinct : DistinctNumbers s) :
    DistinctNumbers t := by
  have still : ¬ moves c = true := Bool.eq_false_iff.mp quiet
  cases change with
  | table h tr step => exact distinct.of (numbers_of_forall₂ (fun _ _ => RecordStep.number) step.records)
  | finish h tr step =>
    unfold DistinctNumbers
    rw [applyPending_hides]
    exact distinct.of (numbers_of_forall₂ (fun _ _ => RecordStep.number) step.records)
  | drop n h own =>
    obtain rfl | ⟨f, tag, rfl⟩ := own
    · exact absurd rfl still
    · exact absurd rfl still
  | fill r n own =>
    obtain ⟨f, tag, rfl⟩ := own
    exact absurd rfl still
  | gaugeNotice n =>
    unfold DistinctNumbers
    rw [raiseGauge_hides]
    exact distinct
  | haltLevel b =>
    unfold DistinctNumbers
    rw [applyGate_hides]
    exact distinct
  | phase p =>
    unfold DistinctNumbers
    rw [enterPhase_hides]
    exact distinct
  | knife offsets => obtain ⟨_, eq⟩ | ⟨_, eq⟩ := takeKnife_cases offsets s <;> rw [eq] <;> exact distinct
  | _ => exact distinct

theorem Trail.distinctNumbers (path : Trail c s t) (quiet : moves c = false) (distinct : DistinctNumbers s) :
    DistinctNumbers t :=
  path.keeps (fun _ _ change => change.distinctNumbers quiet) distinct

/-- A quiet trail keeps the agreement. -/
theorem Trail.trackDue (path : Trail c s t) (quiet : moves c = false) (distinct : DistinctNumbers s)
    (h : TrackDue due s) : TrackDue due t :=
  (path.keeps (P := fun s => DistinctNumbers s ∧ TrackDue due s)
    (fun _ _ change ⟨distinct, h⟩ => ⟨change.distinctNumbers quiet distinct, change.trackDue quiet distinct h⟩)
    ⟨distinct, h⟩).2

/-! ## Positions of one numbering -/

/-- In LOCKED a strobe of the numbering lies as many pitches back as it has strobes, less the way to the next one. -/
theorem InNumbering.placed {x : StrobeId} (numbered : InNumbering s x) (near : ahead s ≤ s.settings.geometry.pitch)
    (pitch : s.settings.geometry.pitch ≤ 500) :
    Machine.pastBy s x.pos + ahead s = strobesBack s x.num * s.settings.geometry.pitch := by
  obtain ⟨back, place⟩ := numbered
  have far : strobesBack s x.num * s.settings.geometry.pitch < 2 ^ 32 := by
    have number : strobesBack s x.num < 65536 := BitVec.isLt _
    calc strobesBack s x.num * s.settings.geometry.pitch ≤ 65536 * 500 := Nat.mul_le_mul number.le pitch
      _ < 2 ^ 32 := by norm_num
  have first : s.settings.geometry.pitch ≤ strobesBack s x.num * s.settings.geometry.pitch :=
    Nat.le_mul_of_pos_left _ back
  unfold Machine.pastBy ahead at *
  generalize strobesBack s x.num * s.settings.geometry.pitch = d at place far first
  rw [← place] at near ⊢
  bv_omega

/-- The scale on which the strobes of the numbering in force stand: LOCKED, within a geometry in range. -/
structure Scaled (s : State) : Prop where
  geometry : GeometryOk s.settings.geometry
  near : ahead s ≤ s.settings.geometry.pitch

theorem TrackDue.scaled (h : TrackDue due s) (geometry : GeometryOk s.settings.geometry)
    (locked : s.feed.sync = .locked) : Scaled s := ⟨geometry, (h.next locked).2⟩

theorem Scaled.placed (scaled : Scaled s) {x : StrobeId} (numbered : InNumbering s x) :
    pastBy s x.pos + ahead s = strobesBack s x.num * s.settings.geometry.pitch :=
  numbered.placed scaled.near scaled.geometry.pitch.2

/-- Of two strobes the one further back is a pitch further past. -/
theorem Scaled.further (scaled : Scaled s) {x y : StrobeId} (hx : InNumbering s x) (hy : InNumbering s y)
    (further : strobesBack s y.num < strobesBack s x.num) :
    pastBy s y.pos + s.settings.geometry.pitch ≤ pastBy s x.pos := by
  have px := scaled.placed hx
  have py := scaled.placed hy
  have step : (strobesBack s y.num + 1) * s.settings.geometry.pitch ≤ strobesBack s x.num * s.settings.geometry.pitch :=
    Nat.mul_le_mul_right _ further
  rw [Nat.succ_mul] at step
  omega

/-- A strobe that H is not far past is not many strobes back. -/
theorem Scaled.back_le (scaled : Scaled s) {x : StrobeId} (numbered : InNumbering s x) (past : pastBy s x.pos ≤ 60001) :
    strobesBack s x.num ≤ 6050 := by
  have placed := scaled.placed numbered
  obtain ⟨low, high⟩ := scaled.geometry.pitch
  have near := scaled.near
  have : strobesBack s x.num * 10 ≤ strobesBack s x.num * s.settings.geometry.pitch := Nat.mul_le_mul_left _ low
  omega

theorem strobeOfSlice_mem {sl : Slice} (held : sl ∈ s.track.slices) :
    ({ num := sl.strobe, pos := sl.pos } : StrobeId) ∈ strobesHeld s :=
  List.mem_append_left _ (List.mem_map_of_mem (f := fun sl : Slice => ({ num := sl.strobe, pos := sl.pos } : StrobeId)) held)

theorem strobeOfEntry_mem {e : Entry} (held : e ∈ s.intake.list) :
    ({ num := e.num, pos := e.pos } : StrobeId) ∈ strobesHeld s :=
  List.mem_append_right _ (List.mem_map_of_mem (f := fun e : Entry => ({ num := e.num, pos := e.pos } : StrobeId)) held)

/-- Slices come oldest first, and before every outstanding strobe. -/
theorem TrackDue.order_parts (h : TrackDue due s) :
    s.track.slices.Pairwise (fun x y => strobesBack s y.strobe < strobesBack s x.strobe) ∧
    s.intake.list.Pairwise (fun d e => strobesBack s e.num < strobesBack s d.num) ∧
    ∀ x ∈ s.track.slices, ∀ e ∈ s.intake.list, strobesBack s e.num < strobesBack s x.strobe := by
  have order := h.order
  rw [strobesHeld, List.map_append, List.map_map, List.map_map, List.pairwise_append, List.pairwise_map,
    List.pairwise_map] at order
  obtain ⟨slices, list, across⟩ := order
  exact ⟨slices, list, fun x held e there => across _ (List.mem_map_of_mem held) _ (List.mem_map_of_mem there)⟩

theorem TrackDue.entry_past (h : TrackDue due s) (geometry : GeometryOk s.settings.geometry) {e : Entry}
    (held : e ∈ s.intake.list) : pastBy s e.pos ≤ 60001 := by
  have lead := h.list e held
  have far := geometry.distance
  have once := owed_le due .lead
  omega

theorem OpenDue.past {r : HideRecord} (h : OpenDue due s r) (geometry : GeometryOk s.settings.geometry) :
    pastBy s r.first.pos ≤ 60001 := by
  have near := h.near
  have far := geometry.distance
  have long := geometry.maxLength
  have once := owed_le due .length
  omega

theorem locked_of_slice (h : TrackDue due s) {sl : Slice} (held : sl ∈ s.track.slices) : s.feed.sync = .locked := by
  cases sync : s.feed.sync with
  | locked => rfl
  | settling => simp [(h.settling sync).1] at held

theorem TrackDue.locked_of_unfinished (h : TrackDue due s) {r : HideRecord} (held : r ∈ s.hides.records)
    (unfinished : r.state.unfinished = true) : s.feed.sync = .locked := by
  cases sync : s.feed.sync with
  | locked => rfl
  | settling =>
    have finished := noneUnfinished_iff.mp (h.settling sync).2 r held
    simp [finished] at unfinished

theorem ListSound.locked (sound : ListSound s) {e : Entry} (held : e ∈ s.intake.list) : s.feed.sync = .locked := by
  cases sync : s.feed.sync with
  | locked => rfl
  | settling => simp [(sound.settling sync).1] at held

/-! ## Departures (R34, R69) -/

/-- The state without the head of its list. -/
def headTaken (rest : List Entry) (s : State) : State := { s with intake := { s.intake with list := rest } }

/-- The state in which the head has entered the track for its hide, before any notice of it. -/
def headEntered (e : Entry) (rest : List Entry) (r : HideRecord) (s : State) : State :=
  { headTaken rest s with
    hides := s.hides.upd (HideRecord.enter e.num e.reply.isNone) r.number, track := enteredTrack e r s.track }

theorem slicesIn_append (s : State) (sl : Slice) (tr : Track) (slices : tr.slices = s.track.slices ++ [sl]) (n : Num) :
    slicesIn { s with track := tr } n = slicesIn s n + if sl.hide = n then 1 else 0 := by
  unfold slicesIn
  rw [slices, List.filter_append, List.length_append]
  congr 1
  by_cases own : sl.hide = n
  · simp [own]
  · simp [own]

/-- A departing entry that enters for an unfinished hide which holds it. -/
theorem TrackDue.entered (h : TrackDue due s) (geometry : GeometryOk s.settings.geometry) (distinct : DistinctNumbers s)
    {e : Entry} {rest : List Entry} (list : s.intake.list = e :: rest) {r : HideRecord} (held : r ∈ s.hides.records)
    (unfinished : r.state.unfinished = true) (holds : r.holds e.num = true) :
    TrackDue due (enterTrack e r (headTaken rest s)) := by
  have locked := h.locked_of_unfinished held unfinished
  have scaled := h.scaled geometry locked
  have first : e ∈ s.intake.list := list ▸ List.mem_cons_self ..
  have within : ∀ d ∈ rest, d ∈ s.intake.list := fun d there => list ▸ List.mem_cons_of_mem _ there
  obtain ⟨_, inOrder, _⟩ := h.order_parts
  rw [list] at inOrder
  have behind := (List.pairwise_cons.mp inOrder).1
  rw [enterTrack_eq]
  refine TrackDue.same (s := headEntered e rest r s) ?_ ⟨by simp [headTaken, headEntered], by simp [headTaken, headEntered]⟩
    (by simp [headTaken, headEntered]) (by simp [headTaken, headEntered]) (by simp [headTaken, headEntered])
  have scale : SameScale s (headEntered e rest r s) := ⟨rfl, rfl⟩
  have ids : strobesHeld (headEntered e rest r s) =
      strobesHeld s := by
    simp only [strobesHeld, headEntered, headTaken, enteredTrack, list, List.map_append, List.append_assoc, List.map_cons]
    rfl
  refine ⟨h.next, h.back, fun settles => ?_, ?_, ?_, ?_, ?_, ?_, fun d there => h.list d (within d there), ?_, ?_⟩
  · exact absurd (locked.symm.trans settles) (by decide)
  · rw [ids]
    exact h.numbered
  · rw [ids]
    exact h.order
  · intro sl there
    obtain there | there := List.mem_append.mp there
    · exact h.knife sl there
    · obtain rfl := List.mem_singleton.mp there
      have lead := h.list e first
      have few := owed_le due .lead
      have wide := geometry.lead
      show pastBy s e.pos < s.settings.geometry.distance + owed due .knife
      omega
  · intro sl there entered
    obtain there | there := List.mem_append.mp there
    · exact h.lead sl there entered
    · obtain rfl := List.mem_singleton.mp there
      exact h.list e first
  · intro sl there
    obtain there | there := List.mem_append.mp there
    · obtain ⟨q, mine, number, young⟩ := h.hide sl there
      refine ⟨if q.number = r.number then q.enter e.num e.reply.isNone else q, List.mem_map_of_mem mine, ?_, ?_⟩
      · split <;> exact number
      · split <;> exact young
    · obtain rfl := List.mem_singleton.mp there
      exact ⟨_, List.mem_map_of_mem held, by rw [if_pos rfl]; rfl, by rw [if_pos rfl]; exact unfinished⟩
  · intro q' there
    obtain ⟨q, mine, rfl⟩ := List.mem_map.mp there
    have count := slicesIn_append (headTaken rest s) _ (enteredTrack e r s.track) rfl q.number
    have hide : (enteredSlice e r).hide = r.number := rfl
    have before := h.inTrack q mine
    rw [hide] at count
    split
    case isTrue own =>
      rw [if_pos own.symm] at count
      exact (congrArg (· + 1) before).trans count.symm
    case isFalse other =>
      rw [if_neg (Ne.symm other)] at count
      exact before.trans count.symm
  · intro q' there isOpen
    obtain ⟨q, mine, rfl⟩ := List.mem_map.mp there
    split at isOpen
    case isTrue own =>
      rw [if_pos own]
      have opened := h.opened q mine isOpen
      obtain rfl := distinct.unique mine held own
      refine ⟨opened.issued, opened.numbered, opened.near, fun _ d there => ?_⟩
      have reach : strobesBack s e.num ≤ strobesBack s q.first.num := by
        by_contra beyond
        have back := scaled.back_le (h.numbered _ (strobeOfEntry_mem first)) (h.entry_past geometry first)
        have newer := older_of_back (Nat.lt_of_not_le beyond) (by dsimp only at back; omega)
        simp [HideRecord.holds, atOrOlder, newer] at holds
      exact (behind d there).trans_le reach
    case isFalse other =>
      rw [if_neg other]
      exact (h.opened q mine isOpen).kept scale rfl (fun d there => ⟨d, within d there, rfl⟩) id

theorem closeRanges_keys (s : State) : (closeRanges s).hides.records.map HideRecord.key =
    s.hides.records.map HideRecord.key := by
  rw [closeRanges, updRecords_records, List.map_map]
  refine List.map_congr_left fun r _ => ?_
  dsimp only [Function.comp]
  split <;> rfl

theorem TrackDue.closeRanges (h : TrackDue due s) : TrackDue due (closeRanges s) :=
  h.keyed ⟨rfl, rfl⟩ (.refl _) rfl (closeRanges_keys s)

theorem TrackDue.headTaken (h : TrackDue due s) {e : Entry} {rest : List Entry} (list : s.intake.list = e :: rest) :
    TrackDue due (headTaken rest s) :=
  h.keyed ⟨rfl, rfl⟩ (by rw [list]; exact (List.sublist_cons_self e rest).map _) rfl rfl

theorem departHead_trackDue (h : TrackDue due s) (geometry : GeometryOk s.settings.geometry)
    (distinct : DistinctNumbers s) : TrackDue due (departHead s) := by
  cases list : s.intake.list with
  | nil => simpa [departHead, list] using h
  | cons e rest =>
    rw [departHead_eq list]
    refine TrackDue.closeRanges ?_
    change TrackDue due (handOn e (headTaken rest s))
    unfold handOn
    split
    next r found =>
      split
      next unfinished =>
        obtain ⟨held, ⟨_, inside⟩, _⟩ := memberOf_some found
        exact h.entered geometry distinct list held unfinished ((HideRecord.holds_iff r e.num).mpr inside)
      · exact h.headTaken list
    · unfold dropOrphan
      split
      · exact (h.headTaken list).same ⟨by simp, by simp⟩ (by rw [raiseGauge_list]) (by simp) (by simp)
      · exact h.headTaken list

theorem departHead_distinct (distinct : DistinctNumbers s) : DistinctNumbers (departHead s) := by
  cases list : s.intake.list with
  | nil => simpa [departHead, list] using distinct
  | cons e rest =>
    unfold DistinctNumbers
    rw [numbers_of_forall₂ (fun _ _ => Departed.number) (departHead_records list)]
    exact distinct

theorem departAll_trackDue (k : Nat) (h : TrackDue due s) (geometry : GeometryOk s.settings.geometry)
    (distinct : DistinctNumbers s) : TrackDue due (departAll k s) ∧ DistinctNumbers (departAll k s) := by
  induction k generalizing s with
  | zero => exact ⟨h, distinct⟩
  | succ k ih =>
    exact ih (departHead_trackDue h geometry distinct) (by simpa using geometry) (departHead_distinct distinct)

theorem departDue_trackDue (h : TrackDue due s) (geometry : GeometryOk s.settings.geometry)
    (distinct : DistinctNumbers s) : TrackDue due (departDue s) ∧ DistinctNumbers (departDue s) := by
  obtain ⟨k, eq, _⟩ := departDue_eq s
  rw [eq]
  exact departAll_trackDue k h geometry distinct

end Sys2Proof.Machine

/-! PROOFS. The strobe, slip and length events of a rise, in the agreement of track and hides (O9). -/

namespace Sys2Proof.Machine

variable {due : List RiseEvent} {e : RiseEvent} {s t : State}

/-! ## An event taken -/


/-- An event owed is taken: what it restores holds in full, and the rest stands. -/
theorem TrackDue.taken (h : TrackDue (e :: due) s)
    (strobe : e = .strobe → s.feed.sync = .locked → 1 ≤ ahead s)
    (knife : e = .knife → ∀ sl ∈ s.track.slices, pastBy s sl.pos < s.settings.geometry.distance)
    (lead : e = .lead → (∀ sl ∈ s.track.slices, sl.stage = .entered →
        pastBy s sl.pos + s.settings.geometry.lead < s.settings.geometry.distance) ∧
      ∀ d ∈ s.intake.list, pastBy s d.pos + s.settings.geometry.lead < s.settings.geometry.distance)
    (length : e = .length → ∀ r ∈ s.hides.records, r.state.isOpen = true →
      pastBy s r.first.pos ≤ max s.settings.geometry.maxLength s.settings.geometry.distance) : TrackDue due s := by
  have eased : ∀ {e' : RiseEvent} {a b : Nat}, (e = e' → a < b) → a < b + owed (e :: due) e' → a < b + owed due e' := by
    intro e' a b own before
    by_cases same : e = e'
    · exact Nat.lt_add_right _ (own same)
    · rwa [owed_cons_ne (Ne.symm same)] at before
  refine { h with
           next := fun locked => ⟨?_, (h.next locked).2⟩
           knife := fun sl held => ?_
           lead := fun sl held entered => ?_
           list := fun d held => ?_
           opened := fun r held isOpen => ?_ }
  · have before := (h.next locked).1
    by_cases same : e = .strobe
    · exact (strobe same locked).trans (Nat.le_add_right _ _)
    · rwa [owed_cons_ne (Ne.symm same)] at before
  · exact eased (fun same => knife same sl held) (h.knife sl held)
  · exact eased (fun same => (lead same).1 sl held entered) (h.lead sl held entered)
  · exact eased (fun same => (lead same).2 d held) (h.list d held)
  · have opened := h.opened r held isOpen
    refine { opened with near := ?_ }
    exact Nat.lt_succ_iff.mp (eased (b := max s.settings.geometry.maxLength s.settings.geometry.distance + 1)
      (fun same => Nat.lt_succ_of_le (length same r held isOpen)) (by have := opened.near; omega) |>.trans_le (by omega))

theorem TrackDue.slipTaken (h : TrackDue (.slip :: due) s) : TrackDue due s :=
  h.taken (by simp) (by simp) (by simp) (by simp)

/-! ## The issue of a strobe (R12, R31) -/

/-- A strobe joins the numbering: every strobe lies one further back, and the next position a pitch further on. -/
structure NumberJoined (s t : State) : Prop where
  f : t.feed.f = s.feed.f
  h : t.feed.h = s.feed.h
  sync : t.feed.sync = s.feed.sync
  nextNum : t.feed.nextNum = s.feed.nextNum + 1
  nextPos : t.feed.nextPos = posPlus s.feed.nextPos s.settings.geometry.pitch
  newest : t.feed.newest.isSome = true
  geometry : t.settings.geometry = s.settings.geometry
  list : t.intake.list = s.intake.list ++ [{ num := s.feed.nextNum, pos := s.feed.nextPos, reply := none }]
  slices : t.track.slices = s.track.slices
  records : t.hides.records = s.hides.records

theorem NumberJoined.past (joined : NumberJoined s t) (p : Pos) : pastBy t p = pastBy s p := by
  simp only [pastBy, joined.h]

theorem NumberJoined.back (joined : NumberJoined s t) {n : Num} (near : strobesBack s n ≤ 6050) :
    strobesBack t n = strobesBack s n + 1 := by
  unfold strobesBack at near ⊢
  rw [joined.nextNum]
  bv_omega

theorem NumberJoined.inNumbering (joined : NumberJoined s t) {x : StrobeId} (near : strobesBack s x.num ≤ 6050)
    (numbered : InNumbering s x) : InNumbering t x := by
  obtain ⟨_, place⟩ := numbered
  unfold InNumbering
  rw [joined.back near, joined.geometry, joined.nextPos, ← place, Nat.succ_mul, BitVec.ofNat_add, posPlus, BitVec.add_assoc]
  exact ⟨Nat.le_add_left _ _, rfl⟩

theorem TrackDue.held_back (h : TrackDue due s) (geometry : GeometryOk s.settings.geometry)
    (locked : s.feed.sync = .locked) : ∀ x ∈ strobesHeld s, strobesBack s x.num ≤ 6050 := by
  intro x held
  refine (h.scaled geometry locked).back_le (h.numbered x held) ?_
  obtain there | there := List.mem_append.mp held
  · obtain ⟨sl, mine, rfl⟩ := List.mem_map.mp there
    have knife := h.knife sl mine
    have far := geometry.distance
    have once := owed_le due .knife
    dsimp only
    omega
  · obtain ⟨d, mine, rfl⟩ := List.mem_map.mp there
    exact h.entry_past geometry mine

/-- The strobe due joins (R12). -/
theorem TrackDue.joined (h : TrackDue (.strobe :: due) s) (geometry : GeometryOk s.settings.geometry)
    (locked : s.feed.sync = .locked) (reached : ahead s = 0) (joined : NumberJoined s t) : TrackDue due t := by
  have near := h.held_back geometry locked
  have here : s.feed.nextPos = s.feed.h := by
    unfold ahead at reached
    bv_omega
  have count : ∀ n, slicesIn t n = slicesIn s n := fun n => by rw [slicesIn, joined.slices, slicesIn]
  have last : strobesBack t s.feed.nextNum = 1 := by
    unfold strobesBack
    rw [joined.nextNum]
    bv_omega
  have ids : strobesHeld t = strobesHeld s ++ [{ num := s.feed.nextNum, pos := s.feed.nextPos }] := by
    simp [strobesHeld, joined.slices, joined.list]
  have way : ahead t = s.settings.geometry.pitch := by
    have pitch := geometry.pitch
    unfold ahead
    rw [joined.nextPos, joined.h, here, posPlus]
    generalize s.settings.geometry.pitch = p at pitch
    bv_omega
  have passed : pastBy s s.feed.nextPos = 0 := by
    rw [here]
    simp [pastBy]
  refine ⟨fun _ => ?_, ?_, fun settles => ?_, ?_, ?_, ?_, ?_, ?_, ?_, ?_, ?_⟩
  · rw [way, joined.geometry]
    have pitch := geometry.pitch
    omega
  · rw [joined.f, joined.h]
    exact h.back
  · exact absurd (locked.symm.trans (joined.sync.symm.trans settles)) (by decide)
  · intro x held
    rw [ids] at held
    obtain held | held := List.mem_append.mp held
    · exact joined.inNumbering (near x held) (h.numbered x held)
    · obtain rfl := List.mem_singleton.mp held
      refine ⟨by rw [last], ?_⟩
      rw [last, joined.geometry, joined.nextPos, Nat.one_mul]
      rfl
  · rw [ids, List.map_append, List.pairwise_append]
    refine ⟨?_, by simp, fun a held b new => ?_⟩
    · rw [List.pairwise_map]
      refine (List.pairwise_map.mp h.order).imp_of_mem fun {x y} hx hy further => ?_
      rw [joined.back (near x hx), joined.back (near y hy)]
      exact Nat.succ_lt_succ further
    · obtain ⟨x, hx, rfl⟩ := List.mem_map.mp held
      obtain rfl : b = strobesBack t s.feed.nextNum := by simpa using new
      rw [last, joined.back (near x hx)]
      have := (h.numbered x hx).1
      omega
  · rw [joined.slices]
    intro sl held
    rw [joined.past, joined.geometry]
    simpa [owed_cons_ne] using h.knife sl held
  · rw [joined.slices]
    intro sl held entered
    rw [joined.past, joined.geometry]
    simpa [owed_cons_ne] using h.lead sl held entered
  · rw [joined.slices, joined.records]
    exact h.hide
  · rw [joined.list]
    intro d held
    rw [joined.past, joined.geometry]
    obtain held | held := List.mem_append.mp held
    · simpa [owed_cons_ne] using h.list d held
    · obtain rfl := List.mem_singleton.mp held
      have wide := geometry.leadDistance
      have pitch := geometry.pitch
      rw [passed]
      omega
  · rw [joined.records]
    intro r held
    rw [count]
    exact h.inTrack r held
  · rw [joined.records]
    intro r held isOpen
    have opened := h.opened r held isOpen
    have reach := (h.scaled geometry locked).back_le opened.numbered (opened.past geometry)
    refine ⟨joined.newest, joined.inNumbering reach opened.numbered, ?_, fun entered d there => ?_⟩
    · rw [joined.past, joined.geometry]
      simpa [owed_cons_ne] using opened.near
    · rw [joined.back reach]
      rw [joined.list] at there
      obtain there | there := List.mem_append.mp there
      · rw [joined.back (near _ (strobeOfEntry_mem there))]
        exact Nat.succ_lt_succ (opened.before entered d there)
      · obtain rfl := List.mem_singleton.mp there
        rw [last]
        have := opened.numbered.1
        omega

theorem listRoom_trackDue (h : TrackDue due s) (geometry : GeometryOk s.settings.geometry) (distinct : DistinctNumbers s) :
    TrackDue due (listRoom s) := by
  unfold listRoom
  split
  · exact (departDue_trackDue (departHead_trackDue h geometry distinct) (by simpa using geometry)
      (departHead_distinct distinct)).1
  · exact h

theorem listRoom_settings (s : State) : (listRoom s).settings = s.settings := by
  unfold listRoom
  split <;> simp

theorem issueStrobe_trackDue (h : TrackDue (.strobe :: due) s) (geometry : GeometryOk s.settings.geometry)
    (distinct : DistinctNumbers s) (locked : s.feed.sync = .locked) (reached : ahead s = 0) :
    TrackDue due (issueStrobe s) := by
  have feed := listRoom_feed s
  have settings := listRoom_settings s
  refine (listRoom_trackDue h geometry distinct).joined (t := issueStrobe s) (by rw [settings]; exact geometry)
    (by rw [feed]; exact locked) (by unfold ahead at reached ⊢; rw [feed]; exact reached) ?_
  refine ⟨?_, ?_, ?_, ?_, ?_, ?_, ?_, ?_, rfl, rfl⟩
  · rw [issueStrobe_feed, feed]
  · rw [issueStrobe_feed, feed]
  · rw [issueStrobe_feed, feed]
  · rw [issueStrobe_feed, feed]
  · rw [issueStrobe_feed, feed, settings]
  · rw [issueStrobe_feed]
    rfl
  · rw [settings, issueStrobe_settings]
  · rw [feed]
    exact issueStrobe_list s

/-! ## The strobe's event -/

/-- H reaches the next strobe position where none of the way is left. -/
theorem reaches_next_iff (near : ahead s ≤ 500) : reaches s.feed.h s.feed.nextPos = true ↔ ahead s = 0 := by
  unfold reaches posDiff
  rw [decide_eq_true_eq, BitVec.toInt_eq_toNat_cond]
  unfold ahead at near ⊢
  rw [if_pos (by omega)]
  omega

theorem TrackDue.emptied_inTrack (h : TrackDue due s) (distinct : DistinctNumbers s) (finished : anyUnfinished s = false) :
    ∀ r ∈ s.hides.records, r.inTrack = 0 := fun r held =>
  h.finished_inTrack distinct held (noneUnfinished_iff.mp finished r held)

/-- Where nothing is in the machine the next strobe position moves on with H (R12, R13). -/
theorem TrackDue.nextMoved (h : TrackDue (.strobe :: due) s) (geometry : GeometryOk s.settings.geometry)
    (distinct : DistinctNumbers s) (empty : Emptied s) : TrackDue due { s with feed := { s.feed with
      nextPos := posPlus s.feed.h s.settings.geometry.pitch } } := by
  have pitch := geometry.pitch
  have way : ahead { s with feed := { s.feed with nextPos := posPlus s.feed.h s.settings.geometry.pitch } } =
      s.settings.geometry.pitch := by
    unfold ahead posPlus
    dsimp only
    generalize s.settings.geometry.pitch = p at pitch
    bv_omega
  refine .ofEmptied (fun _ => ?_) h.back empty (h.emptied_inTrack distinct empty.2.2)
  rw [way]
  exact ⟨by omega, le_rfl⟩

theorem OutstandingSound.settling_emptied (sound : OutstandingSound s) (h : TrackDue due s)
    (settling : s.feed.sync = .settling) : Emptied s :=
  ⟨(settling_empty sound settling).1, h.settling settling⟩

/-- The end of settling begins a numbering at H (R10). -/
theorem TrackDue.relocked (h : TrackDue (.strobe :: due) s) (distinct : DistinctNumbers s) (empty : Emptied s) :
    TrackDue (.strobe :: due) (relocked s) := by
  have feed := relocked_feed s
  have kept : Emptied (Machine.relocked s) := empty.of (by rw [relocked_intake]) (by simp [Machine.relocked])
    (by simp [Machine.relocked])
  refine .ofEmptied (fun _ => ?_) (by rw [feed]; exact h.back) kept fun r held => ?_
  · have here : ahead (Machine.relocked s) = 0 := by simp [ahead]
    rw [here]
    simp
  · refine h.emptied_inTrack distinct empty.2.2 r ?_
    simpa [Machine.relocked] using held

theorem riseStrobe_trackDue (h : TrackDue (.strobe :: due) s) (geometry : GeometryOk s.settings.geometry)
    (distinct : DistinctNumbers s) (sound : OutstandingSound s) (rest : RestEmpty s) : TrackDue due (riseStrobe s) := by
  cases sync : s.feed.sync with
  | locked =>
    have near : ahead s ≤ 500 := ((h.next sync).2).trans geometry.pitch.2
    cases permits : s.ctl.phase.permitsStrobes with
    | true =>
      by_cases reached : reaches s.feed.h s.feed.nextPos = true
      · rw [riseStrobe_issues sync permits reached]
        exact issueStrobe_trackDue h geometry distinct sync ((reaches_next_iff near).mp reached)
      · rw [riseStrobe_waits sync permits reached]
        exact h.taken (fun _ _ => Nat.pos_of_ne_zero fun none => reached ((reaches_next_iff near).mpr none))
          (by simp) (by simp) (by simp)
    | false =>
      rw [riseStrobe_moves sync permits]
      exact h.nextMoved geometry distinct (rest permits)
  | settling =>
    have empty := sound.settling_emptied h sync
    by_cases settled : Settled s
    · have begun := h.relocked distinct empty
      have settings : (relocked s).settings = s.settings := by simp [Machine.relocked]
      have records : (relocked s).hides = s.hides := by simp [Machine.relocked]
      have distinct' : DistinctNumbers (relocked s) := by
        unfold DistinctNumbers at distinct ⊢
        rwa [records]
      have geometry' : GeometryOk (relocked s).settings.geometry := by rw [settings]; exact geometry
      cases permits : s.ctl.phase.permitsStrobes with
      | true =>
        rw [riseStrobe_settled_issues sync settled permits]
        exact issueStrobe_trackDue begun geometry' distinct' (by simp) (by simp [ahead])
      | false =>
        have empty' : Emptied (relocked s) := empty.of (by rw [relocked_intake]) (by rw [records])
          (by simp [relocked])
        rw [riseStrobe_settled_moves sync settled permits]
        have moved := begun.nextMoved geometry' distinct' empty'
        rw [settings] at moved
        simpa using moved
    · rw [riseStrobe_settling sync settled]
      exact h.nextMoved geometry distinct empty

end Sys2Proof.Machine

/-! PROOFS. The lead, knife and length events of a rise, in the agreement of track and hides (O9). -/

namespace Sys2Proof.Machine

variable {due : List RiseEvent} {s t : State} {sl : Slice}

/-! ## Records made anew in their places -/

/-- A record that keeps its number, first strobe and slices, opens nothing, and finishes only with no slice left. -/
structure Remade (q q' : HideRecord) : Prop where
  number : q'.number = q.number
  first : q'.first = q.first
  inTrack : q'.inTrack = q.inTrack
  unfinished : q'.state.unfinished = true → q.state.unfinished = true
  opened : q'.state.isOpen = true → q.state.isOpen = true ∧ (q'.state = .scanSplit → 0 < q.inTrack ∨ q.state = .scanSplit)
  kept : 0 < q.inTrack → q.state.unfinished = true → q'.state.unfinished = true

theorem Remade.refl (q : HideRecord) : Remade q q :=
  ⟨rfl, rfl, rfl, id, fun isOpen => ⟨isOpen, .inr⟩, fun _ => id⟩

theorem slicesIn_map {f : Slice → Slice} (slices : t.track.slices = s.track.slices.map f)
    (hide : ∀ x, (f x).hide = x.hide) (n : Num) : slicesIn t n = slicesIn s n := by
  rw [slicesIn, slices, List.filter_map, List.length_map, slicesIn]
  simp only [Function.comp_def, hide]

theorem TrackDue.hasSlice (h : TrackDue due s) {x : Slice} (held : x ∈ s.track.slices) {q : HideRecord}
    (mine : q ∈ s.hides.records) (number : q.number = x.hide) : 0 < q.inTrack := by
  rw [h.inTrack q mine, slicesIn, List.length_pos_iff_exists_mem]
  exact ⟨x, List.mem_filter.mpr ⟨held, by simp [number]⟩⟩

/-- A slice that stays in its place, and does not go back to ENTERED. -/
structure InPlace (x x' : Slice) : Prop where
  strobe : x'.strobe = x.strobe
  pos : x'.pos = x.pos
  hide : x'.hide = x.hide
  stage : x'.stage = .entered → x.stage = .entered

theorem TrackDue.remade (h : TrackDue due s) (scale : SameScale s t) (list : t.intake.list = s.intake.list)
    {g : Slice → Slice} (slices : t.track.slices = s.track.slices.map g) (inPlace : ∀ x, InPlace x (g x))
    {f : HideRecord → HideRecord} (records : t.hides.records = s.hides.records.map f)
    (each : ∀ q ∈ s.hides.records, Remade q (f q)) : TrackDue due t := by
  have count := slicesIn_map slices fun x => (inPlace x).hide
  refine h.thinned ⟨scale, ?_, fun e held => ⟨e, list ▸ held, rfl, rfl⟩, fun sl held => ?_, fun sl held => ?_, fun r held => ?_,
    fun r held => ?_⟩
  · have same : strobesHeld t = strobesHeld s := by
      rw [strobesHeld, list, slices, List.map_map, strobesHeld]
      congr 1
      exact List.map_congr_left fun x _ => by rw [Function.comp_apply, (inPlace x).strobe, (inPlace x).pos]
    rw [same]
  · obtain ⟨x, there, rfl⟩ := List.mem_map.mp (slices ▸ held)
    exact ⟨x, there, (inPlace x).pos.symm, (inPlace x).stage⟩
  · obtain ⟨x, there, rfl⟩ := List.mem_map.mp (slices ▸ held)
    obtain ⟨q, mine, number, unfinished⟩ := h.hide x there
    have stays := each q mine
    refine ⟨f q, records ▸ List.mem_map_of_mem mine, ?_, stays.kept (h.hasSlice there mine number) unfinished⟩
    rw [stays.number, number, (inPlace x).hide]
  · obtain ⟨q, there, rfl⟩ := List.mem_map.mp (records ▸ held)
    rw [count, (each q there).number, (each q there).inTrack]
    exact h.inTrack q there
  · obtain ⟨q, there, rfl⟩ := List.mem_map.mp (records ▸ held)
    have stays := each q there
    refine ⟨q, there, stays.first, stays.unfinished, fun isOpen => ⟨(stays.opened isOpen).1, ?_⟩⟩
    rintro (some | split)
    · exact .inl (stays.inTrack ▸ some)
    · exact (stays.opened isOpen).2 split

theorem TrackDue.remadeRecords (h : TrackDue due s) (scale : SameScale s t) (list : t.intake.list = s.intake.list)
    (slices : t.track.slices = s.track.slices) {f : HideRecord → HideRecord}
    (records : t.hides.records = s.hides.records.map f) (each : ∀ q ∈ s.hides.records, Remade q (f q)) : TrackDue due t :=
  h.remade (g := id) scale list (by rw [slices, List.map_id]) (fun _ => ⟨rfl, rfl, rfl, id⟩) records each

/-! ## The points of a slice (R72, R76) -/

theorem leadReached_past {p : Pos} (geometry : GeometryOk s.settings.geometry) (past : pastBy s p ≤ 60001) :
    leadReached p s = true ↔ s.settings.geometry.distance ≤ pastBy s p + s.settings.geometry.lead := by
  rw [leadReached_iff, AtLeadPoint, BitVec.toInt_eq_toNat_cond]
  have distance := geometry.distance
  have lead := geometry.lead
  have order := geometry.leadDistance
  unfold pastBy at *
  generalize s.settings.geometry.distance = d at *
  generalize s.settings.geometry.lead = l at *
  generalize s.feed.h = now at *
  split <;> bv_omega

theorem knifeReached_past {p : Pos} (geometry : GeometryOk s.settings.geometry) (past : pastBy s p ≤ 60001) :
    knifeReached p s = true ↔ s.settings.geometry.distance ≤ pastBy s p := by
  rw [knifeReached_iff, AtKnifePoint, BitVec.toInt_eq_toNat_cond]
  have distance := geometry.distance
  unfold pastBy at *
  generalize s.settings.geometry.distance = d at *
  generalize s.feed.h = now at *
  split <;> bv_omega

theorem TrackDue.slice_past (h : TrackDue due s) (geometry : GeometryOk s.settings.geometry) (held : sl ∈ s.track.slices) :
    pastBy s sl.pos ≤ 60001 := by
  have knife := h.knife sl held
  have far := geometry.distance
  have once := owed_le due .knife
  omega

/-! ## Conversion (R56, R73) -/

theorem HideRecord.remade_convert {outs : List ZoneSplit} {present : List Nat} {area : Nat} {q : HideRecord}
    (some : 0 < q.inTrack) : Remade q (q.convert outs present area) where
  number := rfl
  first := rfl
  inTrack := rfl
  unfinished := by
    cases state : q.state <;> simp [HideRecord.convert, state, HideState.afterConversion, HideState.unfinished]
  opened isOpen := ⟨by
    revert isOpen
    cases state : q.state <;> simp [HideRecord.convert, state, HideState.afterConversion, HideState.isOpen], fun _ => .inl some⟩
  kept _ := by cases state : q.state <;> simp [HideRecord.convert, state, HideState.afterConversion, HideState.unfinished]

/-- The slice of a conversion and its record, before the targets go out. -/
theorem TrackDue.converted (h : TrackDue due s) (held : sl ∈ s.track.slices) (outs : List ZoneSplit) (present : List Nat)
    (area : Nat) : TrackDue due { s with
      hides := s.hides.upd (HideRecord.convert outs present area) sl.hide
      track := convertedTrack sl outs s.track } := by
  refine h.remade ⟨rfl, rfl⟩ rfl rfl (fun x => ?_) rfl fun q mine => ?_
  · split
    · exact ⟨rfl, rfl, rfl, nofun⟩
    · exact ⟨rfl, rfl, rfl, id⟩
  · split
    case isTrue own => exact HideRecord.remade_convert (h.hasSlice held mine own)
    case isFalse => exact .refl q

theorem upd_numbers (f : HideRecord → HideRecord) (number : ∀ q, (f q).number = q.number) (n : Num) (h : HideTable) :
    (h.upd f n).records.map HideRecord.number = h.records.map HideRecord.number := by
  rw [HideTable.upd, List.map_map]
  refine List.map_congr_left fun q _ => ?_
  rw [Function.comp_apply]
  split
  · exact number q
  · rfl

theorem convertSlice_distinct (distinct : DistinctNumbers s) : DistinctNumbers (convertSlice sl s) := by
  cases found : findHide s sl.hide with
  | none => simpa [convertSlice, found] using distinct
  | some r =>
    unfold DistinctNumbers
    rw [convertSlice_hides found, upd_numbers (HideRecord.convert _ _ _) fun _ => rfl]
    exact distinct

/-- The conversion of the one slice at its lead point. -/
theorem convertSlice_trackDue (h : TrackDue (.lead :: due) s) (distinct : DistinctNumbers s) (held : sl ∈ s.track.slices)
    (others : ∀ x ∈ s.track.slices, x.stage = .entered → x ≠ sl →
      pastBy s x.pos + s.settings.geometry.lead < s.settings.geometry.distance)
    (list : ∀ d ∈ s.intake.list, pastBy s d.pos + s.settings.geometry.lead < s.settings.geometry.distance) :
    TrackDue due (convertSlice sl s) := by
  obtain ⟨q, mine, number, _⟩ := h.hide sl held
  cases found : findHide s sl.hide with
  | none => exact absurd number (by simpa using List.find?_eq_none.mp found q mine)
  | some r =>
    rw [convertSlice_eq found]
    generalize (splitInput sl r s).run = outs
    generalize (splitInput sl r s).thicknesses = present
    refine (deliverTargets_trail (c := .miss) sl 0 _).trackDue rfl (distinct.of
      (upd_numbers (HideRecord.convert outs present _) (fun _ => rfl) _ _)) ?_
    refine TrackDue.taken (e := .lead) (h.converted held outs present _) nofun nofun (fun _ => ⟨fun x' there entered => ?_, list⟩) nofun
    obtain ⟨x, was, rfl⟩ := List.mem_map.mp there
    by_cases own : x.strobe = sl.strobe ∧ x.hide = sl.hide
    · simp [own] at entered
    · have same : ¬ (decide (x.strobe = sl.strobe) && decide (x.hide = sl.hide)) = true := by simpa using own
      rw [if_neg same] at entered ⊢
      exact others x was entered fun eq => own ⟨by rw [eq], by rw [eq]⟩

/-! ## The lead crossing (R35, R72) -/

/-- No slice is in ENTERED. -/
theorem oldestEntered_none (none : oldestEntered s = none) {x : Slice} (held : x ∈ s.track.slices) : x.stage ≠ .entered := by
  simpa using List.find?_eq_none.mp none x held

/-- The strobes behind the oldest slice in ENTERED are a pitch and more from where it is. -/
theorem TrackDue.behind_oldest (h : TrackDue due s) (geometry : GeometryOk s.settings.geometry)
    (oldest : oldestEntered s = some sl) : (∀ x ∈ s.track.slices, x.stage = .entered → x ≠ sl →
      pastBy s x.pos + s.settings.geometry.pitch ≤ pastBy s sl.pos) ∧
    ∀ d ∈ s.intake.list, pastBy s d.pos + s.settings.geometry.pitch ≤ pastBy s sl.pos := by
  obtain ⟨held, _⟩ := oldestEntered_mem oldest
  have scaled := h.scaled geometry (locked_of_slice h held)
  obtain ⟨inOrder, _, across⟩ := h.order_parts
  have mine := h.numbered _ (strobeOfSlice_mem held)
  refine ⟨fun x there entered other => ?_, fun d there => ?_⟩
  · obtain ⟨_, before, after, eq, none⟩ := List.find?_eq_some_iff_append.mp oldest
    have behind : x ∈ after := by
      rw [eq] at there
      obtain was | there := List.mem_append.mp there
      · exact absurd entered (by simpa using none x was)
      · exact (List.mem_cons.mp there).resolve_left other
    rw [eq] at inOrder
    exact scaled.further mine (h.numbered _ (strobeOfSlice_mem there))
      ((List.pairwise_cons.mp (List.pairwise_append.mp inOrder).2.1).1 x behind)
  · exact scaled.further mine (h.numbered _ (strobeOfEntry_mem there)) (across sl held d there)

/-- The entries behind the head are a pitch and more from where it is. -/
theorem TrackDue.behind_head (h : TrackDue due s) (geometry : GeometryOk s.settings.geometry) (sound : OutstandingSound s)
    {e : Entry} {rest : List Entry} (list : s.intake.list = e :: rest) :
    ∀ d ∈ rest, pastBy s d.pos + s.settings.geometry.pitch ≤ pastBy s e.pos := by
  have first : e ∈ s.intake.list := list ▸ List.mem_cons_self ..
  have scaled := h.scaled geometry ((outstandingSound_iff.mp sound).1.locked first)
  obtain ⟨_, inOrder, _⟩ := h.order_parts
  rw [list] at inOrder
  intro d there
  exact scaled.further (h.numbered _ (strobeOfEntry_mem first))
    (h.numbered _ (strobeOfEntry_mem (list ▸ List.mem_cons_of_mem _ there))) ((List.pairwise_cons.mp inOrder).1 d there)

/-- The head taken out at its lead point, and converted at once where it has entered. -/
theorem convertEntered_departHead (h : TrackDue (.lead :: due) s) (geometry : GeometryOk s.settings.geometry)
    (distinct : DistinctNumbers s) (sound : OutstandingSound s) (none : oldestEntered s = none) {e : Entry}
    {rest : List Entry} (list : s.intake.list = e :: rest) : TrackDue due (convertEntered (departHead s)) := by
  have departed := departHead_trackDue h geometry distinct
  have distinct' := departHead_distinct distinct
  have slices := departHead_slices list
  have left : (departHead s).intake.list = rest := by rw [departHead_list, list, List.tail_cons]
  have near := h.list e (list ▸ List.mem_cons_self ..)
  have behind := h.behind_head geometry sound list
  have pitch := geometry.pitch
  have settings : (departHead s).settings = s.settings := by simp
  have past : ∀ p, pastBy (departHead s) p = pastBy s p := fun p => by simp [pastBy]
  have clear : ∀ d ∈ (departHead s).intake.list,
      pastBy (departHead s) d.pos + (departHead s).settings.geometry.lead < (departHead s).settings.geometry.distance := by
    rw [left, settings]
    intro d there
    have far := behind d there
    have once := owed_le (.lead :: due) .lead
    rw [past]
    omega
  unfold convertEntered
  split
  next sl found =>
    obtain ⟨held, entered⟩ := oldestEntered_mem found
    refine convertSlice_trackDue departed distinct' held (fun x there stage other => absurd ?_ other) clear
    have newOnly : ∀ y ∈ (departHead s).track.slices, y.stage = .entered → y ∈ (enteredFor s.hides.records e).toList :=
      fun y there stage => (List.mem_append.mp (slices ▸ there)).resolve_left fun was => oldestEntered_none none was stage
    have mine := newOnly sl held entered
    have its := newOnly x there stage
    rw [Option.mem_toList] at mine its
    exact Option.some.inj (its.symm.trans mine)
  next found =>
    exact departed.taken nofun nofun
      (fun _ => ⟨fun x there stage => absurd stage (oldestEntered_none found there), clear⟩) nofun

theorem convertEntered_distinct (distinct : DistinctNumbers s) : DistinctNumbers (convertEntered s) := by
  unfold convertEntered
  split
  · exact convertSlice_distinct distinct
  · exact distinct

theorem riseLead_trackDue (h : TrackDue (.lead :: due) s) (geometry : GeometryOk s.settings.geometry)
    (distinct : DistinctNumbers s) (sound : OutstandingSound s) : TrackDue due (riseLead s) := by
  have pitch := geometry.pitch
  have once := owed_le (.lead :: due) .lead
  unfold riseLead
  split
  next sl oldest =>
    obtain ⟨held, entered⟩ := oldestEntered_mem oldest
    obtain ⟨slices, list⟩ := h.behind_oldest geometry oldest
    have near := h.lead sl held entered
    split
    next reached =>
      refine convertSlice_trackDue h distinct held (fun x there stage other => ?_) fun d there => ?_
      · have := slices x there stage other
        omega
      · have := list d there
        omega
    next before =>
      have short := mt (leadReached_past geometry (h.slice_past geometry held)).mpr before
      refine h.taken nofun nofun (fun _ => ⟨fun x there stage => ?_, fun d there => ?_⟩) nofun
      · by_cases same : x = sl
        · rw [same]
          omega
        · have := slices x there stage same
          omega
      · have := list d there
        omega
  next none =>
    split
    next empty =>
      exact h.taken nofun nofun (fun _ => ⟨fun x there stage => absurd stage (oldestEntered_none none there), by simp [empty]⟩)
        nofun
    next e rest list =>
      split
      next reached =>
        exact (departDue_trackDue (convertEntered_departHead h geometry distinct sound none list) (by
          have settings : (convertEntered (departHead s)).settings = s.settings := by simp
          rw [settings]
          exact geometry) (convertEntered_distinct (departHead_distinct distinct))).1
      next before =>
        have first : e ∈ s.intake.list := list ▸ List.mem_cons_self ..
        have short := mt (leadReached_past geometry (h.entry_past geometry first)).mpr before
        refine h.taken nofun nofun
          (fun _ => ⟨fun x there stage => absurd stage (oldestEntered_none none there), fun d there => ?_⟩) nofun
        rw [list] at there
        obtain rfl | there := List.mem_cons.mp there
        · omega
        · have := h.behind_head geometry sound list d there
          omega

end Sys2Proof.Machine

/-! PROOFS. The ends of hides and the knife and length events, in the agreement of track and hides (O9). -/

namespace Sys2Proof.Machine

variable {due : List RiseEvent} {s t : State} {sl : Slice}

/-! ## Ends of hides (R53, R59) -/

theorem HideRecord.finished_inTrack {r : HideRecord} (done : r.finished = true) : r.inTrack = 0 := by
  simp only [HideRecord.finished, Bool.and_eq_true, decide_eq_true_eq] at done
  exact done.2

/-- Becoming DONE opens nothing, and no slice is left of the hide. -/
theorem HideRecord.remade_done {n : Num} {q : HideRecord} (last : q.number = n → q.inTrack = 0) : Remade q (q.doneIf n) := by
  unfold HideRecord.doneIf
  split
  case isTrue named =>
    exact ⟨rfl, rfl, rfl, nofun, fun isOpen => absurd isOpen HideState.done_not_isOpen, fun some => absurd some (by simp [last named])⟩
  case isFalse => exact .refl q

theorem tryDone_trackDue (n : Num) (h : TrackDue due s) (distinct : DistinctNumbers s) : TrackDue due (tryDone n s) := by
  unfold tryDone
  split
  next r found =>
    split
    next done =>
      obtain ⟨held, numbered⟩ := findHide_mem found
      refine h.remadeRecords ⟨?_, ?_⟩ (by simp) ?_ (f := HideRecord.doneIf n) (by rw [becomeDone_hides]) fun q there => ?_
      · rw [becomeDone_feed]
      · obtain ⟨k, settings⟩ := tryDone_settings n s
        rw [tryDone, found] at settings
        simp only [done, if_true] at settings
        rw [settings]
      · rw [becomeDone, applyPending_slices]
        rfl
      · refine HideRecord.remade_done fun named => ?_
        rw [distinct.unique there held (named.trans numbered.symm)]
        exact HideRecord.finished_inTrack done
    · exact h
  · exact h

/-- An end closes the hide, and leaves its slices. -/
theorem HideRecord.remade_ended {n e : Num} {forced : Bool} {q : HideRecord} : Remade q (q.endedIf n e forced) := by
  unfold HideRecord.endedIf
  split
  · refine ⟨rfl, rfl, rfl, fun unfinished => ?_, fun isOpen => absurd isOpen ?_, fun _ unfinished => ?_⟩
    · revert unfinished
      cases q.state <;> simp [HideState.ended, HideState.unfinished]
    · exact Bool.eq_false_iff.mp q.state.ended_not_isOpen
    · revert unfinished
      cases q.state <;> simp [HideState.ended, HideState.unfinished]
  · exact .refl q


theorem endAt_trackDue (n e : Num) (forced : Bool) (h : TrackDue due s) (distinct : DistinctNumbers s) :
    TrackDue due (endAt n e forced s) := by
  rw [endAt_eq]
  refine tryDone_trackDue n (h.remadeRecords ⟨by simp [updRecords], by simp [updRecords]⟩ (by simp [updRecords])
    (by simp [updRecords]) (f := HideRecord.endedIf n e forced) (by simp [updRecords]) fun q _ => HideRecord.remade_ended) ?_
  unfold DistinctNumbers
  rw [raiseLineIf_hides, updRecords_records, List.map_map]
  exact (congrArg List.Nodup (List.map_congr_left fun q _ => q.endedIf_number n e forced)).mpr distinct

/-! ## The knife crossing (R58, R76) -/

/-- The head slice gone and counted off its hide's record. -/
theorem TrackDue.passed (h : TrackDue due s) {rest : List Slice} (slices : s.track.slices = sl :: rest) :
    TrackDue due { s with
      hides := s.hides.upd (HideRecord.pass sl) sl.hide
      track := { s.track with slices := rest } } := by
  have within : ∀ x ∈ rest, x ∈ s.track.slices := fun x there => slices ▸ List.mem_cons_of_mem _ there
  have count : ∀ n, slicesIn s n = slicesIn { s with track := { s.track with slices := rest } } n +
      if sl.hide = n then 1 else 0 := fun n => by
    unfold slicesIn
    rw [slices, List.filter_cons]
    split
    case isTrue own => simp_all
    case isFalse other => simp_all
  refine h.thinned ⟨⟨rfl, rfl⟩, ?_, fun e held => ⟨e, held, rfl, rfl⟩, fun x held => ⟨x, within x held, rfl, id⟩,
    fun x held => ?_, fun r held => ?_, fun r held => ?_⟩
  · rw [strobesHeld, strobesHeld, slices]
    exact ((List.sublist_cons_self sl rest).map _).append_right _
  · obtain ⟨q, mine, number, unfinished⟩ := h.hide x (within x held)
    refine ⟨_, List.mem_map_of_mem mine, ?_, ?_⟩
    · split <;> exact number
    · split <;> exact unfinished
  · obtain ⟨q, mine, rfl⟩ := List.mem_map.mp held
    have before := (h.inTrack q mine).trans (count q.number)
    split
    case isTrue own =>
      rw [if_pos own.symm] at before
      exact Nat.sub_eq_of_eq_add before
    case isFalse other =>
      rw [if_neg (Ne.symm other)] at before
      exact before
  · obtain ⟨q, mine, rfl⟩ := List.mem_map.mp held
    refine ⟨q, mine, ?_⟩
    split
    · exact ⟨rfl, id, fun isOpen => ⟨isOpen, Or.imp_left fun some => Nat.lt_of_lt_of_le some (Nat.sub_le ..)⟩⟩
    · exact ⟨rfl, id, fun isOpen => ⟨isOpen, id⟩⟩

theorem riseKnife_trackDue (h : TrackDue (.knife :: due) s) (geometry : GeometryOk s.settings.geometry)
    (distinct : DistinctNumbers s) : TrackDue due (riseKnife s) := by
  have pitch := geometry.pitch
  unfold riseKnife
  split
  next none => exact h.taken nofun (fun _ => by simp [none]) nofun nofun
  next sl rest slices =>
    have held : sl ∈ s.track.slices := slices ▸ List.mem_cons_self ..
    have past := h.slice_past geometry held
    have behind : ∀ x ∈ rest, pastBy s x.pos + s.settings.geometry.pitch ≤ pastBy s sl.pos := fun x there => by
      obtain ⟨inOrder, _⟩ := h.order_parts
      rw [slices] at inOrder
      exact (h.scaled geometry (locked_of_slice h held)).further (h.numbered _ (strobeOfSlice_mem held))
        (h.numbered _ (strobeOfSlice_mem (slices ▸ List.mem_cons_of_mem _ there))) ((List.pairwise_cons.mp inOrder).1 x there)
    split
    next reached =>
      rw [retire_eq]
      have near := h.knife sl held
      have once := owed_le (.knife :: due) .knife
      have distinct' : DistinctNumbers { s with
          hides := s.hides.upd (HideRecord.pass sl) sl.hide
          track := { s.track with slices := rest } } :=
        distinct.of (upd_numbers (HideRecord.pass sl) (fun _ => rfl) _ _)
      have passed : TrackDue due { s with
          hides := s.hides.upd (HideRecord.pass sl) sl.hide
          track := { s.track with slices := rest } } := by
        refine TrackDue.taken (e := .knife) (h.passed slices) nofun (fun _ x there => ?_) nofun nofun
        have := behind x there
        show pastBy s x.pos < s.settings.geometry.distance
        omega
      refine tryDone_trackDue _ ((detach_trail (c := .miss) _).trackDue rfl distinct' passed) ?_
      unfold DistinctNumbers
      rw [detach_hides]
      exact distinct'
    next before =>
      have short := mt (knifeReached_past geometry past).mpr before
      refine h.taken nofun (fun _ x there => ?_) nofun nofun
      rw [slices] at there
      obtain rfl | there := List.mem_cons.mp there
      · omega
      · have := behind x there
        omega

/-! ## The maximum length (R54) -/

theorem riseLength_trackDue (h : TrackDue (.length :: due) s) (geometry : GeometryOk s.settings.geometry)
    (table : HideTableSound s) : TrackDue due (riseLength s) := by
  unfold riseLength
  split
  next r newest found _ =>
    obtain ⟨held, isOpen⟩ := openHide_mem found
    have only : ∀ q ∈ s.hides.records, q.state.isOpen = true → q = r := fun q there itsOpen =>
      table.open_unique there held itsOpen isOpen
    split
    next long =>
      refine (endAt_trackDue r.number newest.num true h table.distinct).taken nofun nofun nofun fun _ q there itsOpen => ?_
      have none := endAt_noneOpen (e := newest.num) (forced := true) (fun q there itsOpen => by rw [only q there itsOpen]) q there
      simp [none] at itsOpen
    next short =>
      refine h.taken nofun nofun nofun fun _ q there itsOpen => ?_
      rw [only q there itsOpen]
      have past := (h.opened r held isOpen).past geometry
      rw [posDiff, BitVec.toInt_eq_toNat_cond] at short
      unfold pastBy at past ⊢
      split at short <;> omega
  next r none found =>
    obtain ⟨held, isOpen⟩ := openHide_mem ‹_›
    have issued := (h.opened r held isOpen).issued
    simp_all
  next none =>
    refine h.taken nofun nofun nofun fun _ q there itsOpen => ?_
    have closed := NoneOpen.of_openHide none q there
    simp [closed] at itsOpen

/-! ## The events of a rise -/

/-- What holds between the events of a rise of H, of which `due` are still owed. -/
structure RiseSound (due : List RiseEvent) (s : State) : Prop where
  geometry : GeometryOk s.settings.geometry
  outstanding : OutstandingSound s
  table : HideTableSound s
  rest : RestEmpty s
  track : TrackDue due s

/-- A trail of a pulse keeps what the track does not speak of. -/
theorem RiseSound.along {due' : List RiseEvent} (h : RiseSound due s) (path : Trail aPulse s t)
    (outstanding : OutstandingSound t) (track : TrackDue due' t) : RiseSound due' t where
  geometry := by
    rw [path.settingsKept.geometry (by simp [aPulse])]
    exact h.geometry
  outstanding := outstanding
  table := path.hideTableSound (by simp [aPulse]) h.table
  rest := path.keeps (fun _ _ => Change.restEmpty) h.rest
  track := track

theorem riseEvent_riseSound (e : RiseEvent) (h : RiseSound (e :: due) s) : RiseSound due (riseEvent e s) := by
  have settled : ∀ {t : State}, Trail aPulse s t → TrackDue due t → TrackDue due (settle t) := fun path track =>
    (settle_trail (c := .miss)).trackDue rfl (path.hideTableSound (by simp [aPulse]) h.table).distinct track
  refine h.along (riseEvent_trail rfl e) (riseEvent_outstandingSound e h.outstanding) ?_
  cases e with
  | strobe =>
    exact settled (riseStrobe_trail rfl) (riseStrobe_trackDue h.track h.geometry h.table.distinct h.outstanding h.rest)
  | slip => exact settled riseSlip_trail ((riseSlip_trail (c := .miss)).trackDue rfl h.table.distinct h.track.slipTaken)
  | lead => exact settled (riseLead_trail rfl) (riseLead_trackDue h.track h.geometry h.table.distinct h.outstanding)
  | knife => exact settled (riseKnife_trail rfl) (riseKnife_trackDue h.track h.geometry h.table.distinct)
  | length => exact settled (riseLength_trail rfl) (riseLength_trackDue h.track h.geometry h.table)

theorem riseEvents_riseSound (es : List RiseEvent) (h : RiseSound es s) : RiseSound [] (riseEvents es s) := by
  induction es generalizing s with
  | nil => exact h
  | cons e es ih => exact ih (riseEvent_riseSound e h)

end Sys2Proof.Machine

/-! PROOFS. Rises and falls of F, in the agreement of track and hides (O9). -/

namespace Sys2Proof.Machine

variable {due : List RiseEvent} {s t : State} {sl : Slice}

/-! ## A rise of H (R5) -/

/-- H and F one count further on. -/
def advanced (s : State) : State := { s with feed := { s.feed with f := s.feed.f + 1, h := s.feed.f + 1 } }

theorem owed_all {es : List RiseEvent} (all : ∀ e, e ∈ es) (e : RiseEvent) : owed es e = 1 := by simp [owed, all e]

/-- A rise of H by one count owes every event. -/
theorem TrackDue.advanced {es : List RiseEvent} (h : TrackDue [] s) (geometry : GeometryOk s.settings.geometry)
    (level : s.feed.h = s.feed.f) (all : ∀ e, e ∈ es) : TrackDue es (advanced s) := by
  have past : ∀ {p : Pos}, pastBy s p ≤ 60001 → pastBy (Machine.advanced s) p = pastBy s p + 1 := fun {p} near => by
    unfold pastBy Machine.advanced at *
    dsimp only
    rw [← level]
    bv_omega
  have owes := owed_all all
  refine ⟨fun locked => ?_, ?_, h.settling, h.numbered, h.order, fun sl held => ?_, fun sl held entered => ?_, h.hide,
    fun e held => ?_, h.inTrack, fun r held isOpen => ?_⟩
  · obtain ⟨short, near⟩ := h.next locked
    have pitch := geometry.pitch
    rw [owed_nil] at short
    have way : ahead (Machine.advanced s) + 1 = ahead s := by
      unfold ahead Machine.advanced at *
      dsimp only
      rw [← level]
      bv_omega
    rw [owes]
    exact ⟨by omega, (Nat.le_succ _).trans (way.le.trans near)⟩
  · simp [Machine.advanced]
  · have knife := h.knife sl held
    rw [past (h.slice_past geometry held), owes]
    exact Nat.succ_lt_succ knife
  · have lead := h.lead sl held entered
    rw [past (h.slice_past geometry held), owes, Nat.add_right_comm]
    exact Nat.succ_lt_succ lead
  · have lead := h.list e held
    rw [past (h.entry_past geometry held), owes, Nat.add_right_comm]
    exact Nat.succ_lt_succ lead
  · have opened := h.opened r held isOpen
    refine { opened with near := ?_ }
    rw [past (opened.past geometry), owes]
    exact Nat.succ_le_succ opened.near

/-- Only F moves, and stays behind H. -/
theorem TrackDue.ofF (h : TrackDue due s) {f : Pos} (back : (s.feed.h - f).toNat ≤ 200) :
    TrackDue due { s with feed := { s.feed with f := f } } :=
  { h with back := back, opened := fun r held isOpen => { h.opened r held isOpen with } }

theorem riseF_riseSound (order : List RiseEvent) (s : State) (h : RiseSound [] s) : RiseSound [] (riseF order s) := by
  have back := h.track.back
  have path := riseF_trail (c := aPulse) (s := s) rfl order
  have outstanding := riseF_outstandingSound order s h.outstanding
  refine h.along path outstanding ?_
  unfold riseF
  dsimp only
  split
  next rises =>
    have level : s.feed.h = s.feed.f := by
      rw [posDiff, BitVec.toInt_eq_toNat_cond] at rises
      split at rises <;> bv_omega
    have all : ∀ e, e ∈ riseOrder order := riseOrder_complete order
    have moved : RiseSound (riseOrder order) (advanced s) :=
      ⟨h.geometry, h.outstanding, h.table, h.rest, h.track.advanced h.geometry level all⟩
    exact (riseEvents_riseSound _ moved).track
  next stays =>
    refine h.track.ofF ?_
    rw [posDiff, BitVec.toInt_eq_toNat_cond] at stays
    split at stays <;> bv_omega

/-! ## A restart of the numbering (R7, R168) -/

/-- After an emptying into SETTLING nothing is left. -/
theorem restarted_trackDue (cause : AbandonCause) (back : (s.feed.h - s.feed.f).toNat ≤ 200) (distinct : DistinctNumbers s)
    (finished : ∀ r ∈ s.hides.records, r.state.unfinished = false → r.inTrack = 0) :
    TrackDue [] (settle (restartWindow (flush cause (enterSettling s)))) ∧
      DistinctNumbers (settle (restartWindow (flush cause (enterSettling s)))) := by
  have hides : (restartWindow (flush cause (enterSettling s))).hides = abandonedTable cause s.hides := by
    simp [restartWindow, openWindow, enterSettling]
  have empty : Emptied (restartWindow (flush cause (enterSettling s))) := flush_emptied cause (enterSettling s)
  have distinct' : DistinctNumbers (restartWindow (flush cause (enterSettling s))) := by
    unfold DistinctNumbers
    rw [hides]
    refine (congrArg List.Nodup ?_).mpr distinct
    rw [abandonedTable, List.map_map]
    exact List.map_congr_left fun q _ => (RecordStep.emptied (s := s) cause q).number
  have ends : Trail .miss (restartWindow (flush cause (enterSettling s))) _ := settle_trail
  refine ⟨ends.trackDue rfl distinct' (.ofEmptied (fun locked => ?_) ?_ empty fun r held => ?_),
    ends.distinctNumbers rfl distinct'⟩
  · exact absurd locked (by simp [restartWindow, openWindow, enterSettling, flush])
  · simpa [restartWindow, openWindow, enterSettling, flush] using back
  · rw [hides] at held
    obtain ⟨q, there, rfl⟩ := List.mem_map.mp held
    exact HideRecord.emptied_inTrack cause (finished q there)

theorem fallF_riseSound (s : State) (h : RiseSound [] s) : RiseSound [] (fallF s) := by
  have back := h.track.back
  refine h.along (fallF_trail rfl) (fallF_outstandingSound s h.outstanding) ?_
  unfold fallF
  dsimp only
  split
  next beyond =>
    unfold discontinuity
    refine And.left (restarted_trackDue .reverse ?_ h.table.distinct fun r held finished =>
      h.track.finished_inTrack h.table.distinct held finished)
    simp
  next within =>
    have tolerance := h.geometry.tolerance
    refine h.track.ofF ?_
    rw [posDiff, BitVec.toInt_eq_toNat_cond] at within
    split at within <;> bv_omega

theorem bottomPulse_riseSound (order : List RiseEvent) (step : Step) (h : RiseSound [] s) :
    RiseSound [] (bottomPulse order step s) := by
  have start : ∀ acc, RiseSound [] { s with feed := { s.feed with botAcc := acc } } := fun acc =>
    ⟨h.geometry, h.outstanding, h.table, h.rest, h.track.same ⟨rfl, rfl⟩ rfl rfl rfl⟩
  cases step with
  | still => exact h
  | forward => exact times_keeps (riseF_riseSound order) _ (start _)
  | backward => exact times_keeps fallF_riseSound _ (start _)

end Sys2Proof.Machine

/-! PROOFS. What the hide requests leave of the agreement of track and hides (O9). -/

namespace Sys2Proof.Machine

variable {due : List RiseEvent} {s t : State} {e : Entry} {tag : Num} {r : HideRecord}

/-! ## Records freed (R48, R49, R63) -/

/-- The records of a number, of which no slice is in the track, are gone. -/
theorem TrackDue.freed (h : TrackDue due s) {n : Num} (none : slicesIn s n = 0) (scale : SameScale s t)
    (list : t.intake.list = s.intake.list) (slices : t.track.slices = s.track.slices)
    (records : t.hides.records = s.hides.records.filter fun q => q.number ≠ n) : TrackDue due t := by
  have mem : ∀ q, q ∈ t.hides.records ↔ q ∈ s.hides.records ∧ q.number ≠ n := fun q => by simp [records]
  have count : ∀ m, slicesIn t m = slicesIn s m := fun m => by rw [slicesIn, slices, slicesIn]
  refine h.thinned ⟨scale, ?_, fun e held => ⟨e, list ▸ held, rfl, rfl⟩, fun sl held => ⟨sl, slices ▸ held, rfl, id⟩,
    fun sl held => ?_, fun q held => ?_, fun q held => ?_⟩
  · rw [strobesHeld, list, slices, strobesHeld]
  · rw [slices] at held
    obtain ⟨q, mine, number, unfinished⟩ := h.hide sl held
    refine ⟨q, (mem q).mpr ⟨mine, fun same => ?_⟩, number, unfinished⟩
    have some := h.hasSlice held mine number
    rw [h.inTrack q mine, same, none] at some
    exact absurd some (Nat.lt_irrefl 0)
  · rw [count]
    exact h.inTrack q ((mem q).mp held).1
  · exact ⟨q, ((mem q).mp held).1, rfl, id, fun isOpen => ⟨isOpen, id⟩⟩

theorem TrackDue.slicesIn_finished (h : TrackDue due s) (distinct : DistinctNumbers s) (held : r ∈ s.hides.records)
    (finished : r.state.unfinished = false) : slicesIn s r.number = 0 :=
  (h.inTrack r held).symm.trans (h.finished_inTrack distinct held finished)

theorem takeRelease_trackDue {hide : Num} (h : TrackDue due s) (distinct : DistinctNumbers s)
    (found : findHide s hide = some r) (finished : r.state.unfinished = false) : TrackDue due (takeRelease hide s) := by
  obtain ⟨held, numbered⟩ := findHide_mem found
  exact h.freed (numbered ▸ h.slicesIn_finished distinct held finished) ⟨rfl, rfl⟩ rfl rfl rfl

theorem reclaim_trackDue (h : TrackDue due s) (table : HideTableSound s) : TrackDue due (reclaim s) := by
  unfold reclaim
  split
  · exact h
  · split
    · exact h
    next n rest list =>
      obtain ⟨r, held, numbered, finished⟩ := table.mem_completion.mp (list ▸ List.mem_cons_self .. : n ∈ s.hides.completion)
      exact h.freed (numbered ▸ h.slicesIn_finished table.distinct held finished) ⟨rfl, rfl⟩ rfl rfl rfl

/-! ## ABANDON (R61, R79) -/


theorem lineAbandoned_parts (hide : Num) (newest : Option StrobeId) (list : List Entry) (r : HideRecord) :
    (lineAbandoned hide newest list r).first = r.first ∧
      (lineAbandoned hide newest list r).inTrack = if r.number = hide then 0 else r.inTrack := by
  unfold lineAbandoned closedRange
  split <;> split <;> exact ⟨rfl, rfl⟩

/-- The state of an ABANDON before what ends every event. -/
def handedBack (hide : Num) (s : State) : State :=
  applyPending { raiseLine .hideAbandoned (detach (fun r => decide (r.hide = hide)) s) with
    hides := lineAbandonedTable hide s.feed.newest s.intake.list s.hides
    track := { s.track with slices := s.track.slices.filter fun sl => sl.hide ≠ hide } }

theorem handedBack_parts (hide : Num) (s : State) : (handedBack hide s).feed = s.feed ∧
    (handedBack hide s).intake = s.intake ∧
    (handedBack hide s).track.slices = s.track.slices.filter (fun sl => sl.hide ≠ hide) ∧
    (handedBack hide s).hides.records = s.hides.records.map (lineAbandoned hide s.feed.newest s.intake.list) := by
  refine ⟨by simp [handedBack], by simp [handedBack], by rw [handedBack, applyPending_slices], ?_⟩
  rw [handedBack, applyPending_hides]
  exact lineAbandonedTable_records ..


theorem takeAbandon_trackDue (hide : Num) (h : TrackDue due s) (distinct : DistinctNumbers s) :
    TrackDue due (takeAbandon hide s) := by
  rw [takeAbandon_eq]
  change TrackDue due (settle (handedBack hide s))
  obtain ⟨feed, intake, slices, records⟩ := handedBack_parts hide s
  have geometry : (handedBack hide s).settings.geometry = s.settings.geometry := by simp [handedBack]
  generalize handedBack hide s = t at feed intake slices records geometry
  have within : ∀ sl ∈ t.track.slices, sl ∈ s.track.slices ∧ sl.hide ≠ hide := fun sl held => by
    simpa [slices] using held
  have distinct' : DistinctNumbers t := by
    unfold DistinctNumbers
    rw [records, List.map_map]
    exact (congrArg List.Nodup (List.map_congr_left fun q _ => lineAbandoned_number hide _ _ q)).mpr distinct
  refine (settle_trail (c := .miss)).trackDue rfl distinct' (h.thinned ⟨⟨by rw [feed], geometry⟩, ?_,
    fun e held => ⟨e, intake ▸ held, rfl, rfl⟩, fun sl held => ⟨sl, (within sl held).1, rfl, id⟩, fun sl held => ?_,
    fun q' held => ?_, fun q' held => ?_⟩)
  · rw [strobesHeld, intake, slices]
    exact (List.filter_sublist.map _).append_right _
  · obtain ⟨there, other⟩ := within sl held
    obtain ⟨q, mine, number, unfinished⟩ := h.hide sl there
    refine ⟨_, records ▸ List.mem_map_of_mem mine, (lineAbandoned_number ..).trans number, ?_⟩
    rw [lineAbandoned_state, if_neg (number.symm ▸ other)]
    exact unfinished
  · obtain ⟨q, mine, rfl⟩ := List.mem_map.mp (records ▸ held)
    rw [(lineAbandoned_parts ..).2, lineAbandoned_number, slicesIn, slices, List.filter_filter]
    split
    case isTrue own =>
      refine (List.length_eq_zero_iff.mpr (List.filter_eq_nil_iff.mpr fun sl _ => ?_)).symm
      simp [own]
    case isFalse other =>
      rw [h.inTrack q mine, slicesIn]
      refine congrArg List.length (List.filter_congr fun sl _ => ?_)
      by_cases mine' : sl.hide = q.number
      · simp [mine', other]
      · simp [mine']
  · obtain ⟨q, mine, rfl⟩ := List.mem_map.mp (records ▸ held)
    obtain ⟨first, inTrack⟩ := lineAbandoned_parts hide s.feed.newest s.intake.list q
    refine ⟨q, mine, first, ?_, ?_⟩
    · rw [lineAbandoned_state]
      split
      · exact nofun
      · exact id
    · rw [lineAbandoned_state, inTrack]
      split
      · exact nofun
      · exact fun isOpen => ⟨isOpen, id⟩

/-! ## ANNOUNCE (R46 to R49) -/

/-- No slice is in the track of an open hide that a later one replaces. -/
theorem TrackDue.replaced_inTrack (h : TrackDue due s) (geometry : GeometryOk s.settings.geometry) (held : e ∈ s.intake.list)
    (found : openHide s = some r) (replaced : replaces e.num r = true) : r.inTrack = 0 := by
  obtain ⟨mine, isOpen⟩ := openHide_mem found
  have opened := h.opened r mine isOpen
  by_contra some
  have behind := opened.before (.inl (Nat.pos_of_ne_zero some)) e held
  have locked := h.locked_of_unfinished mine (HideState.unfinished_of_isOpen isOpen)
  have near := (h.scaled geometry locked).back_le opened.numbered (opened.past geometry)
  have before := older_of_back behind (by omega)
  simp [replaces, atOrOlder, before] at replaced

theorem madeRoom_trackDue (h : TrackDue due s) (geometry : GeometryOk s.settings.geometry) (table : HideTableSound s)
    (held : e ∈ s.intake.list) : TrackDue due (madeRoom e s) := by
  have consumed : ∀ {v : State}, TrackDue due v → TrackDue due (consumeCapture v) := fun h => h.same ⟨rfl, rfl⟩ rfl rfl rfl
  unfold madeRoom
  split
  next r found =>
    obtain ⟨mine, isOpen⟩ := openHide_mem found
    split
    next replaced =>
      exact h.freed ((h.inTrack r mine).symm.trans (h.replaced_inTrack geometry held found replaced)) ⟨rfl, rfl⟩ rfl rfl rfl
    next stays =>
      have ended : Trail (.release 0) s (endAt r.number (e.num - 1) true s) :=
        endAt_trail (e.num - 1) true mine rfl (HideState.unfinished_of_isOpen isOpen) rfl
      exact consumed (reclaim_trackDue (endAt_trackDue _ _ _ h table.distinct) (ended.hideTableSound (by simp) table))
  next => exact consumed (reclaim_trackDue h table)

theorem filledRecord_inTrack (e : Entry) (tag : Num) (edge : Option Pos) (s : State) :
    (filledRecord e tag edge s).inTrack = 0 ∧ (filledRecord e tag edge s).first = { num := e.num, pos := e.pos } := by
  unfold filledRecord HideRecord.checkEdge
  split <;> exact ⟨rfl, rfl⟩

/-- A record filled for an outstanding strobe. -/
theorem fillRecord_trackDue (edge : Option Pos) (h : TrackDue due s) (geometry : GeometryOk s.settings.geometry)
    (table : HideTableSound s) (locked : s.feed.sync = .locked) (held : e ∈ s.intake.list)
    (issued : s.feed.newest.isSome = true) : TrackDue due (fillRecord e tag edge s) := by
  obtain ⟨noSlice, first⟩ := filledRecord_inTrack e tag edge s
  have state := filledRecord_state e tag edge s
  have number := filledRecord_number e tag edge s
  rw [fillRecord_eq]
  refine TrackDue.same (s := { s with hides := s.hides.fill (filledRecord e tag edge s) }) ?_ ⟨by simp, by simp⟩ (by simp)
    (by simp) (by simp [HideTable.fill])
  generalize filledRecord e tag edge s = r at noSlice first state number
  have fresh : slicesIn s r.number = 0 := by
    rw [slicesIn, List.length_eq_zero_iff, List.filter_eq_nil_iff]
    intro sl there own
    obtain ⟨q, mine, its, _⟩ := h.hide sl there
    exact table.fresh q mine (its.trans ((of_decide_eq_true own).trans number))
  have apart : ∀ q ∈ (s.hides.fill r).records, q ∈ s.hides.records ∨ q = r := fun q there =>
    (List.mem_append.mp there).imp_right List.mem_singleton.mp
  refine { h with
           settling := fun settles => absurd (locked.symm.trans settles) (by decide)
           knife := h.knife
           hide := fun sl there => ?_
           inTrack := fun q there => ?_
           opened := fun q there isOpen => ?_ }
  · obtain ⟨q, mine, its⟩ := h.hide sl there
    exact ⟨q, List.mem_append_left _ mine, its⟩
  · obtain mine | rfl := apart q there
    · exact h.inTrack q mine
    · exact noSlice.trans fresh.symm
  · obtain mine | rfl := apart q there
    · exact { h.opened q mine isOpen with }
    · refine ⟨issued, ?_, ?_, fun entered => ?_⟩
      · rw [first]
        exact h.numbered _ (strobeOfEntry_mem held)
      · have near := h.list e held
        have once := owed_le due .lead
        have lead := geometry.lead
        rw [first]
        exact (show pastBy s e.pos ≤ s.settings.geometry.distance by omega).trans
          ((le_max_right _ _).trans (Nat.le_add_right _ _))
      · simp [noSlice, state] at entered

end Sys2Proof.Machine

/-! PROOFS. The agreement of track and hides over a step (O9). -/

namespace Sys2Proof.Machine

variable {c : Instr} {due : List RiseEvent} {s t : State} {e : Entry} {tag : Num} {r : HideRecord}

/-! ## The moves -/

theorem RiseSound.quiet (h : RiseSound [] s) (path : Trail c s t) (quiet : moves c = false) : RiseSound [] t where
  geometry := by
    rw [path.settingsKept.geometry fun g own => Bool.eq_false_iff.mp quiet (own ▸ rfl)]
    exact h.geometry
  outstanding := path.outstandingSound quiet h.outstanding
  table := path.hideTableSound (fun f tag own => Bool.eq_false_iff.mp quiet (own ▸ rfl)) h.table
  rest := path.keeps (fun _ _ => Change.restEmpty) h.rest
  track := path.trackDue quiet h.table.distinct h.track

theorem forceOpenEnd_trackDue (h : TrackDue due s) (distinct : DistinctNumbers s) : TrackDue due (forceOpenEnd s) := by
  unfold forceOpenEnd
  split
  · exact endAt_trackDue _ _ _ h distinct
  · exact h

theorem takeGeometry_trackDue {g : Geometry} (h : TrackDue [] s) (distinct : DistinctNumbers s) (empty : Emptied s)
    (passes : geometryItem g = 0) : TrackDue [] (takeGeometry g s) := by
  have geometry := geometryOk_of_item passes
  have pitch := geometry.pitch
  have way : ahead (takeGeometry g s) = g.pitch := by
    simp only [ahead, takeGeometry, restartWindow, openWindow, posPlus]
    generalize g.pitch = p at pitch
    bv_omega
  refine .ofEmptied (fun _ => ?_) h.back empty (h.emptied_inTrack distinct empty.2.2)
  rw [way]
  exact ⟨by rw [owed_nil]; omega, le_rfl⟩

theorem openNew_trackDue (h : RiseSound [] s) (held : e ∈ s.intake.list) (issued : s.feed.newest.isSome = true)
    (available : recordAvailable e.num s = true) : TrackDue [] (openNew e tag s) ∧ HideTableSound (openNew e tag s) := by
  obtain ⟨roomSound, free, none⟩ := madeRoom_sound h.table available
  have room := madeRoom_trackDue h.track h.geometry h.table held
  obtain ⟨n, path⟩ := madeRoom_trail e s
  have locked := (outstandingSound_iff.mp h.outstanding).1.locked held
  have intake : (madeRoom e s).intake = s.intake := (madeRoom_roomed e s).intake
  obtain ⟨feed, _⟩ := madeRoom_feed e s
  rw [openNew_eq]
  refine ⟨fillRecord_trackDue _ room ?_ roomSound ?_ ?_ ?_, (roomSound.fill (filledRecord_number ..)
    (filledRecord_state ..) free none).of (fillRecord_hides e tag (edgeFor e s) (madeRoom e s))⟩
  · rw [path.settingsKept.geometry (by simp)]
    exact h.geometry
  · rw [feed]
    split <;> exact locked
  · rw [intake]
    exact held
  · rw [feed]
    split <;> exact issued

/-- Every move keeps the agreement. -/
theorem Moved.trackDue (moved : Moved s t) (h : RiseSound [] s) : TrackDue [] t ∧ DistinctNumbers t := by
  have distinct := h.table.distinct
  have along : Trail .gaugeReset s t → DistinctNumbers t := fun path => (path.hideTableSound (by simp) h.table).distinct
  cases moved with
  | none => exact ⟨h.track, distinct⟩
  | pulse a b order =>
    have start : RiseSound [] { s with feed := { s.feed with botRef := ⟨a, b⟩ } } :=
      ⟨h.geometry, h.outstanding, h.table, h.rest, h.track.same ⟨rfl, rfl⟩ rfl rfl rfl⟩
    have after := bottomPulse_riseSound order (s.feed.botRef.step ⟨a, b⟩) start
    exact ⟨after.track, after.table.distinct⟩
  | reply n reply =>
    refine departDue_trackDue (h.track.keyed ⟨rfl, rfl⟩ ?_ rfl rfl) h.geometry distinct
    rw [storeReply, List.map_map]
    refine (congrArg (List.Sublist · _) (List.map_congr_left fun e _ => ?_)).mpr (.refl _)
    rw [Function.comp_apply]
    split <;> rfl
  | announce e tag held issued available =>
    obtain ⟨track, table⟩ := openNew_trackDue (tag := tag) h held issued available
    exact ⟨track, table.distinct⟩
  | ended r e forced isOpen =>
    obtain ⟨held, stillOpen⟩ := openHide_mem isOpen
    exact ⟨endAt_trackDue _ _ _ h.track distinct,
      along (endAt_trail e forced held rfl (HideState.unfinished_of_isOpen stillOpen) rfl)⟩
  | gaugeReset =>
    obtain ⟨track, distinct'⟩ := departAll_trackDue s.intake.list.length h.track h.geometry distinct
    exact ⟨forceOpenEnd_trackDue track distinct', along ((departAll_trail rfl _).trans (forceOpenEnd_trail rfl))⟩
  | abandoned hide r found unfinished =>
    exact ⟨takeAbandon_trackDue hide h.track distinct, along (takeAbandon_trail found unfinished rfl)⟩
  | released hide r found finished =>
    exact ⟨takeRelease_trackDue h.track distinct found finished, distinct.sublist (List.filter_sublist.map _)⟩
  | geometry g standby passes =>
    exact ⟨takeGeometry_trackDue h.track distinct (h.rest (by rw [standby]; rfl)) passes, distinct⟩
  | scale v =>
    exact restarted_trackDue .scale h.track.back distinct fun r held => h.track.finished_inTrack distinct held

theorem MovedQuietly.trackDue (moved : MovedQuietly s t) (h : RiseSound [] s) : TrackDue [] t := by
  obtain ⟨d, quiet, v, u, before, move, after⟩ := moved
  obtain ⟨track, distinct⟩ := move.trackDue (h.quiet before quiet)
  exact after.trackDue quiet distinct track

/-! ## The resets -/

/-- A numbering that begins at 0, with nothing in the machine. -/
theorem TrackDue.initial (geometry : GeometryOk s.settings.geometry) (h : s.feed.h = 0) (f : s.feed.f = 0)
    (nextPos : s.feed.nextPos = BitVec.ofNat 32 s.settings.geometry.pitch) (list : s.intake.list = [])
    (slices : s.track.slices = []) (records : s.hides.records = []) : TrackDue [] s := by
  have pitch := geometry.pitch
  have way : ahead s = s.settings.geometry.pitch := by
    unfold ahead
    rw [nextPos, h]
    generalize s.settings.geometry.pitch = p at pitch
    bv_omega
  refine .ofEmptied (fun _ => ?_) (by rw [h, f]; decide) ⟨list, slices, ?_⟩ (by simp [records])
  · rw [way, owed_nil]
    omega
  · simp [anyUnfinished, records]

theorem settingsSound_step (sound : SettingsSound s) (next : step s = .next t) : SettingsSound t :=
  step_keeps (fun _ _ => id) (fun _ _ _ => Change.settingsSound) settingsSound_powerOn (fun _ => SettingsSound.resetBlocks)
    sound next

/-- A step keeps the agreement of track and hides. -/
theorem step_trackDue (table : HideTableSound s) (settings : SettingsSound s) (outstanding : OutstandingSound s)
    (rest : RestEmpty s) (track : TrackDue [] s) (next : step s = .next t) : TrackDue [] t := by
  obtain ⟨q, moved⟩ | ⟨pins, q, d, quiet, path⟩ | ⟨q, d, quiet, path⟩ := step_moved next
  · exact moved.trackDue ⟨settings.geometry, outstanding, table, rest, track.same ⟨rfl, rfl⟩ rfl rfl rfl⟩
  · exact path.trackDue quiet List.nodup_nil
      (.initial (settingsSound_powerOn pins q).geometry rfl rfl rfl rfl rfl rfl)
  · have geometry : GeometryOk (resetBlocks { s with pending := q }).settings.geometry := settings.resetBlocks.geometry
    exact path.trackDue quiet List.nodup_nil (.initial geometry rfl rfl rfl rfl rfl rfl)

/-! ## Positions and number of the slices (R70) -/

theorem TrackDue.slices_apart (h : TrackDue [] s) (geometry : GeometryOk s.settings.geometry) :
    (s.track.slices.map fun sl => pastBy s sl.pos).Pairwise (fun a b => b < a) := by
  rw [List.pairwise_map]
  refine h.order_parts.1.imp_of_mem fun {x y} hx hy further => ?_
  have apart := (h.scaled geometry (locked_of_slice h hx)).further (h.numbered _ (strobeOfSlice_mem hx))
    (h.numbered _ (strobeOfSlice_mem hy)) further
  have pitch := geometry.pitch
  dsimp only at apart
  omega

/-- A slice is at most 480 strobes back. -/
theorem TrackDue.slice_back (h : TrackDue [] s) (geometry : GeometryOk s.settings.geometry) {sl : Slice}
    (held : sl ∈ s.track.slices) : 1 ≤ strobesBack s sl.strobe ∧ strobesBack s sl.strobe ≤ 480 := by
  have numbered := h.numbered _ (strobeOfSlice_mem held)
  have scaled := h.scaled geometry (locked_of_slice h held)
  have placed := scaled.placed numbered
  have near := scaled.near
  have knife := h.knife sl held
  have far := geometry.slices
  rw [owed_nil] at knife
  have few : strobesBack s sl.strobe * s.settings.geometry.pitch < 481 * s.settings.geometry.pitch := by
    dsimp only at placed
    omega
  exact ⟨numbered.1, Nat.lt_succ_iff.mp (Nat.lt_of_mul_lt_mul_right few)⟩

theorem TrackDue.slices_length (h : TrackDue [] s) (geometry : GeometryOk s.settings.geometry) :
    s.track.slices.length ≤ 480 := by
  have distinct : (s.track.slices.map fun sl => strobesBack s sl.strobe).Nodup := by
    rw [List.Nodup, List.pairwise_map]
    exact h.order_parts.1.imp fun further => (Nat.ne_of_lt further).symm
  have within : (s.track.slices.map fun sl => strobesBack s sl.strobe) ⊆ List.range' 1 480 := fun b held => by
    obtain ⟨sl, there, rfl⟩ := List.mem_map.mp held
    have back := h.slice_back geometry there
    exact List.mem_range'_1.mpr ⟨back.1, by omega⟩
  have short := (distinct.subperm within).length_le
  rwa [List.length_map, List.length_range'] at short

/-- Settles O9: every move keeps the track's agreement with the hides, over the events of a rise one by one; of strobes
that stand a pitch apart at most 480 fit before the knife. -/
theorem hideTableStaysSound : Obligations.HideTableStaysSound := by
  intro s t table next
  refine ⟨step_hideTableSound table next, fun settings outstanding rest track => ?_⟩
  have after := step_trackDue table settings outstanding rest (trackSound_iff.mp track) next
  have geometry := (settingsSound_step settings next).geometry
  exact ⟨trackSound_iff.mpr after, after.slices_apart geometry, after.slices_length geometry⟩

end Sys2Proof.Machine
